-- ==== Sys2Proof/Word.lean ====
section
/-! DEFINITION. The word types of the ET416: bytes of frames and blocks, 16- and 32-bit fields, 24-bit audio samples. -/

namespace Sys2Proof

/-- One byte of a link frame or of a block of the recording card (Formats, 11.1). -/
abbrev Byte := BitVec 8

/-- A 16-bit quantity: a lane set, a roll number, a REQUEST tag, a CRC-16 (11.1). -/
abbrev Word16 := BitVec 16

/-- A 32-bit quantity: a CRC-32 value, a station set (11.1). -/
abbrev Word32 := BitVec 32

/-- A 24-bit two's complement audio sample (Pins, LIN0–LIN15; R10 gives its range). -/
abbrev Sample := BitVec 24

end Sys2Proof
end

