-- ==== Sys2Proof/Syntax.lean ====
section
/-! DEFINITION. The commands of the ET416: one constructor of `Instr` for each row of spec/opcode_table.json. -/

namespace Sys2Proof

/-- What the medium carried from the moment it left idle to the moment it returned to idle (R161, R163): its bits in the
order carried. -/
structure Wire where
  bits : List Bool
  deriving DecidableEq, Repr

/-- The levels sampled at reset release (R159): STN0–STN4 as a number, ROLE high, JAMEN high. -/
structure Straps where
  stn   : BitVec 5
  role  : Bool
  jamen : Bool
  deriving DecidableEq, Repr

/-- What ended the run of valid word-clock periods (R2): an edge after an interval outside 5 percent, or no edge for
1.5 nominal periods. Times are in picoseconds (notes/assumptions/3). -/
inductive ClockFault where
  | badPeriod (interval : Nat)
  | noEdge (elapsed : Nat)
  deriving DecidableEq, Repr

/-- The two debounced local lines (R49). -/
inductive Line where
  | roll
  | mark
  deriving DecidableEq, Repr

/-- The commands, one for each row of spec/opcode_table.json, in the table's order. A command names one of the part's
steps; its operands are what comes from outside the part. -/
inductive Instr where
  /-- RESET: the part's one reset, with the levels at the pins at reset release. -/
  | reset (straps : Straps)
  /-- FRAME_STORE: one word-clock period, its interval, and what each lane delivered (`none`: no valid word). -/
  | frameStore (interval : Nat) (words : Vector (Option Sample) 16)
  /-- CLOCK_LOSS: an invalid period, or no edge. -/
  | clockLoss (why : ClockFault)
  /-- QUALIFYING_PERIOD: one word-clock period while the clock is LOST. -/
  | qualifyingPeriod (interval : Nat)
  /-- CLOCK_RETURN -/
  | clockReturn
  /-- METER_WINDOW_COMPLETE -/
  | meterWindowComplete
  /-- TAIL_END -/
  | tailEnd
  /-- LENGTH_SPLIT -/
  | lengthSplit
  /-- FRAME_DRAW -/
  | frameDraw
  /-- ROLL: a ROLL frame ended on the medium. -/
  | roll (wire : Wire)
  /-- CUT -/
  | cut (wire : Wire)
  /-- STATE -/
  | state (wire : Wire)
  /-- MARK -/
  | mark (wire : Wire)
  /-- NOTE -/
  | note (wire : Wire)
  /-- JAM -/
  | jam (wire : Wire)
  /-- REPORT_RECEIVED -/
  | reportReceived (wire : Wire)
  /-- RECEIVE_FILTER_DISCARD: bits ended on the medium that are no frame the filter takes. -/
  | receiveFilterDiscard (wire : Wire)
  /-- QUERY_STATUS: a REQUEST frame of this kind ended on the medium; so for the nine after it. -/
  | queryStatus (wire : Wire)
  /-- QUERY_METERS -/
  | queryMeters (wire : Wire)
  /-- QUERY_TAKE -/
  | queryTake (wire : Wire)
  /-- SEARCH_JOURNAL -/
  | searchJournal (wire : Wire)
  /-- ARM -/
  | arm (wire : Wire)
  /-- MIX -/
  | mix (wire : Wire)
  /-- VERIFY_TAKE -/
  | verifyTake (wire : Wire)
  /-- PREPARE_MEDIA -/
  | prepareMedia (wire : Wire)
  /-- RELEASE_MEDIA -/
  | releaseMedia (wire : Wire)
  /-- ABORT -/
  | abort (wire : Wire)
  /-- ROLL_LINE_RISE: the position at which the line first showed high (R49). -/
  | rollLineRise (edge : Nat)
  /-- ROLL_LINE_FALL: the position at which the line first showed low. -/
  | rollLineFall (edge : Nat)
  /-- MARK_PULSE: the position of the accepted rising edge of the MARK line. -/
  | markPulse (edge : Nat)
  /-- CARD_INSERTION: the level of WPROT at the moment the insertion is taken (R103). -/
  | cardInsertion (wprot : Bool)
  /-- CARD_REMOVAL -/
  | cardRemoval
  /-- SIZE_READ_COMPLETE: the number of blocks reported, or a failure. -/
  | sizeReadComplete (op : Nat) (blocks : Option Nat)
  /-- HEADER_READ_COMPLETE: the bytes of block 0, or a failure. -/
  | headerReadComplete (op : Nat) (block : Option (List Byte))
  /-- SLOT_READ_COMPLETE: the bytes of a journal block, or a failure. -/
  | slotReadComplete (op : Nat) (block : Option (List Byte))
  /-- JOURNAL_WRITE_COMPLETE -/
  | journalWriteComplete (op : Nat) (ok : Bool)
  /-- DEFERRED_PROVISIONAL_WRITE -/
  | deferredProvisionalWrite
  /-- HEADER_WRITE_COMPLETE -/
  | headerWriteComplete (op : Nat) (ok : Bool)
  /-- SEGMENT_WRITE_COMPLETE: success, or the first block that failed (R121). -/
  | segmentWriteComplete (op : Nat) (failed : Option Nat)
  /-- OPERATION_TIMEOUT: 500 ms have passed since the grant of the operation. -/
  | operationTimeout (op : Nat)
  /-- PREPARE_HEADER_WRITE_ASK -/
  | prepareHeaderWriteAsk
  /-- PREPARE_HEADER_WRITE_COMPLETE -/
  | prepareHeaderWriteComplete (op : Nat) (ok : Bool)
  /-- PREPARE_ZERO_WRITE_COMPLETE -/
  | prepareZeroWriteComplete (op : Nat) (ok : Bool)
  /-- RELEASE_COMPLETE -/
  | releaseComplete
  /-- VERIFY_READ_COMPLETE: the bytes of the block read, or a failure. -/
  | verifyReadComplete (op : Nat) (block : Option (List Byte))
  /-- INITIAL_STATE: the first idle medium after reset release. -/
  | initialState
  /-- TRANSMIT_ATTEMPT_START: the medium has been idle for an interframe gap. -/
  | transmitAttemptStart
  /-- TRANSMIT_COMPLETE: every bit of the attempt read back as sent. -/
  | transmitComplete
  /-- COLLISION: a bit of the attempt read back as 0 where 1 was sent. -/
  | collision
  /-- BACKOFF_COMPLETE: the idle slots of the back-off have all been counted. -/
  | backoffComplete
  /-- UNKNOWN_REQUEST: a REQUEST frame whose kind code names no request kind, or that holds none. -/
  | unknownRequest (wire : Wire)
  /-- LINE_LEVEL_ADOPTED: the first level of a local line held for 10 ms after reset release. -/
  | lineLevelAdopted (line : Line) (level : Bool)
  deriving DecidableEq, Repr

end Sys2Proof
end

