-- ==== Sys2Proof/Machine/State.lean ====
section
/-! DEFINITION. The state of the ET416, block by block as the manual's block diagram divides it, and the state after reset. -/

namespace Sys2Proof.Machine

/-! ### Lane intake and capture ring -/

/-- R1. -/
inductive LaneState where
  | off | active | lost
  deriving DecidableEq, Repr

/-- R2. -/
inductive ClockState where
  | lost | running
  deriving DecidableEq, Repr

/-- The expected sample rate (R2, R4). -/
inductive SampleRate where
  | hz48000 | hz96000
  deriving DecidableEq, Repr

/-- R9. -/
inductive Routing where
  | off | l | r | both
  deriving DecidableEq, Repr

/-- One frame of the capture ring (R5). -/
structure RingFrame where
  /-- The stored value of each lane: its sample, or 0 (R1). -/
  lanes   : Vector Sample 16
  /-- Bit n is set when lane n delivered no valid word. -/
  invalid : Word16
  mixL    : Sample
  mixR    : Sample
  /-- R10. -/
  clip    : Bool
  deriving DecidableEq, Repr

/-- The lane intake (R1–R11) and the capture ring (R14). -/
structure Intake where
  clock         : ClockState
  qualification : Nat
  rate          : SampleRate
  position      : Nat
  lanes         : Vector LaneState 16
  armMask       : Word16
  nextArm       : Option Word16
  routing       : Vector Routing 16
  gain          : Vector Byte 16
  /-- Lanes 0–15, MIX L, MIX R (R11). -/
  meters        : Vector Nat 18
  windowCount   : Nat
  windowMax     : Vector Nat 18
  /-- The ring's frame slots (R14): pairs of slot number and frame, slot numbers strictly rising, only slots written
  since reset listed. -/
  ring          : List (Nat × RingFrame)
  fillStart     : Nat
  deriving DecidableEq, Repr

/-! ### Timecode unit -/

/-- R21. -/
inductive RateCode where
  | r24 | r25 | r30 | df
  deriving DecidableEq, Repr

/-- A timecode label hh:mm:ss:ff. -/
structure Label where
  hh : Nat
  mm : Nat
  ss : Nat
  ff : Nat
  deriving DecidableEq, Repr

/-- R21. -/
structure Timecode where
  rate           : RateCode
  anchorPosition : Nat
  anchorIndex    : Nat
  jammed         : Bool
  deriving DecidableEq, Repr

/-! ### Take engine -/

/-- R37. -/
inductive TakeState where
  | offline | standby | rolling | tail
  deriving DecidableEq, Repr

/-- R42. -/
inductive RefusalReason where
  | notReady | journalFull | backlog
  deriving DecidableEq, Repr

/-- A take key: origin station and roll number. -/
structure TakeKey where
  origin : Nat
  roll   : Word16
  deriving DecidableEq, Repr

/-- R37–R53. -/
structure Engine where
  takeState     : TakeState
  /-- The index of the open take's record in the mirror. -/
  openTake      : Option Nat
  /-- The holder map, in ascending station order. -/
  holders       : List TakeKey
  pendingStop   : Option Nat
  /-- The last-roll table (R40); entry i is origin station i + 1. -/
  lastRoll      : Vector (Option Word16) 30
  /-- Bit n is set when station n is followed. -/
  followSet     : Word32
  ownRoll       : Word16
  refusal       : Option RefusalReason
  /-- The level of the ROLL line; `none` before its first level is adopted (R49). -/
  rollLine      : Option Bool
  /-- A rising edge of the ROLL line has been taken since reset (R51). -/
  rollRiseTaken : Bool
  /-- The level of the MARK line last taken; `none` before its first level is adopted (R49). -/
  markLine      : Option Bool
  deriving DecidableEq, Repr

/-! ### Slate -/

/-- The stamp of a slate field: revision and station (R63). -/
structure SlateStamp where
  revision : Word16
  station  : Nat
  deriving DecidableEq, Repr

/-- R63. -/
inductive Disposition where
  | none | falseStart | wild | noGood
  deriving DecidableEq, Repr

/-- The five slate fields, each with its stamp (R63). -/
structure Slate where
  scene            : List Byte
  sceneStamp       : SlateStamp
  number           : Nat
  numberStamp      : SlateStamp
  circled          : Bool
  circledStamp     : SlateStamp
  disposition      : Disposition
  dispositionStamp : SlateStamp
  text             : List Byte
  textStamp        : SlateStamp
  deriving DecidableEq, Repr

/-- A marker of a take (R75). -/
structure Marker where
  frame  : Nat
  kind   : Nat
  origin : Nat
  deriving DecidableEq, Repr

/-! ### Take records and the journal -/

/-- The states of a record (R80); UNREADABLE is the mirror entry `MirrorEntry.unreadable`. -/
inductive RecordState where
  | opened | closing | closed | interrupted | verified | damaged
  deriving DecidableEq, Repr

/-- GAP and DROPOUT notes (R13, R16); `frame` is take-relative. -/
inductive DefectNote where
  | gap (frame frames : Nat)
  | dropout (lane frame frames : Nat)
  deriving DecidableEq, Repr

/-- First block and block count. -/
structure Extent where
  first : Nat
  count : Nat
  deriving DecidableEq, Repr

/-- The flags of a take record: bits 0–12 in the order of the journal record's flags field (R82, 11.5). -/
abbrev TakeFlags := BitVec 13

/-- A take record (R81). -/
structure Record where
  index      : Nat
  generation : Nat
  key        : TakeKey
  continues  : Option Nat
  state      : RecordState
  flags      : TakeFlags
  start      : Nat
  stop       : Option Nat
  startLabel : Label
  /-- The rate code of the start label (11.5, offset 30). -/
  labelRate  : RateCode
  recorded   : Nat
  lost       : Nat
  durable    : Nat
  armed      : Word16
  mixPresent : Bool
  rate       : SampleRate
  frameBytes : Nat
  digest     : Option Word32
  /-- One per track, in track order. -/
  peaks      : List Nat
  clipCount  : Nat
  joined     : List TakeKey
  slate      : Slate
  markers    : List Marker
  notes      : List DefectNote
  extents    : List Extent
  deriving DecidableEq, Repr

/-- What the mirror holds for an index (R83). -/
inductive MirrorEntry where
  | record (r : Record)
  | unreadable
  deriving DecidableEq, Repr

/-- A mirror entry with its slot's flags. -/
structure MirrorSlot where
  entry      : MirrorEntry
  /-- The write-in-flight flag (R86). -/
  inFlight   : Bool
  /-- The amendment-pending flag (R87). -/
  amend      : Bool
  /-- The slot holds a record loaded at mount, an UNREADABLE entry, or a record whose first write has completed (R88). -/
  firstDone  : Bool
  /-- The provisional write is held back for the slot below (R88). -/
  held       : Bool
  /-- The MODEL's own field (notes/assumptions/21): the bytes of the durable prefix of a take that was abandoned, at its
  abandonment (R143). Journal writes after it cut the extents there (R85, R92). -/
  keptBytes  : Option Nat
  deriving DecidableEq, Repr

/-- The journal (R83, R84): entry i of the mirror is take index i + 1. -/
structure Journal where
  mirror    : List MirrorSlot
  nextIndex : Nat
  deriving DecidableEq, Repr

/-! ### Media manager -/

/-- R102. -/
inductive MediaState where
  | absent | mounting | unprepared | ready | writeProtected | full | faulted | released
  deriving DecidableEq, Repr

/-- The recording profile of a header (R105). -/
structure Profile where
  rate        : SampleRate
  frameRate   : RateCode
  armMask     : Word16
  mixEnable   : Bool
  /-- In tenths of a second. -/
  preRoll     : Nat
  /-- In tenths of a second. -/
  postRoll    : Nat
  /-- In minutes. -/
  maxLength   : Nat
  followSet   : Word32
  deriving DecidableEq, Repr

/-- An entry of the defect list (R109): its block, and whether its origin is GROWN (else GIVEN). -/
structure Defect where
  block : Nat
  grown : Bool
  deriving DecidableEq, Repr

/-- Where a mount stands (R107). -/
inductive Mount where
  | none
  | sizing
  | header
  /-- The scan (R95): the slot to be examined next, the last slot of the batch asked, the run of UNREADABLE entries just
  below `next`, and the completed reads not yet examined (`none`: all 4 reads failed). -/
  | scan (next last run : Nat) (results : List (Nat × Option (List Byte)))
  deriving DecidableEq, Repr

/-- The media manager (R102–R119). The header image is `generation`, `headerProfile`, `defects` and `overflowed`. -/
structure Media where
  state          : MediaState
  protectMark    : Bool
  capacity       : Option Nat
  generation     : Option Nat
  headerProfile  : Option Profile
  defects        : List Defect
  /-- The header flag DEFECTS OVERFLOWED. -/
  overflowed     : Bool
  /-- The profile in use (R106). -/
  profile        : Option Profile
  cursor         : Option Nat
  headerInFlight : Bool
  headerPending  : Bool
  mount          : Mount
  deriving DecidableEq, Repr

/-! ### Port arbiter -/

/-- What a media operation does (R120). -/
inductive OpKind where
  | sizeRead
  | headerRead
  | slotRead (slot : Nat)
  | verifyRead (position block : Nat)
  | journalWrite (slot : Nat)
  | headerWrite
  | prepareHeader
  | prepareZero
  | segmentWrite (buffer piece : Nat)
  deriving DecidableEq, Repr

/-- A media operation, waiting or outstanding. -/
structure Op where
  /-- The MODEL's own number of the operation, never used again (notes/assumptions/7). -/
  id      : Nat
  kind    : OpKind
  /-- 1 at the first read or write, up to 4. -/
  attempt : Nat
  /-- The composed block of a journal or header write, from its first grant on (R85, R86, R111). -/
  block   : Option (List Byte)
  /-- The composed journal write is the final write of its take (R90). -/
  isFinal : Bool
  deriving DecidableEq, Repr

/-- The arbiter (R120): waiting operations in the order asked, and the occupied outstanding slots. -/
structure Port where
  waiting     : List Op
  outstanding : List Op
  /-- The MODEL's own counter of operations. -/
  nextOp      : Nat
  deriving DecidableEq, Repr

/-! ### Segment writer and write-side digests -/

/-- R134. -/
inductive WriteDigest where
  | notBegun
  | running (crc : Word32)
  | finished (digest : Word32)
  deriving DecidableEq, Repr

/-- An entry of the writer take queue (R123). -/
structure QueueEntry where
  index      : Nat
  /-- The next-needed frame w (R15). -/
  next       : Nat
  /-- The current buffer. -/
  current    : Option Nat
  sealedSegs : Nat
  completed  : Nat
  /-- The durable prefix (R136): segments and data bytes. -/
  durSegs    : Nat
  durBytes   : Nat
  /-- Completed segments above the durable prefix: sequence number and data bytes (needed by R136 once the descriptor is
  dropped). -/
  above      : List (Nat × Nat)
  digest     : WriteDigest
  deriving DecidableEq, Repr

/-- R131. -/
inductive PositionTag where
  | first | middle | last | only
  deriving DecidableEq, Repr

/-- The state of one write of a segment (R127). -/
inductive PieceState where
  | waiting | outstanding | completed | failed
  deriving DecidableEq, Repr

/-- One write of a segment: the original, or a rewrite piece (R127). -/
structure Piece where
  first    : Nat
  count    : Nat
  /-- The block of the segment where its data begins. -/
  segBlock : Nat
  state    : PieceState
  deriving DecidableEq, Repr

/-- A segment descriptor with its buffer's bytes (R127). -/
structure Segment where
  take       : Nat
  sequence   : Option Nat
  tag        : Option PositionTag
  run        : Extent
  blocksUsed : Nat
  offset     : Nat
  writes     : List Piece
  failures   : Nat
  tapped     : Bool
  /-- The take was abandoned; the buffer waits only for its outstanding writes to end (R143). -/
  orphan     : Bool
  /-- The bytes placed in the buffer; their number is the descriptor's data bytes. -/
  data       : List Byte
  deriving DecidableEq, Repr

/-- R126. -/
inductive BufferPhase where
  | filling | ready | inFlight | failed
  deriving DecidableEq, Repr

/-- A staging buffer (R126). -/
inductive Buffer where
  | free
  | used (phase : BufferPhase) (seg : Segment)
  deriving DecidableEq, Repr

/-- The segment writer (R123, R126). -/
structure Writer where
  queue   : List QueueEntry
  buffers : Vector Buffer 8
  deriving DecidableEq, Repr

/-! ### Verify unit -/

/-- What a started PREPARE MEDIA holds (R117, R118). -/
inductive PreparePhase where
  | waiting | header | zero
  deriving DecidableEq, Repr

/-- R117: the profile as given, the merged list and the new generation. -/
structure PreparePlan where
  generation : Nat
  profile    : Profile
  defects    : List Defect
  phase      : PreparePhase
  deriving DecidableEq, Repr

/-- Who asked for a long operation (R147). -/
structure Requester where
  station : Nat
  tag     : Word16
  deriving DecidableEq, Repr

/-- The long-operation slot (R147). -/
inductive LongOp where
  | idle
  | verifying (who : Requester) (index : Nat)
  | preparing (who : Requester) (plan : PreparePlan)
  | releasing (who : Requester)
  deriving DecidableEq, Repr

/-- A position of the verify window (R150), with its attempt count. -/
inductive WindowEntry where
  | waiting (op attempt : Nat)
  | outstanding (op attempt : Nat)
  | held (attempt : Nat) (block : List Byte)
  | givenUp (attempt : Nat)
  deriving DecidableEq, Repr

/-- The verify unit (R147–R153). -/
structure Verify where
  slot       : LongOp
  cursor     : Nat
  /-- The block count T. -/
  blockCount : Nat
  /-- The number of positions in the read order: T, or fewer at a shortfall. -/
  positions  : Nat
  /-- The stream length in bytes (R149). -/
  length     : Nat
  /-- The extent list whose blocks, in order, are the read order (R149). -/
  extents    : List Extent
  badBlocks  : Nat
  /-- Blocks read successfully so far (R153). -/
  readOk     : Nat
  shortfall  : Bool
  /-- The positions from the cursor up, at most 4. -/
  window     : List WindowEntry
  /-- The read-side digest context. -/
  digest     : Option Word32
  deriving DecidableEq, Repr

/-! ### Link controller -/

/-- The flags of a STATE frame (R172). -/
structure LinkFlags where
  jammed      : Bool
  linkTrouble : Bool
  conflict    : Bool
  deriving DecidableEq, Repr

/-- The content of a STATE frame (R172). -/
structure StateContent where
  take    : TakeState
  media   : MediaState
  clock   : ClockState
  key     : Option TakeKey
  reason  : Option RefusalReason
  flags   : LinkFlags
  deriving DecidableEq, Repr

/-- R175. -/
inductive OutcomeClass where
  | done | accepted | busy | refused | aborted | mediaChanged
  deriving DecidableEq, Repr

/-- The details of R175, with `none` for no detail. -/
inductive Detail where
  | none | unknownRequest | badArgument | noMedia | notPrepared | writeProtected | noSuchTake | takeOpen | deferred
  | readErrors | digestMismatch
  deriving DecidableEq, Repr

/-- A REPORT (R175); `kind` is the request kind's code as received, `reply` the composed reply bytes. -/
structure Report where
  dest    : Nat
  tag     : Word16
  kind    : Byte
  outcome : OutcomeClass
  detail  : Detail
  reply   : List Byte
  deriving DecidableEq, Repr

/-- What a queued frame carries (R169). -/
inductive TxBody where
  | roll (number : Word16) (rate : RateCode) (label : Label)
  | cut (number : Word16) (rate : RateCode) (label : Label)
  | mark (key : Option TakeKey) (rate : RateCode) (label : Label) (kind : Nat)
  | state (content : StateContent)
  | report (r : Report)
  deriving DecidableEq, Repr

/-- What the frame at the head is doing (R166, R167). -/
inductive TxPhase where
  | idle
  | attempting
  /-- In back-off for this many idle slots. -/
  | backoff (slots : Nat)
  deriving DecidableEq, Repr

/-- A frame of the transmit queue. -/
structure TxFrame where
  body     : TxBody
  /-- The number of the attempt last begun; 0 while the frame is waiting (R169). -/
  attempts : Nat
  phase    : TxPhase
  deriving DecidableEq, Repr

/-- R159: ROLE low is FOLLOW, high is LOCAL. -/
inductive Role where
  | follow | localOnly
  deriving DecidableEq, Repr

/-- The link controller (R159–R172). -/
structure Link where
  /-- The station number, 0–31. -/
  station     : Nat
  role        : Role
  jamen       : Bool
  queue       : List TxFrame
  owed        : Bool
  linkTrouble : Bool
  conflict    : Bool
  /-- The first idle medium after reset release has not been seen yet (R172). -/
  initialDue  : Bool
  /-- The bits this station is sending on the medium during an attempt, in their order (R161, R166). -/
  driving     : Option (List Bool)
  deriving DecidableEq, Repr

/-! ### The whole machine -/

/-- The state of the part, and the queue of commands waiting for it. -/
structure State where
  intake    : Intake
  timecode  : Timecode
  engine    : Engine
  /-- The pending slate (R63). -/
  slate     : Slate
  journal   : Journal
  media     : Media
  port      : Port
  writer    : Writer
  verify    : Verify
  link      : Link
  /-- The MODEL's own count of free values drawn (notes/assumptions/2). -/
  freeDraws : Nat
  /-- The commands that wait, first in, first out. -/
  pending   : List Instr
  deriving DecidableEq, Repr

/-- Why the part stops with a fault. No rule of the manual stops the part: every command has an effect or none, so no
constructor is needed and no fault can be raised (safe). -/
inductive Fault : Type
  deriving DecidableEq, Repr

/-- Why a command is refused. -/
inductive Refusal where
  /-- Raised only by an arm of `exec` for a command that has no meaning yet; at present by none (safe). -/
  | notModelled (mnemonic : String)
  deriving DecidableEq, Repr

/-- A slate with every field unset (R63). -/
def Slate.unset : Slate where
  scene := []
  sceneStamp := ⟨0, 0⟩
  number := 0
  numberStamp := ⟨0, 0⟩
  circled := false
  circledStamp := ⟨0, 0⟩
  disposition := .none
  dispositionStamp := ⟨0, 0⟩
  text := []
  textStamp := ⟨0, 0⟩

/-- The machine right after reset (R1, R2, R5, R6, R9, R11, R14, R21, R37, R63, R83, R84, R102, R111, R120, R123, R126,
R147, R158, R159, R169). The strap levels stand at 0 here (notes/assumptions/1); the command RESET samples them. -/
def State.reset : State where
  intake :=
    { clock := .lost, qualification := 0, rate := .hz48000, position := 0
      lanes := Vector.replicate 16 .off, armMask := 0, nextArm := none
      routing := Vector.replicate 16 .off, gain := Vector.replicate 16 128
      meters := Vector.replicate 18 0, windowCount := 0, windowMax := Vector.replicate 18 0
      ring := [], fillStart := 0 }
  timecode := { rate := .r25, anchorPosition := 0, anchorIndex := 0, jammed := false }
  engine :=
    { takeState := .offline, openTake := none, holders := [], pendingStop := none
      lastRoll := Vector.replicate 30 none, followSet := 0, ownRoll := 0, refusal := none
      rollLine := none, rollRiseTaken := false, markLine := none }
  slate := Slate.unset
  journal := { mirror := [], nextIndex := 1 }
  media :=
    { state := .absent, protectMark := false, capacity := none, generation := none, headerProfile := none
      defects := [], overflowed := false, profile := none, cursor := none
      headerInFlight := false, headerPending := false, mount := .none }
  port := { waiting := [], outstanding := [], nextOp := 0 }
  writer := { queue := [], buffers := Vector.replicate 8 .free }
  verify :=
    { slot := .idle, cursor := 0, blockCount := 0, positions := 0, length := 0, extents := [], badBlocks := 0
      readOk := 0, shortfall := false, window := [], digest := none }
  link :=
    { station := 0, role := .follow, jamen := false, queue := [], owed := false, linkTrouble := false
      conflict := false, initialDue := true, driving := none }
  freeDraws := 0
  pending := []

end Sys2Proof.Machine
end

