-- ==== Sys2Proof/Machine/Limits.lean ====
section
/-! DEFINITION. The numbers the manual names: sizes, limits and rates. -/

namespace Sys2Proof.Machine

/-- C, the frame slots of the ring (R14). -/
def ringSlots : Nat := 524288

/-- The earliest admissible start lies this far before the intake position (R30). -/
def earliestReach : Nat := 480000

/-- The intake position is a count of 48 bits (1.2). -/
def positionLimit : Nat := 2 ^ 48

/-- The qualification count at which the clock returns (R3). -/
def qualifyCount : Nat := 64

/-- Bytes of a block (R104, Terms). -/
def blockBytes : Nat := 4096

/-- Blocks of a full segment and of a staging buffer (R126). -/
def segmentBlocks : Nat := 32

/-- The first block of the audio region (R104). -/
def audioFirst : Nat := 4097

/-- The least capacity of a usable card (R104). -/
def minCapacity : Nat := 5121

/-- The most blocks a card is used with (R104). -/
def maxCapacity : Nat := 2 ^ 32

/-- Entries of the journal (R83). -/
def journalSlots : Nat := 4096

/-- Takes of the writer queue (R123). -/
def maxQueue : Nat := 3

/-- Frames of the transmit queue (R169). -/
def maxTransmit : Nat := 8

/-- Outstanding slots at the port (R120). -/
def maxOutstanding : Nat := 4

/-- Attempts of one write or read (R86, R95, R111, R118, R137, R151). -/
def maxAttempts : Nat := 4

/-- Attempts of one frame on the link (R168). -/
def maxSendAttempts : Nat := 8

/-- Entries of the defect list (R109). -/
def maxDefects : Nat := 480

/-- Entries of a take's extent list (R141), and the split threshold (R54, R129). -/
def maxExtents : Nat := 64
def splitExtents : Nat := 48

/-- Markers (R76), defect notes (R13, R16) and joined keys (R44) of a record. -/
def maxMarkers : Nat := 16
def maxNotes : Nat := 16
def maxJoined : Nat := 8

/-- Positions of the verify window (R150). -/
def windowSize : Nat := 4

/-- Slots read in one batch of the mount scan (R95), and the run of UNREADABLE entries that stops it (R96). -/
def scanBatch : Nat := 32
def unreadableRun : Nat := 8

/-- Picoseconds in a second: the unit of the measured intervals of word-clock commands (notes/assumptions/3). -/
def ticksPerSecond : Nat := 10 ^ 12

def SampleRate.hz : SampleRate → Nat
  | .hz48000 => 48000
  | .hz96000 => 96000

/-- The lead limit and the holdback, fs/2 (R29, R124). -/
def SampleRate.half (r : SampleRate) : Nat := r.hz / 2

/-- Frames in a meter window, fs/10 (R11), and in a tenth of a second (R30, R31). -/
def SampleRate.tenth (r : SampleRate) : Nat := r.hz / 10

/-- The quotient rounded up. -/
def ceilDiv (a b : Nat) : Nat := (a + b - 1) / b

end Sys2Proof.Machine
end

