-- ==== Sys2Proof/Machine/Bits.lean ====
section
/-! DEFINITION. Lane and station sets, byte order, and the two CRCs. -/

namespace Sys2Proof.Machine

/-- The lanes of a set in ascending lane number (Track order). -/
def lanesOf (m : Word16) : List (Fin 16) := (List.finRange 16).filter fun i => m.getLsbD i

/-- The lanes for which `p` holds, as a set (11.1: bit n for lane n). -/
def laneSet (p : Fin 16 → Bool) : Word16 :=
  (List.finRange 16).foldl (fun m i => if p i then m ||| (1#16 <<< i.val) else m) 0

def stationInSet (m : Word32) (station : Nat) : Bool := m.getLsbD station

/-- A station set from a list of stations. -/
def stationSet (l : List Nat) : Word32 := l.foldl (fun m i => m ||| (1#32 <<< i)) 0

/-- `n` bytes of a number, least significant first (Byte order). A number too large for its bytes leaves its low bytes. -/
def le : Nat → Nat → List Byte
  | 0, _ => []
  | n + 1, v => BitVec.ofNat 8 v :: le n (v / 256)

/-- The number that bytes spell, least significant first. -/
def fromLe : List Byte → Nat
  | [] => 0
  | b :: bs => b.toNat + 256 * fromLe bs

/-- `n` bytes at an offset. -/
def slice (bs : List Byte) (off n : Nat) : List Byte := (bs.drop off).take n

/-- The number in `n` bytes at an offset. -/
def field (bs : List Byte) (off n : Nat) : Nat := fromLe (slice bs off n)

/-- Bytes filled up with bytes of 0 to a length. -/
def padTo (n : Nat) (bs : List Byte) : List Byte := bs ++ List.replicate (n - bs.length) 0

/-- One bit into a CRC register that shifts left. -/
def crcStep {w : Nat} (poly : BitVec w) (r : BitVec w) (bit : Bool) : BitVec w :=
  if r.msb != bit then (r <<< 1) ^^^ poly else r <<< 1

/-- The bits of a byte, most significant first. -/
def bitsMsb (b : Byte) : List Bool := [7, 6, 5, 4, 3, 2, 1, 0].map fun i => b.getLsbD i

/-- The bits in which bytes are sent on the medium: byte by byte, each most significant bit first (R161). -/
def bitsOf (bs : List Byte) : List Bool := bs.flatMap bitsMsb

/-- The number that bits spell, most significant first. -/
def bitsValue (l : List Bool) : Nat := l.foldl (fun n b => 2 * n + b.toNat) 0

/-- The bytes that bits make, each of 8 bits most significant first (R161); `none` when they do not make a whole number of
bytes (R163, check 1). -/
def bytesOf : List Bool → Option (List Byte)
  | [] => some []
  | a :: b :: c :: d :: e :: f :: g :: h :: rest =>
    (bytesOf rest).map (BitVec.ofNat 8 (bitsValue [a, b, c, d, e, f, g, h]) :: ·)
  | _ => none

/-- The bits of a byte, least significant first: the reflected input of R134. -/
def bitsLsb (b : Byte) : List Bool := [0, 1, 2, 3, 4, 5, 6, 7].map fun i => b.getLsbD i

/-- The CRC-16 of a frame (R162): polynomial 0x1021, initial value 0xFFFF, not reflected, no final complement. -/
def crc16 (bs : List Byte) : Word16 :=
  bs.foldl (fun r b => (bitsMsb b).foldl (crcStep 0x1021#16) r) 0xFFFF#16

/-- The initial value of a digest context (R134). -/
def crc32Init : Word32 := 0xFFFFFFFF#32

/-- A digest context takes bytes (R134): polynomial 0x04C11DB7, input bit-reflected. -/
def crc32Feed (r : Word32) (bs : List Byte) : Word32 :=
  bs.foldl (fun r b => (bitsLsb b).foldl (crcStep 0x04C11DB7#32) r) r

/-- A digest context is finished (R134): output bit-reflected, final complement. -/
def crc32Finish (r : Word32) : Word32 := ~~~ r.reverse

/-- The CRC-32 of bytes: the digest's CRC, also of the header and of journal records (11.4). -/
def crc32 (bs : List Byte) : Word32 := crc32Finish (crc32Feed crc32Init bs)

/-- The 3 bytes of a sample, least significant first (R130). -/
def sampleBytes (s : Sample) : List Byte := le 3 s.toNat

/-- The magnitude of a stored value (R11). -/
def magnitude (s : Sample) : Nat := s.toInt.natAbs

end Sys2Proof.Machine
end

