-- ==== Sys2Proof/Machine/Flags.lean ====
section
/-! DEFINITION. Every flag the manual names: the take flags of R82, the flags of STATE frames and of QUERY STATUS. -/

namespace Sys2Proof.Machine

/-- The take flags in the order of the journal record's flags field (R82, 11.5). -/
inductive TakeFlag where
  | rateMismatch | stampClamped | shortPreRoll | stopClamped | splitRefused | clockLost | mediaFault | mediaFull
  | extentOverflow | notesDropped | markersDropped | unsaved | recovered
  deriving DecidableEq, Repr

/-- The bit of a take flag (11.5, offset 5). -/
def TakeFlag.bit : TakeFlag → Nat
  | .rateMismatch => 0
  | .stampClamped => 1
  | .shortPreRoll => 2
  | .stopClamped => 3
  | .splitRefused => 4
  | .clockLost => 5
  | .mediaFault => 6
  | .mediaFull => 7
  | .extentOverflow => 8
  | .notesDropped => 9
  | .markersDropped => 10
  | .unsaved => 11
  | .recovered => 12

/-- Whether a flag is set. -/
def hasFlag (fl : TakeFlags) (f : TakeFlag) : Bool := fl.getLsbD f.bit

/-- Sets a flag: once set it stays set (R82). -/
def setFlag (f : TakeFlag) (fl : TakeFlags) : TakeFlags := fl ||| (1#13 <<< f.bit)

/-- Sets a flag when a condition holds. -/
def setFlagIf (c : Bool) (f : TakeFlag) (fl : TakeFlags) : TakeFlags := if c then setFlag f fl else fl

/-- The record with a flag set. -/
def Record.flag (f : TakeFlag) (r : Record) : Record := { r with flags := setFlag f r.flags }

/-- The record with a flag set when a condition holds. -/
def Record.flagIf (c : Bool) (f : TakeFlag) (r : Record) : Record := { r with flags := setFlagIf c f r.flags }

def boolBit (b : Bool) (i : Nat) : Nat := if b then 2 ^ i else 0

/-- The flags byte of a STATE frame (11.2): bits 3–7 are 0 (R194). -/
def LinkFlags.byte (f : LinkFlags) : Byte :=
  BitVec.ofNat 8 (boolBit f.jammed 0 + boolBit f.linkTrouble 1 + boolBit f.conflict 2)

/-- The flags that a STATE frame carries (R172), as they stand. -/
def State.linkFlags (s : State) : LinkFlags where
  jammed := s.timecode.jammed
  linkTrouble := s.link.linkTrouble
  conflict := s.link.conflict

/-- The status flags of QUERY STATUS (11.1). -/
def State.statusFlags (s : State) : Byte :=
  BitVec.ofNat 8 (boolBit s.timecode.jammed 0 + boolBit s.link.linkTrouble 1 + boolBit s.link.conflict 2
    + boolBit s.media.overflowed 3)

end Sys2Proof.Machine
end

