-- ==== Sys2Proof/Machine/TimecodeOps.lean ====
section
/-! DEFINITION. Labels, indices and sample positions (Timecode and Sample Positions): pure arithmetic on the anchor. -/

namespace Sys2Proof.Machine

/-- The nominal timecode frame rate (R21; 30 is also used for 29.97 DF). -/
def RateCode.nominal : RateCode → Nat
  | .r24 => 24
  | .r25 => 25
  | .r30 => 30
  | .df => 30

/-- Timecode frames per day (R21). -/
def RateCode.perDay : RateCode → Nat
  | .r24 => 2073600
  | .r25 => 2160000
  | .r30 => 2592000
  | .df => 2589408

/-- R23. -/
def labelValid (c : RateCode) (l : Label) : Bool :=
  decide (l.hh ≤ 23) && decide (l.mm ≤ 59) && decide (l.ss ≤ 59) && decide (l.ff < c.nominal)
    && !(decide (c = .df) && decide (l.ss = 0) && decide (l.ff ≤ 1) && decide (l.mm % 10 ≠ 0))

/-- The index of a valid label (R24). -/
def indexOf (c : RateCode) (l : Label) : Nat :=
  let count := ((l.hh * 60 + l.mm) * 60 + l.ss) * c.nominal + l.ff
  match c with
  | .df => count - 2 * ((60 * l.hh + l.mm) - (60 * l.hh + l.mm) / 10)
  | _ => count

/-- The label of a count of labels at a whole rate (R25). -/
def splitCount (rate k : Nat) : Label where
  hh := k / (3600 * rate)
  mm := (k / rate / 60) % 60
  ss := (k / rate) % 60
  ff := k % rate

/-- The DF adjustment A of R25. -/
def dfAdjust (f : Nat) : Nat :=
  let m := f % 17982
  18 * (f / 17982) + (if m < 2 then 0 else 2 * ((m - 2) / 1798))

/-- The label of an index (R25). -/
def labelOf (c : RateCode) (f : Nat) : Label :=
  match c with
  | .df => splitCount 30 (f + dfAdjust f)
  | _ => splitCount c.nominal f

/-- The rate code of a byte (11.1); `none` for a byte outside the four of R21. -/
def rateOfByte (b : Byte) : Option RateCode :=
  if b = 24 then some .r24
  else if b = 25 then some .r25
  else if b = 30 then some .r30
  else if b = 29 then some .df
  else none

def RateCode.byte : RateCode → Byte
  | .r24 => 24
  | .r25 => 25
  | .r30 => 30
  | .df => 29

/-- The stamp of a ROLL, CUT or MARK: its rate code byte, and its label if it carries one (2.3). -/
structure Stamp where
  rate  : Byte
  label : Option Label
  deriving DecidableEq, Repr

/-- What R26 makes of a stamp. -/
inductive Admission where
  | absent
  | mismatch
  | admitted (index : Nat)
  deriving DecidableEq, Repr

/-- R26. -/
def admission (c : RateCode) (st : Stamp) : Admission :=
  match st.label with
  | none => .absent
  | some l =>
    if rateOfByte st.rate = some c then
      if labelValid c l then .admitted (indexOf c l) else .absent
    else .mismatch

/-- The difference reduced into the window of half a day either way (R27). -/
def wrapDifference (c : RateCode) (d : Int) : Int :=
  let half : Int := c.perDay / 2
  if half ≤ d then d - c.perDay else if d < -half then d + c.perDay else d

/-- The offset in sample-frames (R28). -/
def sampleOffset (c : RateCode) (fs : Nat) (d : Int) : Int :=
  match c with
  | .df => (d * fs * 1001) / 30000
  | _ => d * fs / c.nominal

/-- A roll, cut or mark point with the flags its conversion sets (R26–R29). -/
structure Point where
  position     : Int
  rateMismatch : Bool
  clamped      : Bool
  deriving DecidableEq, Repr

/-- A point given directly as a position: no conversion, no flag. -/
def Point.exact (p : Nat) : Point := ⟨p, false, false⟩

/-- From stamp to point: R26 to R29, at intake position `n`. -/
def convertStamp (tc : Timecode) (r : SampleRate) (n : Nat) (st : Stamp) : Point :=
  match admission tc.rate st with
  | .absent => ⟨n, false, false⟩
  | .mismatch => ⟨n, true, false⟩
  | .admitted f =>
    let d := wrapDifference tc.rate ((f : Int) - tc.anchorIndex)
    let p := (tc.anchorPosition : Int) + sampleOffset tc.rate r.hz d
    if (n : Int) + r.half < p then ⟨n, false, true⟩ else ⟨p, false, false⟩

/-- The start of a take opened by a ROLL, and whether it was raised (R30). -/
def takeStart (r : SampleRate) (preRoll n : Nat) (rollPoint : Int) : Nat × Bool :=
  let want := rollPoint - (preRoll * r.tenth : Nat)
  let earliest := n - earliestReach
  if want < (earliest : Int) then (earliest, true) else (want.toNat, false)

/-- The stop found from a cut point (R31). -/
def takeStop (r : SampleRate) (postRoll start : Nat) (cutPoint : Int) : Nat :=
  max start (cutPoint + (postRoll * r.tenth : Nat)).toNat

/-- The clamped position of a marker (R32). -/
def markerPosition (start n : Nat) (markPoint : Int) : Nat :=
  if n < start then start else min (max markPoint.toNat start) n

/-- The own index of a sample position (R33). -/
def ownIndex (tc : Timecode) (r : SampleRate) (position : Nat) : Nat :=
  let d : Int := (position : Int) - tc.anchorPosition
  let steps : Int :=
    match tc.rate with
    | .df => (d * 30000) / (r.hz * 1001)
    | c => (d * c.nominal) / r.hz
  (((tc.anchorIndex : Int) + steps) % tc.rate.perDay).toNat

/-- The own label of a sample position (R33). -/
def ownLabel (tc : Timecode) (r : SampleRate) (position : Nat) : Label :=
  labelOf tc.rate (ownIndex tc r position)

/-- The own label of a position for this station. -/
def State.labelAt (s : State) (position : Nat) : Label := ownLabel s.timecode s.intake.rate position

/-- R35: the anchor set by an accepted JAM. -/
def jamAnchor (tc : Timecode) (n : Nat) (l : Label) : Timecode :=
  { tc with anchorPosition := n, anchorIndex := indexOf tc.rate l, jammed := true }

/-- R22: what a profile load does to the timecode unit, given the rate that held before the load. -/
def loadTimecode (tc : Timecode) (oldRate : SampleRate) (p : Profile) (n : Nat) : Timecode :=
  if tc.rate = p.frameRate ∧ oldRate = p.rate then tc
  else { rate := p.frameRate, anchorPosition := n, anchorIndex := 0, jammed := false }

end Sys2Proof.Machine
end

