-- ==== Sys2Proof/Machine/Formats.lean ====
section
/-! DEFINITION. The byte layouts of Formats: codes, link frames, replies' quantities, the header block and the record block. -/

namespace Sys2Proof.Machine

/-! ### Codes of named values (11.1) -/

def TakeState.code : TakeState → Byte
  | .offline => 0
  | .standby => 1
  | .rolling => 2
  | .tail => 3

def MediaState.code : MediaState → Byte
  | .absent => 0
  | .mounting => 1
  | .unprepared => 2
  | .ready => 3
  | .writeProtected => 4
  | .full => 5
  | .faulted => 6
  | .released => 7

def ClockState.code : ClockState → Byte
  | .lost => 0
  | .running => 1

def LaneState.code : LaneState → Byte
  | .off => 0
  | .active => 1
  | .lost => 2

def LongOp.code : LongOp → Byte
  | .idle => 0
  | .verifying _ _ => 1
  | .preparing _ _ => 2
  | .releasing _ => 3

def Role.code : Role → Byte
  | .follow => 0
  | .localOnly => 1

def RecordState.code : RecordState → Byte
  | .opened => 1
  | .closed => 2
  | .interrupted => 3
  | .verified => 4
  | .damaged => 5
  | .closing => 6

/-- The record state code of an UNREADABLE entry. -/
def unreadableCode : Byte := 7

def RefusalReason.code : RefusalReason → Byte
  | .notReady => 1
  | .journalFull => 2
  | .backlog => 3

def Disposition.code : Disposition → Byte
  | .none => 0
  | .falseStart => 1
  | .wild => 2
  | .noGood => 3

def dispositionOfCode (b : Nat) : Option Disposition :=
  match b with
  | 0 => some .none
  | 1 => some .falseStart
  | 2 => some .wild
  | 3 => some .noGood
  | _ => none

def Routing.code : Routing → Byte
  | .off => 0
  | .l => 1
  | .r => 2
  | .both => 3

def routingOfCode (b : Nat) : Option Routing :=
  match b with
  | 0 => some .off
  | 1 => some .l
  | 2 => some .r
  | 3 => some .both
  | _ => none

def boolByte (b : Bool) : Byte := if b then 1 else 0

def sampleRateOf (n : Nat) : Option SampleRate :=
  if n = 48000 then some .hz48000 else if n = 96000 then some .hz96000 else none

/-! ### Quantities (11.1) -/

def labelBytes (l : Label) : List Byte :=
  [BitVec.ofNat 8 l.hh, BitVec.ofNat 8 l.mm, BitVec.ofNat 8 l.ss, BitVec.ofNat 8 l.ff]

/-- The label in 4 bytes at an offset. -/
def labelAtOffset (bs : List Byte) (off : Nat) : Label where
  hh := field bs off 1
  mm := field bs (off + 1) 1
  ss := field bs (off + 2) 1
  ff := field bs (off + 3) 1

def keyBytes (k : TakeKey) : List Byte := BitVec.ofNat 8 k.origin :: le 2 k.roll.toNat

/-- The take key in 3 bytes at an offset. -/
def keyAtOffset (bs : List Byte) (off : Nat) : TakeKey where
  origin := field bs off 1
  roll := BitVec.ofNat 16 (field bs (off + 1) 2)

def stampBytes (st : SlateStamp) : List Byte := le 2 st.revision.toNat ++ le 1 st.station

def stampAtOffset (bs : List Byte) (off : Nat) : SlateStamp where
  revision := BitVec.ofNat 16 (field bs off 2)
  station := field bs (off + 2) 1

/-- An optional quantity of a number of bytes: a presence byte, then the quantity, 0 when absent. -/
def optionalBytes (n : Nat) : Option (List Byte) → List Byte
  | none => 0 :: List.replicate n 0
  | some q => 1 :: q

/-- A list: a count byte, then its entries. -/
def listBytes {α : Type} (f : α → List Byte) (l : List α) : List Byte := le 1 l.length ++ l.flatMap f

def extentBytes (e : Extent) : List Byte := le 4 e.first ++ le 4 e.count

/-! ### Link frames (11.2) -/

inductive FrameKind where
  | roll | cut | mark | note | jam | state | request | report
  deriving DecidableEq, Repr

def FrameKind.code : FrameKind → Byte
  | .roll => 1
  | .cut => 2
  | .mark => 3
  | .note => 4
  | .jam => 5
  | .state => 6
  | .request => 7
  | .report => 8

def kindOfCode (b : Byte) : Option FrameKind :=
  [FrameKind.roll, .cut, .mark, .note, .jam, .state, .request, .report].find? fun k => k.code == b

/-- The bytes of a frame: header, payload, and CRC-16 over all before it (R162, 11.2). -/
def frameBytes (sender dest : Nat) (kind : FrameKind) (payload : List Byte) : List Byte :=
  let head := [BitVec.ofNat 8 sender, BitVec.ofNat 8 dest, kind.code, BitVec.ofNat 8 payload.length] ++ payload
  head ++ le 2 (crc16 head).toNat

def OutcomeClass.code : OutcomeClass → Byte
  | .done => 0
  | .accepted => 1
  | .busy => 2
  | .refused => 3
  | .aborted => 4
  | .mediaChanged => 5

def Detail.code : Detail → Byte
  | .none => 0
  | .unknownRequest => 1
  | .badArgument => 2
  | .noMedia => 3
  | .notPrepared => 4
  | .writeProtected => 5
  | .noSuchTake => 6
  | .takeOpen => 7
  | .deferred => 8
  | .readErrors => 9
  | .digestMismatch => 10

/-- The payload of a STATE frame (11.2, R194). -/
def StateContent.bytes (c : StateContent) : List Byte :=
  [c.take.code, c.media.code, c.clock.code, c.flags.byte] ++ optionalBytes 3 (c.key.map keyBytes)
    ++ [match c.reason with | none => 0 | some r => r.code]

/-- The payload of a REPORT (11.3). -/
def Report.bytes (r : Report) : List Byte :=
  le 2 r.tag.toNat ++ [r.kind, r.outcome.code, r.detail.code] ++ r.reply

def TxBody.kind : TxBody → FrameKind
  | .roll _ _ _ => .roll
  | .cut _ _ _ => .cut
  | .mark _ _ _ _ => .mark
  | .state _ => .state
  | .report _ => .report

/-- R169: everything but a REPORT goes to destination 0. -/
def TxBody.dest : TxBody → Nat
  | .report r => r.dest
  | _ => 0

/-- The payload of a queued frame (11.2, R194). Of a MARK, 11.2 gives target 0 for "any" and any other value for a key; an
own MARK with a key bears target 1, and the key bytes of one with target "any" are 0 (notes/assumptions/27). -/
def TxBody.payload : TxBody → List Byte
  | .roll n c l => le 2 n.toNat ++ [c.byte, 1] ++ labelBytes l
  | .cut n c l => le 2 n.toNat ++ [c.byte, 1] ++ labelBytes l
  | .mark k c l kind =>
    (match k with | none => [0, 0, 0, 0] | some key => 1 :: keyBytes key) ++ [c.byte, 1] ++ labelBytes l ++ le 1 kind
  | .state c => c.bytes
  | .report r => r.bytes

/-- The bits that this station sends on the medium for a queued frame (R161, R162). -/
def TxBody.wireBits (own : Nat) (b : TxBody) : List Bool := bitsOf (frameBytes own b.dest b.kind b.payload)

/-! ### The profile and the header block (11.4) -/

/-- The profile's 15 bytes. -/
def profileBytes (p : Profile) : List Byte :=
  le 4 p.rate.hz ++ [p.frameRate.byte] ++ le 2 p.armMask.toNat ++ [boolByte p.mixEnable] ++ le 1 p.preRoll
    ++ le 1 p.postRoll ++ le 1 p.maxLength ++ le 4 p.followSet.toNat

/-- The profile in 15 bytes at an offset; `none` when a value lies outside the ranges of R105. -/
def profileAtOffset (bs : List Byte) (off : Nat) : Option Profile :=
  match sampleRateOf (field bs off 4), rateOfByte (BitVec.ofNat 8 (field bs (off + 4) 1)) with
  | some rate, some code =>
    let arm := field bs (off + 5) 2
    let mix := field bs (off + 7) 1
    let pre := field bs (off + 8) 1
    let post := field bs (off + 9) 1
    let len := field bs (off + 10) 1
    let follow := BitVec.ofNat 32 (field bs (off + 11) 4)
    if arm ≠ 0 ∧ mix ≤ 1 ∧ pre ≤ 100 ∧ post ≤ 100 ∧ 1 ≤ len ∧ len ≤ 240
        ∧ follow.getLsbD 0 = false ∧ follow.getLsbD 31 = false then
      some { rate := rate, frameRate := code, armMask := BitVec.ofNat 16 arm, mixEnable := mix == 1, preRoll := pre,
             postRoll := post, maxLength := len, followSet := follow }
    else none
  | _, _ => none

/-- Strictly ascending. -/
def ascending : List Nat → Bool
  | [] => true
  | [_] => true
  | a :: b :: rest => decide (a < b) && ascending (b :: rest)

/-- R105, R117: strictly ascending, each from 4,097 to B − 1. -/
def defectBlocksValid (capacity : Nat) (blocks : List Nat) : Bool :=
  ascending blocks && blocks.all fun b => decide (audioFirst ≤ b) && decide (b < capacity)

/-- The signature of the ET416 header (11.4). -/
def signature : List Byte := [0x45, 0x54, 0x34, 0x31, 0x36, 0x48, 0x44, 0x52]

/-- A header's content. -/
structure Header where
  generation : Nat
  profile    : Profile
  overflowed : Bool
  defects    : List Defect
  deriving DecidableEq, Repr

def defectBytes (d : Defect) : List Byte := le 4 d.block ++ [boolByte d.grown]

/-- A block's bytes with their CRC-32 in the last 4 (11.4, 11.5). -/
def withCheck (body : List Byte) : List Byte :=
  let b := padTo (blockBytes - 4) body
  b ++ le 4 (crc32 b).toNat

/-- The header block as written (R197). -/
def headerBlock (h : Header) : List Byte :=
  withCheck (signature ++ le 2 1 ++ le 2 h.generation ++ profileBytes h.profile ++ [boolByte h.overflowed]
    ++ le 2 h.defects.length ++ h.defects.flatMap defectBytes)

/-- The check value of a block equals the CRC-32 over the bytes before it. -/
def checkMatches (bs : List Byte) : Bool :=
  field bs (blockBytes - 4) 4 == (crc32 (bs.take (blockBytes - 4))).toNat

def defectsAtOffset (bs : List Byte) (off n : Nat) : List (Nat × Nat) :=
  (List.range n).map fun i => (field bs (off + 5 * i) 4, field bs (off + 5 * i + 4) 1)

/-- The header of block 0 as read at mount, judged by R105 and R197; `none` when it is invalid. -/
def decodeHeader (capacity : Nat) (bs : List Byte) : Option Header :=
  let gen := field bs 10 2
  let flags := field bs 27 1
  let count := field bs 28 2
  let entries := defectsAtOffset bs 30 count
  if slice bs 0 8 = signature ∧ checkMatches bs = true ∧ field bs 8 2 = 1 ∧ 1 ≤ gen ∧ flags ≤ 1 ∧ count ≤ maxDefects
      ∧ defectBlocksValid capacity (entries.map (·.1)) = true ∧ (entries.all fun e => decide (e.2 ≤ 1)) = true then
    (profileAtOffset bs 12).map fun p =>
      { generation := gen, profile := p, overflowed := flags == 1,
        defects := entries.map fun e => { block := e.1, grown := e.2 == 1 } }
  else none

/-! ### The journal record block (11.5) -/

/-- The number of armed lanes. -/
def laneCount (m : Word16) : Nat := (lanesOf m).length

/-- The tracks of a take, and its frame bytes (R8). -/
def trackCount (armed : Word16) (mix : Bool) : Nat := laneCount armed + (if mix then 2 else 0)
def frameBytesOf (armed : Word16) (mix : Bool) : Nat := 3 * trackCount armed mix

def stringField (n : Nat) (bs : List Byte) : List Byte := le 1 bs.length ++ padTo n bs

def markerBytes (m : Marker) : List Byte := le 4 m.frame ++ le 1 m.kind ++ le 1 m.origin

/-- A defect note in the record (11.5): kind, lane, position, length. -/
def noteBytes : DefectNote → List Byte
  | .gap f n => [0, 0] ++ le 4 f ++ le 4 n
  | .dropout lane f n => [1, BitVec.ofNat 8 lane] ++ le 4 f ++ le 4 n

/-- The bytes of a record's slate (11.5, offsets 142 to 234). -/
def slateBytes (s : Slate) : List Byte :=
  stringField 8 s.scene ++ stampBytes s.sceneStamp ++ le 2 s.number ++ stampBytes s.numberStamp
    ++ [boolByte s.circled] ++ stampBytes s.circledStamp ++ [s.disposition.code] ++ stampBytes s.dispositionStamp
    ++ stringField 64 s.text ++ stampBytes s.textStamp

/-- The journal block of a composed record (R198, 11.5). -/
def recordBlock (r : Record) : List Byte :=
  withCheck (le 2 r.index ++ le 2 r.generation ++ [r.state.code] ++ le 4 r.flags.toNat ++ keyBytes r.key
    ++ le 2 (r.continues.getD 0) ++ le 6 r.start ++ le 6 (r.stop.getD 0) ++ labelBytes r.startLabel
    ++ [r.labelRate.byte] ++ le 6 r.recorded ++ le 6 r.lost ++ le 6 r.durable ++ le 2 r.armed.toNat
    ++ [boolByte r.mixPresent] ++ le 4 r.rate.hz ++ le 1 r.frameBytes ++ le 4 ((r.digest.getD 0).toNat)
    ++ le 2 r.clipCount ++ padTo 54 (r.peaks.flatMap (le 3)) ++ le 1 r.joined.length
    ++ padTo 24 (r.joined.flatMap keyBytes) ++ slateBytes r.slate ++ le 1 r.markers.length
    ++ padTo 96 (r.markers.flatMap markerBytes) ++ le 1 r.notes.length ++ padTo 160 (r.notes.flatMap noteBytes)
    ++ le 1 r.extents.length ++ padTo 512 (r.extents.flatMap extentBytes))

/-- The states that can stand on the card (R80), by code. -/
def cardStateOfCode (b : Nat) : Option RecordState :=
  match b with
  | 1 => some .opened
  | 2 => some .closed
  | 3 => some .interrupted
  | 4 => some .verified
  | 5 => some .damaged
  | _ => none

/-- CLOSED, VERIFIED or DAMAGED: the states that carry a stop and a digest on the card (R85). -/
def RecordState.settled : RecordState → Bool
  | .closed => true
  | .verified => true
  | .damaged => true
  | _ => false

def slateAtOffset (bs : List Byte) : Slate where
  scene := slice bs 143 (field bs 142 1)
  sceneStamp := stampAtOffset bs 151
  number := field bs 154 2
  numberStamp := stampAtOffset bs 156
  circled := field bs 159 1 == 1
  circledStamp := stampAtOffset bs 160
  disposition := (dispositionOfCode (field bs 163 1)).getD .none
  dispositionStamp := stampAtOffset bs 164
  text := slice bs 168 (field bs 167 1)
  textStamp := stampAtOffset bs 232

def markerAtOffset (bs : List Byte) (off : Nat) : Marker where
  frame := field bs off 4
  kind := field bs (off + 4) 1
  origin := field bs (off + 5) 1

def noteAtOffset (bs : List Byte) (off : Nat) : DefectNote :=
  if field bs off 1 = 0 then .gap (field bs (off + 2) 4) (field bs (off + 6) 4)
  else .dropout (field bs (off + 1) 1) (field bs (off + 2) 4) (field bs (off + 6) 4)

def extentAtOffset (bs : List Byte) (off : Nat) : Extent where
  first := field bs off 4
  count := field bs (off + 4) 4

/-- `n` entries of a size from an offset. -/
def entriesAt {α : Type} (f : Nat → α) (off size n : Nat) : List α := (List.range n).map fun i => f (off + size * i)

/-- The ranges of R198 that are read straight from the block: counts, lengths, codes and stamps. -/
def recordRangesOk (bs : List Byte) : Bool :=
  let f := field bs
  decide (1 ≤ f 0 2) && decide (f 0 2 ≤ journalSlots) && decide (1 ≤ f 2 2) && decide (f 5 4 < 2 ^ 13)
    && decide (f 9 1 ≤ 31) && decide (f 12 2 < f 0 2) && decide (f 51 1 ≤ 1) && decide (f 49 2 ≠ 0)
    && decide (1 ≤ f 117 1) && decide (f 117 1 ≤ maxJoined) && decide (f 235 1 ≤ maxMarkers)
    && decide (f 332 1 ≤ maxNotes) && decide (f 493 1 ≤ maxExtents) && decide (f 142 1 ≤ 8) && decide (f 167 1 ≤ 64)
    && decide (f 159 1 ≤ 1) && decide (f 163 1 ≤ 3)
    && [153, 158, 162, 166, 234].all (fun o => decide (f o 1 ≤ 30))
    && (entriesAt (fun o => f (o + 4) 1) 236 6 (f 235 1)).all (fun k => decide (k ≤ 15))
    && (entriesAt (fun o => (f o 1, f (o + 1) 1)) 333 10 (f 332 1)).all
        (fun n => decide (n.1 = 0) || (decide (n.1 = 1) && decide (n.2 ≤ 15)))

/-- The ranges of R198 that relate the fields of the record. -/
def recordConsistent (capacity : Nat) (r : Record) : Bool :=
  labelValid r.labelRate r.startLabel && decide (r.frameBytes = frameBytesOf r.armed r.mixPresent)
    && decide (r.durable ≤ r.recorded) && decide (r.recorded + r.lost < positionLimit)
    && r.extents.all (fun e => decide (1 ≤ e.count) && decide (audioFirst ≤ e.first)
        && decide (e.first + e.count ≤ capacity))
    && (!r.state.settled || (match r.stop with
        | none => false
        | some stop => decide (r.start ≤ stop) && decide (r.recorded + r.lost = stop - r.start)
            && decide (r.durable = r.recorded)))

/-- The record of a journal block whose check value matches and whose ranges R198 admits. -/
def decodeRecord (capacity : Nat) (bs : List Byte) : Option Record :=
  match cardStateOfCode (field bs 4 1), rateOfByte (BitVec.ofNat 8 (field bs 30 1)), sampleRateOf (field bs 52 4) with
  | some st, some code, some rate =>
    let armed := BitVec.ofNat 16 (field bs 49 2)
    let mix := field bs 51 1 == 1
    let continues := field bs 12 2
    let r : Record :=
      { index := field bs 0 2, generation := field bs 2 2, key := keyAtOffset bs 9
        continues := if continues = 0 then none else some continues
        state := st, flags := BitVec.ofNat 13 (field bs 5 4), start := field bs 14 6
        stop := if st.settled then some (field bs 20 6) else none
        startLabel := labelAtOffset bs 26, labelRate := code, recorded := field bs 31 6, lost := field bs 37 6
        durable := field bs 43 6, armed := armed, mixPresent := mix, rate := rate, frameBytes := field bs 56 1
        digest := if st.settled then some (BitVec.ofNat 32 (field bs 57 4)) else none
        peaks := entriesAt (fun o => field bs o 3) 63 3 (trackCount armed mix)
        clipCount := field bs 61 2
        joined := entriesAt (keyAtOffset bs) 118 3 (field bs 117 1)
        slate := slateAtOffset bs
        markers := entriesAt (markerAtOffset bs) 236 6 (field bs 235 1)
        notes := entriesAt (noteAtOffset bs) 333 10 (field bs 332 1)
        extents := entriesAt (extentAtOffset bs) 494 8 (field bs 493 1) }
    if checkMatches bs = true ∧ recordRangesOk bs = true ∧ recordConsistent capacity r = true then some r else none
  | _, _, _ => none

end Sys2Proof.Machine
end

