-- ==== Sys2Proof/Machine/Operands.lean ====
section
/-! DEFINITION. The operand forms of the commands: measured word-clock periods, received frames, and every payload. -/

namespace Sys2Proof.Machine

/-! ### The word clock -/

/-- A period is valid when its interval lies within 5 percent of 1/fs (R2). -/
def periodValid (r : SampleRate) (interval : Nat) : Bool :=
  decide (95 * ticksPerSecond ≤ 100 * (interval * r.hz)) && decide (100 * (interval * r.hz) ≤ 105 * ticksPerSecond)

/-- The event is a clock loss at this rate (R2): the period is not valid, or 1.5 nominal periods have passed. -/
def faultIsLoss (r : SampleRate) : ClockFault → Bool
  | .badPeriod interval => !periodValid r interval
  | .noEdge elapsed => decide (3 * ticksPerSecond ≤ 2 * (elapsed * r.hz))

/-! ### The receive filter -/

/-- A frame that has passed the checks of R163. -/
structure Frame where
  sender  : Nat
  dest    : Nat
  kind    : FrameKind
  payload : List Byte
  deriving DecidableEq, Repr

/-- Check 5 of R163 with the lengths of R194. -/
def payloadLengthOk (k : FrameKind) (n : Nat) : Bool :=
  match k with
  | .roll => n == 8
  | .cut => n == 8
  | .mark => n == 11
  | .jam => n == 5
  | .state => n == 9
  | .note => true
  | .request => true
  | .report => true

/-- Checks 3 to 5 of R163 on a frame of the right length whose CRC matches. -/
def judgeFrame (sender dest : Nat) (kind : Byte) (payload : List Byte) : Option Frame :=
  match kindOfCode kind with
  | none => none
  | some k =>
    if 1 ≤ sender ∧ sender ≤ 30 ∧ dest ≤ 30 ∧ payloadLengthOk k payload.length = true then
      some { sender := sender, dest := dest, kind := k, payload := payload }
    else none

/-- The receive filter (R163): the frame that the medium carried, or `none` when a check fails. -/
def acceptFrame (w : Wire) : Option Frame :=
  match bytesOf w.bits with
  | some (snd :: dst :: kind :: len :: rest) =>
    let n := len.toNat
    if n ≤ 240 ∧ rest.length = n + 2
        ∧ fromLe (rest.drop n) = (crc16 (snd :: dst :: kind :: len :: rest.take n)).toNat then
      judgeFrame snd.toNat dst.toNat kind (rest.take n)
    else none
  | _ => none

/-- A frame as it ends on the medium, whole and undamaged. -/
def wireOf (sender dest : Nat) (kind : FrameKind) (payload : List Byte) : Wire :=
  { bits := bitsOf (frameBytes sender dest kind payload) }

/-- The filter by destination (R164). -/
def takenBy (own : Nat) (f : Frame) : Bool :=
  if f.dest = 0 then decide (f.kind ≠ .request) else decide (f.dest = own)

/-! ### Fixed payloads (11.2, R194) -/

/-- The rate code, label presence and label from an offset. -/
def stampAt (bs : List Byte) (off : Nat) : Stamp where
  rate := BitVec.ofNat 8 (field bs off 1)
  label := if field bs (off + 1) 1 = 0 then none else some (labelAtOffset bs (off + 2))

/-- The roll number of a ROLL or CUT; its stamp is `stampAt payload 2`. -/
def rollNumber (bs : List Byte) : Word16 := BitVec.ofNat 16 (field bs 0 2)

/-- The target of a MARK: `none` for "any". -/
def markTarget (bs : List Byte) : Option TakeKey := if field bs 0 1 = 0 then none else some (keyAtOffset bs 1)

def markStamp (bs : List Byte) : Stamp := stampAt bs 4
def markKind (bs : List Byte) : Nat := field bs 10 1

/-- The take state byte of a received STATE reports a departure: STANDBY, OFFLINE or TAIL (R48, R194). -/
def reportsDeparture (bs : List Byte) : Bool :=
  let b := field bs 0 1
  b == 0 || b == 1 || b == 3

/-! ### NOTE (R64, R195) -/

inductive NoteTarget where
  | next
  | last
  | key (k : TakeKey)
  deriving DecidableEq, Repr

/-- A NOTE's fields that take part in the merge (R64): `none` for a field absent or ignored. -/
structure NoteFields where
  scene       : Option (List Byte)
  number      : Option Nat
  circled     : Option Bool
  disposition : Option Disposition
  text        : Option (List Byte)
  deriving DecidableEq, Repr

structure Note where
  target   : NoteTarget
  revision : Word16
  fields   : NoteFields
  deriving DecidableEq, Repr

/-- A string at the head of the bytes: a length byte and that many bytes (R195). -/
def takeString : List Byte → Option (List Byte × List Byte)
  | [] => none
  | len :: rest => if len.toNat ≤ rest.length then some (rest.take len.toNat, rest.drop len.toNat) else none

/-- A number of `n` bytes at the head of the bytes. -/
def takeNumber (n : Nat) (bs : List Byte) : Option (Nat × List Byte) :=
  if n ≤ bs.length then some (fromLe (bs.take n), bs.drop n) else none

/-- A field read only when its presence bit is set. -/
def present {α : Type} (bit : Bool) (p : List Byte → Option (α × List Byte)) (bs : List Byte) :
    Option (Option α × List Byte) :=
  if bit then (p bs).map fun x => (some x.1, x.2) else some (none, bs)

/-- The present fields in the order of their bits, cut and judged by R64; `none` when they run past the payload. -/
def noteFields (bits : Byte) (bs : List Byte) : Option NoteFields :=
  (present (bits.getLsbD 0) takeString bs).bind fun scene =>
  (present (bits.getLsbD 1) (takeNumber 2) scene.2).bind fun number =>
  (present (bits.getLsbD 2) (takeNumber 1) number.2).bind fun circled =>
  (present (bits.getLsbD 3) (takeNumber 1) circled.2).bind fun disposition =>
  (present (bits.getLsbD 4) takeString disposition.2).map fun text =>
    { scene := scene.1.map (·.take 8)
      number := number.1.filter (· ≤ 999)
      circled := circled.1.bind fun c => if c = 0 then some false else if c = 1 then some true else none
      disposition := disposition.1.bind dispositionOfCode
      text := text.1.map (·.take 64) }

def noteTarget (bs : List Byte) : Option NoteTarget :=
  match field bs 0 1 with
  | 0 => some .next
  | 1 => some .last
  | 2 => some (.key (keyAtOffset bs 1))
  | _ => none

/-- A NOTE's payload; `none` when R64 or R195 discards it. -/
def decodeNote (bs : List Byte) : Option Note :=
  if bs.length < 7 then none
  else
    (noteTarget bs).bind fun t =>
    (noteFields (BitVec.ofNat 8 (field bs 6 1)) (bs.drop 7)).map fun fs =>
      { target := t, revision := BitVec.ofNat 16 (field bs 4 2), fields := fs }

/-! ### REQUEST (R174, 11.3) -/

inductive RequestKind where
  | queryStatus | queryMeters | queryTake | searchJournal | arm | mix | verifyTake | prepareMedia | releaseMedia | abort
  deriving DecidableEq, Repr

def RequestKind.code : RequestKind → Byte
  | .queryStatus => 1
  | .queryMeters => 2
  | .queryTake => 3
  | .searchJournal => 4
  | .arm => 5
  | .mix => 6
  | .verifyTake => 7
  | .prepareMedia => 8
  | .releaseMedia => 9
  | .abort => 10

def requestKindOfCode (b : Byte) : Option RequestKind :=
  [RequestKind.queryStatus, .queryMeters, .queryTake, .searchJournal, .arm, .mix, .verifyTake, .prepareMedia,
    .releaseMedia, .abort].find? fun k => k.code == b

/-- A REQUEST whose payload holds a tag and a kind (R174), with its sender. -/
structure Request where
  sender : Nat
  tag    : Word16
  code   : Byte
  args   : List Byte
  deriving DecidableEq, Repr

def decodeRequest (sender : Nat) : List Byte → Option Request
  | t0 :: t1 :: code :: args =>
    some { sender := sender, tag := BitVec.ofNat 16 (fromLe [t0, t1]), code := code, args := args }
  | _ => none

/-- The payload of a REQUEST. -/
def requestPayload (tag : Word16) (k : RequestKind) (args : List Byte) : List Byte := le 2 tag.toNat ++ [k.code] ++ args

/-- The length a SEARCH JOURNAL key of a field must have; `none` for a field with no one length (R196). -/
def searchKeyLength (fieldCode : Nat) : Option Nat :=
  match fieldCode with
  | 1 => some 2
  | 2 => some 4
  | 3 => some 1
  | 4 => some 1
  | 5 => some 1
  | _ => none

/-- The form check of R176, step 1, by the lengths of R196. -/
def formOk (k : RequestKind) (args : List Byte) : Bool :=
  match k with
  | .queryStatus => args.length == 0
  | .queryMeters => args.length == 0
  | .queryTake => args.length == 4
  | .searchJournal =>
    decide (6 ≤ args.length) && args.length == 6 + field args 5 1
      && (match searchKeyLength (field args 0 1) with | none => true | some n => field args 5 1 == n)
  | .arm => args.length == 2
  | .mix => decide (1 ≤ args.length) && args.length == 1 + 3 * field args 0 1
  | .verifyTake => args.length == 2
  | .prepareMedia => decide (17 ≤ args.length) && args.length == 17 + 4 * field args 15 2
  | .releaseMedia => args.length == 0
  | .abort => args.length == 0

/-- One entry of a MIX request, in range by R9. -/
structure MixEntry where
  lane    : Nat
  routing : Routing
  gain    : Byte
  deriving DecidableEq, Repr

/-- The entries of a MIX request; `none` when their number or any of them is out of range (R9, R188). -/
def mixEntries (args : List Byte) : Option (List MixEntry) :=
  let n := field args 0 1
  if 1 ≤ n ∧ n ≤ 16 then
    (entriesAt (fun o => (field args o 1, field args (o + 1) 1, field args (o + 2) 1)) 1 3 n).mapM fun e =>
      match routingOfCode e.2.1 with
      | none => none
      | some r => if e.1 ≤ 15 then some { lane := e.1, routing := r, gain := BitVec.ofNat 8 e.2.2 } else none
  else none

inductive Relation where
  | equal | notEqual | atMost | atLeast
  deriving DecidableEq, Repr

def relationOfCode (b : Nat) : Option Relation :=
  match b with
  | 0 => some .equal
  | 1 => some .notEqual
  | 2 => some .atMost
  | 3 => some .atLeast
  | _ => none

/-- What a SEARCH JOURNAL compares with (R185). -/
inductive SearchKey where
  | scene (s : List Byte)
  | number (n : Nat)
  | startLabel (l : Label)
  | circled (c : Bool)
  | state (st : RecordState)
  | origin (station : Nat)
  deriving DecidableEq, Repr

structure Search where
  relation : Relation
  key      : SearchKey
  start    : Nat
  count    : Nat
  deriving DecidableEq, Repr

/-- The record states a search can name (R185, 11.1). -/
def searchStateOfCode (b : Nat) : Option RecordState := if b = 6 then some .closing else cardStateOfCode b

/-- The key of a search by its field's code, in range by R185. -/
def searchKey (fieldCode : Nat) (key : List Byte) : Option SearchKey :=
  match fieldCode with
  | 0 => if key.length ≤ 8 then some (.scene key) else none
  | 1 => if fromLe key ≤ 999 then some (.number (fromLe key)) else none
  | 2 =>
    let l := labelAtOffset key 0
    if l.hh ≤ 23 ∧ l.mm ≤ 59 ∧ l.ss ≤ 59 ∧ l.ff ≤ 29 then some (.startLabel l) else none
  | 3 => if fromLe key = 0 then some (.circled false) else if fromLe key = 1 then some (.circled true) else none
  | 4 => (searchStateOfCode (fromLe key)).map .state
  | 5 => if fromLe key ≤ 31 then some (.origin (fromLe key)) else none
  | _ => none

/-- A relation that R185 admits with the key's field. -/
def relationFits (r : Relation) : SearchKey → Bool
  | .state _ => decide (r = .equal) || decide (r = .notEqual)
  | _ => true

/-- The arguments of SEARCH JOURNAL; `none` when one is out of range (R185). -/
def searchArgs (args : List Byte) : Option Search :=
  match relationOfCode (field args 1 1), searchKey (field args 0 1) (args.drop 6) with
  | some rel, some key =>
    let start := field args 2 2
    let count := field args 4 1
    if relationFits rel key = true ∧ 1 ≤ start ∧ start ≤ journalSlots ∧ count ≤ 16 then
      some { relation := rel, key := key, start := start, count := if count = 0 then 16 else count }
    else none
  | _, _ => none

/-- The block numbers of a PREPARE MEDIA request. -/
def prepareBlocks (args : List Byte) : List Nat := entriesAt (fun o => field args o 4) 17 4 (field args 15 2)

end Sys2Proof.Machine
end

