-- ==== Sys2Proof/Machine/Ops.lean ====
section
/-! DEFINITION. The shared operations over the mirror, the ring, the transmit queue, the station take state, the journal's
write scheme and the port arbiter. -/

namespace Sys2Proof.Machine

/-! ### The mirror and the writer queue -/

/-- The mirror slot of take index `n` (R83). -/
def State.slotAt (s : State) (n : Nat) : Option MirrorSlot :=
  if n = 0 then none else s.journal.mirror[n - 1]?

/-- The record an entry holds; UNREADABLE entries hold none. -/
def MirrorEntry.record? : MirrorEntry → Option Record
  | .record r => some r
  | .unreadable => none

/-- The record of take index `n`. -/
def State.recordAt (s : State) (n : Nat) : Option Record := (s.slotAt n).bind fun sl => sl.entry.record?

/-- Changes the mirror slot of take index `n`, if there is one. -/
def State.modifySlot (n : Nat) (f : MirrorSlot → MirrorSlot) (s : State) : State :=
  if n = 0 then s else { s with journal := { s.journal with mirror := s.journal.mirror.modify (n - 1) f } }

def MirrorEntry.mapRecord (f : Record → Record) : MirrorEntry → MirrorEntry
  | .record r => .record (f r)
  | .unreadable => .unreadable

/-- Changes the record of take index `n`, if there is one. -/
def State.modifyRecord (n : Nat) (f : Record → Record) (s : State) : State :=
  s.modifySlot n fun sl => { sl with entry := sl.entry.mapRecord f }

/-- The writer-queue entry of take index `n` (R123). -/
def State.entryOf (s : State) (n : Nat) : Option QueueEntry := s.writer.queue.find? fun e => e.index == n

def State.setQueue (q : List QueueEntry) (s : State) : State := { s with writer := { s.writer with queue := q } }

/-- Changes the writer-queue entry of take index `n`, if there is one. -/
def State.modifyEntry (n : Nat) (f : QueueEntry → QueueEntry) (s : State) : State :=
  s.setQueue (s.writer.queue.map fun e => if e.index = n then f e else e)

/-- The take leaves the writer queue (R123). -/
def State.dropEntry (n : Nat) (s : State) : State := s.setQueue (s.writer.queue.filter fun e => e.index != n)

/-- A queued take still needs frames: it is OPEN, or CLOSING with w below its stop (R15, R124). -/
def State.needsFrames (s : State) (e : QueueEntry) : Bool :=
  match s.recordAt e.index with
  | none => false
  | some r => r.state == .opened || (r.state == .closing && decide (e.next < r.stop.getD 0))

/-- The take being filled (R124). -/
def State.filling (s : State) : Option QueueEntry := s.writer.queue.find? s.needsFrames

def State.buffer (s : State) (b : Nat) : Buffer := (s.writer.buffers[b]?).getD .free

def State.setBuffer (b : Nat) (x : Buffer) (s : State) : State :=
  { s with writer := { s.writer with buffers := Vector.ofFn fun i => if i.val = b then x else s.writer.buffers[i] } }

/-! ### The capture ring (R14) -/

/-- Stores into a slot, replacing what it held and keeping slot numbers strictly rising. -/
def slotPut {α : Type} (k : Nat) (v : α) : List (Nat × α) → List (Nat × α)
  | [] => [(k, v)]
  | x :: rest =>
    if k < x.1 then (k, v) :: x :: rest
    else if k = x.1 then (k, v) :: rest
    else x :: slotPut k v rest

/-- What a slot holds. -/
def slotGet {α : Type} (k : Nat) : List (Nat × α) → Option α
  | [] => none
  | x :: rest => if x.1 = k then some x.2 else slotGet k rest

/-- The oldest-held position (R14). -/
def Intake.oldestHeld (i : Intake) : Nat := max i.fillStart (i.position - ringSlots)

/-- The frame the ring holds at a position (R14); `none` for a position it does not hold. -/
def Intake.frameAt (i : Intake) (p : Nat) : Option RingFrame :=
  if i.oldestHeld ≤ p ∧ p < i.position then slotGet (p % ringSlots) i.ring else none

/-! ### The transmit queue (R160, R169–R172) -/

/-- A station that sends nothing (R159, R160). -/
def Link.listenOnly (l : Link) : Bool := l.station == 0 || decide (31 ≤ l.station)

/-- The key of the open take, while there is one (R39). -/
def State.openKey (s : State) : Option TakeKey := (s.engine.openTake.bind s.recordAt).map (·.key)

/-- The content of a STATE frame at this moment (R172). -/
def State.stateContent (s : State) : StateContent where
  take := s.engine.takeState
  media := s.media.state
  clock := s.intake.clock
  key := if s.engine.takeState = .rolling ∨ s.engine.takeState = .tail then s.openKey else none
  reason := s.engine.refusal
  flags := s.linkFlags

def TxBody.isState : TxBody → Bool
  | .state _ => true
  | _ => false

def TxBody.isReport : TxBody → Bool
  | .report _ => true
  | _ => false

/-- A frame whose first attempt has not begun (R169). -/
def TxFrame.waiting (f : TxFrame) : Bool := f.attempts == 0

def TxFrame.waitingState (f : TxFrame) : Bool := f.waiting && f.body.isState
def TxFrame.waitingReport (f : TxFrame) : Bool := f.waiting && f.body.isReport

/-- A frame as it enters the queue. -/
def TxFrame.fresh (b : TxBody) : TxFrame := { body := b, attempts := 0, phase := .idle }

/-- R170, at the link controller: a STATE frame of the given content is to be queued. -/
def Link.enqueueState (c : StateContent) (l : Link) : Link :=
  if l.listenOnly then l
  else if l.queue.any TxFrame.waitingState then
    { l with queue := l.queue.eraseP TxFrame.waitingState ++ [TxFrame.fresh (.state c)] }
  else if l.queue.length < maxTransmit then { l with queue := l.queue ++ [TxFrame.fresh (.state c)] }
  else if l.queue.any TxFrame.waitingReport then
    { l with queue := l.queue.eraseP TxFrame.waitingReport ++ [TxFrame.fresh (.state c)] }
  else { l with owed := true }

/-- R171, at the link controller: a ROLL, CUT or MARK frame is to be queued. -/
def Link.enqueueTransport (b : TxBody) (l : Link) : Link :=
  if l.listenOnly then l
  else if l.queue.length < maxTransmit then { l with queue := l.queue ++ [TxFrame.fresh b] }
  else if l.queue.any TxFrame.waitingReport then
    { l with queue := l.queue.eraseP TxFrame.waitingReport ++ [TxFrame.fresh b] }
  else { l with linkTrouble := true }

/-- R171, at the link controller: a REPORT is to be queued. -/
def Link.enqueueReport (r : Report) (l : Link) : Link :=
  if l.listenOnly then l
  else if l.queue.length < maxTransmit then { l with queue := l.queue ++ [TxFrame.fresh (.report r)] }
  else l

def State.queueState (s : State) : State := { s with link := s.link.enqueueState s.stateContent }
def State.queueTransport (b : TxBody) (s : State) : State := { s with link := s.link.enqueueTransport b }
def State.queueReport (r : Report) (s : State) : State := { s with link := s.link.enqueueReport r }

/-- The states whose changes queue a STATE frame (R172). -/
def State.announced (s : State) : TakeState × MediaState × ClockState :=
  (s.engine.takeState, s.media.state, s.intake.clock)

/-- One event that changed any of the states since `before` queues one STATE frame (R172). -/
def State.announce (before s : State) : State := if before.announced = s.announced then s else s.queueState

/-- A frame has left the queue: an owed STATE is queued with the content of this moment (R170). -/
def State.payOwed (s : State) : State :=
  if s.link.owed then { s with link := { s.link with owed := false } }.queueState else s

/-! ### The station take state (R38) -/

def State.setTake (t : TakeState) (s : State) : State := { s with engine := { s.engine with takeState := t } }

/-- Entry to STANDBY applies a pending next-arm mask (R7). -/
def State.enterStandby (s : State) : State :=
  { s with
    engine := { s.engine with takeState := .standby }
    intake := { s.intake with armMask := s.intake.nextArm.getD s.intake.armMask, nextArm := none } }

/-- The media is READY and the clock RUNNING (R38). -/
def State.usable (s : State) : Bool := s.media.state == .ready && s.intake.clock == .running

/-- R38: OFFLINE to STANDBY when both become true, STANDBY to OFFLINE when one fails. -/
def State.refreshStation (s : State) : State :=
  match s.engine.takeState with
  | .offline => if s.usable then s.enterStandby else s
  | .standby => if s.usable then s else s.setTake .offline
  | .rolling => s
  | .tail => s

/-- The open take leaves the open state: its holders and pending stop go (R56–R61). -/
def State.clearOpen (s : State) : State :=
  { s with engine := { s.engine with openTake := none, holders := [], pendingStop := none } }

/-! ### Asking the arbiter (R120) -/

/-- The class of an operation (R120). -/
def OpKind.priority : OpKind → Nat
  | .journalWrite _ => 1
  | .headerWrite => 1
  | .prepareHeader => 1
  | .prepareZero => 1
  | .segmentWrite _ _ => 2
  | .sizeRead => 3
  | .headerRead => 3
  | .slotRead _ => 3
  | .verifyRead _ _ => 3

/-- An operation is asked and joins the waiting list. -/
def State.ask (kind : OpKind) (attempt : Nat) (block : Option (List Byte)) (isFinal : Bool) (s : State) : State :=
  { s with port := { s.port with
      waiting := s.port.waiting ++ [{ id := s.port.nextOp, kind := kind, attempt := attempt, block := block, isFinal := isFinal }]
      nextOp := s.port.nextOp + 1 } }

/-- The first request of an operation. -/
def State.askNew (kind : OpKind) (s : State) : State := s.ask kind 1 none false

/-- A failed operation is asked anew (R120, R121), with the block composed at its first grant. -/
def State.retry (op : Op) (s : State) : State := s.ask op.kind (op.attempt + 1) op.block op.isFinal

/-- The outstanding operation of an id and of a kind that `p` admits. -/
def State.outstandingOp (s : State) (id : Nat) (p : OpKind → Bool) : Option Op :=
  s.port.outstanding.find? fun op => op.id == id && p op.kind

/-- The operation's outstanding slot becomes free (R121). -/
def State.release (id : Nat) (s : State) : State :=
  { s with port := { s.port with outstanding := s.port.outstanding.filter fun op => op.id != id } }

/-- Waiting operations that `p` admits are withdrawn. -/
def State.withdraw (p : Op → Bool) (s : State) : State :=
  { s with port := { s.port with waiting := s.port.waiting.filter fun op => !p op } }

/-! ### The journal's writes (R73, R74, R85–R91) -/

def LongOp.blocksJournal : LongOp → Bool
  | .preparing _ _ => true
  | .releasing _ => true
  | .idle => false
  | .verifying _ _ => false

/-- The card can take journal writes (R73). -/
def State.canWriteJournal (s : State) : Bool :=
  (s.media.state == .ready || s.media.state == .full) && !s.verify.slot.blocksJournal

/-- The final write of a queued take is due (R90). -/
def finalDueOf (r : Record) (e : QueueEntry) : Bool :=
  r.state == .closing && decide (r.stop.getD 0 ≤ e.next) && e.current == none && decide (e.sealedSegs = e.completed)

def State.finalDue (s : State) (n : Nat) : Bool :=
  match s.recordAt n, s.entryOf n with
  | some r, some e => finalDueOf r e
  | _, _ => false

/-- The write of slot `n` that has been granted and has not completed, a retry of it included (R86, R87). -/
def State.composedWrite (s : State) (n : Nat) : Option Op :=
  (s.port.outstanding ++ s.port.waiting).find? fun op => op.kind == .journalWrite n && op.block.isSome

/-- A write of slot `n` is asked, or what stands for it: the amendment-pending flag while a write is outstanding (R87),
nothing while one waits (R86) or while the provisional write is held back (R88). -/
def State.askWrite (n : Nat) (s : State) : State :=
  match s.slotAt n with
  | none => s
  | some sl =>
    if sl.held ∨ sl.entry.record?.isNone then s
    else if sl.inFlight then
      if (s.composedWrite n).isSome then s.modifySlot n fun sl => { sl with amend := true } else s
    else (s.modifySlot n fun sl => { sl with inFlight := true }).askNew (.journalWrite n)

/-- The outstanding write of slot `n` is its record's final write (R87). -/
def State.finalOutstanding (s : State) (n : Nat) : Bool :=
  match s.composedWrite n with
  | none => false
  | some op => op.isFinal

/-- Record `n` is handed to the journal as changed (R73, R74, R87, R91). -/
def State.changeRecord (n : Nat) (s : State) : State :=
  match s.recordAt n with
  | none => s
  | some r =>
    if !s.canWriteJournal then
      (s.modifyRecord n (·.flag .unsaved)).modifySlot n fun sl =>
        { sl with amend := sl.amend || (s.composedWrite n).isSome }
    else if r.state = .closing then
      if s.finalOutstanding n then s.modifySlot n fun sl => { sl with amend := true } else s
    else s.askWrite n

/-- A checkpoint write is asked, if the card can take journal writes (R89). -/
def State.askCheckpoint (n : Nat) (s : State) : State := if s.canWriteJournal then s.askWrite n else s

/-- The first `k` blocks of an extent list (R85). -/
def cutExtents : Nat → List Extent → List Extent
  | 0, _ => []
  | _ + 1, [] => []
  | k + 1, e :: es =>
    if e.count ≤ k + 1 then e :: cutExtents (k + 1 - e.count) es else [{ e with count := k + 1 }]

/-- The bytes of the durable prefix of take `n` (R136): those of its queue entry, or those it held when it was abandoned
(R143). A record that was closed, or that a mount loaded, has none of its own here: its extent list ends with its durable
prefix (notes/assumptions/15). -/
def State.durableBytes (s : State) (n : Nat) : Option Nat :=
  match s.entryOf n with
  | some e => some e.durBytes
  | none => (s.slotAt n).bind (·.keptBytes)

/-- The durable frames that a journal write carries (R85): the whole frames within the durable prefix. -/
def durableFrames (r : Record) : Option Nat → Nat
  | some bytes => bytes / r.frameBytes
  | none => r.durable

/-- The extents that a journal write carries, cut at the end of the durable prefix (R85). -/
def durableExtents (r : Record) : Option Nat → List Extent
  | some bytes => cutExtents (ceilDiv bytes blockBytes) r.extents
  | none => r.extents

/-- The digest held for a take (R134): 0 for a take with no segment. -/
def WriteDigest.held : WriteDigest → Word32
  | .notBegun => 0
  | .running crc => crc32Finish crc
  | .finished d => d

def heldDigest : Option QueueEntry → Word32
  | some e => e.digest.held
  | none => 0

/-- The state a journal write carries (R85). -/
def carriedState (isFinal : Bool) (st : RecordState) : RecordState :=
  if isFinal then .closed
  else match st with
    | .opened => .opened
    | .closing => .opened
    | st => st

/-- The content of a journal write (R85), given the bytes of the durable prefix and the digest held for the take. -/
def composeRecord (r : Record) (bytes : Option Nat) (held : Word32) (isFinal : Bool) : Record :=
  let st := carriedState isFinal r.state
  { r with
    state := st
    stop := if st.settled then r.stop else none
    digest := if isFinal then some held else if st.settled then r.digest else none
    extents := durableExtents r bytes
    durable := durableFrames r bytes }

/-- The header image (R111). -/
def Media.headerImage (m : Media) : Option Header :=
  match m.generation, m.headerProfile with
  | some g, some p => some { generation := g, profile := p, overflowed := m.overflowed, defects := m.defects }
  | _, _ => none

/-- A header rewrite is asked, or noted as pending (R111). -/
def State.askHeaderRewrite (s : State) : State :=
  if !s.canWriteJournal then s
  else if s.media.headerInFlight then
    if (s.port.outstanding ++ s.port.waiting).any fun op => op.kind == .headerWrite && op.block.isSome then
      { s with media := { s.media with headerPending := true } }
    else s
  else { s with media := { s.media with headerInFlight := true } }.askNew .headerWrite

/-! ### Grants (R120, R85, R111, R133, R134) -/

def WriteDigest.register : WriteDigest → Word32
  | .running crc => crc
  | _ => crc32Init

/-- The write-side digest takes a segment's bytes (R134). -/
def tapDigest (tag : Option PositionTag) (bytes : List Byte) (d : WriteDigest) : WriteDigest :=
  let start := if tag = some .first ∨ tag = some .only then crc32Init else d.register
  let crc := crc32Feed start bytes
  if tag = some .last ∨ tag = some .only then .finished (crc32Finish crc) else .running crc

def setPiece (i : Nat) (st : PieceState) (l : List Piece) : List Piece := l.modify i fun p => { p with state := st }

/-- A segment write is granted: its buffer is IN FLIGHT, and the first write is tapped (R133, R134). -/
def State.grantSegment (b i : Nat) (s : State) : State :=
  match s.buffer b with
  | .free => s
  | .used _ seg =>
    let s := s.setBuffer b (.used .inFlight { seg with writes := setPiece i .outstanding seg.writes, tapped := true })
    if seg.tapped then s else s.modifyEntry seg.take fun e => { e with digest := tapDigest seg.tag seg.data e.digest }

/-- A verify read is granted (R150). -/
def grantWindow (id : Nat) : WindowEntry → WindowEntry
  | .waiting op a => if op = id then .outstanding op a else .waiting op a
  | x => x

def State.occupy (op : Op) (s : State) : State :=
  { s with port := { s.port with outstanding := s.port.outstanding ++ [op] } }

/-- A journal write is composed at its grant from the mirror as it stands, and the record's durable frames are those of this
write (R85, R146). -/
def State.composeJournal (n : Nat) (op : Op) (s : State) : State :=
  match op.block, s.recordAt n with
  | none, some r =>
    let bytes := s.durableBytes n
    let fin := s.finalDue n
    (s.modifyRecord n fun r => { r with durable := durableFrames r bytes }).occupy
      { op with block := some (recordBlock (composeRecord r bytes (heldDigest (s.entryOf n)) fin)), isFinal := fin }
  | _, _ => s.occupy op

/-- A header rewrite is composed at its grant from the header image as it stands (R111). -/
def State.composeHeader (op : Op) (s : State) : State :=
  match op.block, s.media.headerImage with
  | none, some h => s.occupy { op with block := some (headerBlock h) }
  | _, _ => s.occupy op

/-- The arbiter grants an operation an outstanding slot. -/
def State.grantOp (op : Op) (s : State) : State :=
  match op.kind with
  | .journalWrite n => s.composeJournal n op
  | .headerWrite => s.composeHeader op
  | .segmentWrite b i => (s.occupy op).grantSegment b i
  | .verifyRead _ _ =>
    let s := s.occupy op
    { s with verify := { s.verify with window := s.verify.window.map (grantWindow op.id) } }
  | .prepareHeader => s.occupy op
  | .prepareZero => s.occupy op
  | .sizeRead => s.occupy op
  | .headerRead => s.occupy op
  | .slotRead _ => s.occupy op

/-- The first waiting operation of the lowest-numbered class that holds one (R120). -/
def pickNext (l : List Op) : Option Op :=
  (l.find? fun op => op.kind.priority == 1).or
    ((l.find? fun op => op.kind.priority == 2).or (l.find? fun op => op.kind.priority == 3))

/-- One grant, if a slot is free and an operation waits. -/
def State.grantOne (s : State) : State :=
  if s.port.outstanding.length < maxOutstanding then
    match pickNext s.port.waiting with
    | none => s
    | some op => (s.withdraw fun x => x.id == op.id).grantOp op
  else s

/-- The arbiter grants the free slots, after every operation asked in the step has joined its class (R120). -/
def State.grant (s : State) : State := s.grantOne.grantOne.grantOne.grantOne

/-! ### Requests and reports (R175, R192) -/

/-- The immediate REPORT to a REQUEST. -/
def State.answer (q : Request) (c : OutcomeClass) (d : Detail) (reply : List Byte) (s : State) : State :=
  s.queueReport { dest := q.sender, tag := q.tag, kind := q.code, outcome := c, detail := d, reply := reply }

/-- The final REPORT of a long operation, to the recorded requester under the recorded tag (R192). -/
def State.finalReport (who : Requester) (k : RequestKind) (c : OutcomeClass) (d : Detail) (reply : List Byte) (s : State) :
    State :=
  s.queueReport { dest := who.station, tag := who.tag, kind := k.code, outcome := c, detail := d, reply := reply }

/-- The long-operation slot returns to IDLE (R147). -/
def State.idleSlot (s : State) : State := { s with verify := { s.verify with slot := .idle } }

/-- A RELEASE MEDIA ends ABORTED on a fourth failure of a write that it waits for (R119). -/
def State.abortRelease (s : State) : State :=
  match s.verify.slot with
  | .releasing who => s.idleSlot.finalReport who .releaseMedia .aborted .none [MediaState.faulted.code]
  | .preparing _ _ => s
  | .idle => s
  | .verifying _ _ => s

/-- A PREPARE MEDIA or RELEASE MEDIA ends ABORTED on a fourth write failure (R114, R118, R119). -/
def State.abortPreparation (s : State) : State :=
  match s.verify.slot with
  | .preparing who _ => s.idleSlot.finalReport who .prepareMedia .aborted .none [MediaState.faulted.code]
  | .releasing _ => s.abortRelease
  | .idle => s
  | .verifying _ _ => s

end Sys2Proof.Machine
end

