-- ==== Sys2Proof/Machine/TakeOps.lean ====
section
/-! DEFINITION. What the take engine, the segment writer and the media manager do together: defect notes and charges, sealing,
opening, closing, splitting, allocation, abandonment, MEDIA FULL and the media fault. -/

namespace Sys2Proof.Machine

/-! ### Defect notes (R13, R16) -/

/-- Changes the first element that `p` admits. -/
def modifyFirst {α : Type} (p : α → Bool) (f : α → α) : List α → List α
  | [] => []
  | x :: xs => if p x then f x :: xs else x :: modifyFirst p f xs

/-- Changes the last element that `p` admits. -/
def modifyLast {α : Type} (p : α → Bool) (f : α → α) (l : List α) : List α := (modifyFirst p f l.reverse).reverse

def DefectNote.isGap : DefectNote → Bool
  | .gap _ _ => true
  | .dropout _ _ _ => false

def DefectNote.isDropout (lane : Nat) : DefectNote → Bool
  | .gap _ _ => false
  | .dropout l _ _ => l == lane

/-- The take-relative frame just after the note's run. -/
def DefectNote.runEnd : DefectNote → Nat
  | .gap f n => f + n
  | .dropout _ f n => f + n

def DefectNote.lengthen (k : Nat) : DefectNote → DefectNote
  | .gap f n => .gap f (n + k)
  | .dropout l f n => .dropout l f (n + k)

/-- A new note joins the end of the list, or is dropped when the list is full. -/
def Record.addNote (note : DefectNote) (r : Record) : Record :=
  if r.notes.length < maxNotes then { r with notes := r.notes ++ [note] } else r.flag .notesDropped

/-- The most recent note that `p` admits is lengthened by `k` when its run ends at `q`; otherwise `note` is added. -/
def Record.runNote (p : DefectNote → Bool) (q k : Nat) (note : DefectNote) (r : Record) : Record :=
  match r.notes.reverse.find? p with
  | none => r.addNote note
  | some x => if x.runEnd = q then { r with notes := modifyLast p (·.lengthen k) r.notes } else r.addNote note

/-- A charge of `k` lost frames at take-relative frame `q` (R16). -/
def Record.charge (q k : Nat) (r : Record) : Record :=
  Record.runNote DefectNote.isGap q k (.gap q k) { r with lost := r.lost + k }

/-- A dropout of a lane at take-relative frame `q` (R13). -/
def Record.dropout (q : Nat) (r : Record) (lane : Nat) : Record :=
  r.runNote (DefectNote.isDropout lane) q 1 (.dropout lane q 1)

/-! ### Sealing and the end of drawing (R125, R131, R132) -/

/-- The last extent of a list is shortened by `k` blocks, or removed (R132). -/
def shortenLast (k : Nat) (l : List Extent) : List Extent :=
  match l.reverse with
  | [] => []
  | e :: rest => (if e.count ≤ k then rest else { e with count := e.count - k } :: rest).reverse

/-- R131. -/
def sealTag (isLast : Bool) (sequence : Nat) : PositionTag :=
  if isLast then (if sequence = 1 then .only else .last) else (if sequence = 1 then .first else .middle)

/-- The descriptor of a buffer as it is sealed (R131, R132, R133). -/
def Segment.close (isLast : Bool) (sequence : Nat) (seg : Segment) : Segment :=
  let used := ceilDiv seg.data.length blockBytes
  { seg with
    sequence := some sequence
    tag := some (sealTag isLast sequence)
    blocksUsed := used
    writes := [{ first := seg.run.first, count := used, segBlock := 0, state := .waiting }] }

/-- The take's current buffer is sealed and its write handed to the arbiter (R131, R133). -/
def State.sealCurrent (n : Nat) (isLast : Bool) (s : State) : State :=
  match s.entryOf n with
  | none => s
  | some e =>
    match e.current with
    | none => s
    | some b =>
      match s.buffer b with
      | .free => s
      | .used _ seg =>
        let seg' := seg.close isLast (e.sealedSegs + 1)
        ((((s.setBuffer b (.used .ready seg')).modifyEntry n fun e =>
            { e with sealedSegs := e.sealedSegs + 1, current := none }).modifyRecord n fun r =>
            { r with extents := if seg'.blocksUsed < seg.run.count
                then shortenLast (seg.run.count - seg'.blocksUsed) r.extents else r.extents }).askNew (.segmentWrite b 0))

/-- The final write is asked when it is due (R90). -/
def State.askFinalIfDue (n : Nat) (s : State) : State := if s.finalDue n then s.askWrite n else s

/-- A CLOSING take with no more frames to draw is sealed, and its final write asked if it is due (R125, R90). -/
def State.finishIfDone (n : Nat) (s : State) : State :=
  match s.recordAt n, s.entryOf n with
  | some r, some e =>
    if r.state = .closing ∧ r.stop.getD 0 ≤ e.next then (s.sealCurrent n true).askFinalIfDue n else s
  | _, _ => s

/-! ### Charges (R15, R17) -/

/-- Take `n` is charged for the frames below `limit` that it still needs (R15). -/
def State.chargeTake (limit : Nat) (s : State) (n : Nat) : State :=
  match s.recordAt n, s.entryOf n with
  | some r, some e =>
    if s.needsFrames e ∧ e.next < limit then
      let stopAt := if r.state = .opened then limit else min limit (r.stop.getD 0)
      ((s.modifyRecord n (·.charge (e.next - r.start) (stopAt - e.next))).modifyEntry n fun e =>
        { e with next := stopAt }).finishIfDone n
    else s
  | _, _ => s

/-- Every queued take is charged for the frames below `limit`, each from its own w (R15). R15 gives no order among the takes: that they
are charged in the order of the queue is the model's choice (DESIGN CHOICE, notes/assumptions/30), which decides the order in which their
segment and final writes are asked when several come to their stops by one store. -/
def State.chargeAll (limit : Nat) (s : State) : State :=
  (s.writer.queue.map (·.index)).foldl (fun s n => s.chargeTake limit n) s

/-! ### Closing (R46, R47, R56, R57, R78) -/

/-- Markers at or beyond the take's span are removed, and the record is handed on as changed (R78). -/
def State.trimMarkers (n : Nat) (s : State) : State :=
  match s.recordAt n with
  | none => s
  | some r =>
    let keep := r.markers.filter fun m => decide (m.frame + r.start < r.stop.getD 0)
    if keep.length = r.markers.length then s
    else (s.modifyRecord n fun r => Record.flag .markersDropped { r with markers := keep }).changeRecord n

/-- The stop of a take is fixed and it becomes CLOSING, with everything that follows in the same step. -/
def State.closeTake (n stop : Nat) (s : State) : State :=
  ((s.modifyRecord n fun r => { r with state := .closing, stop := some stop }).trimMarkers n).finishIfDone n

/-- Sets a flag on a record. -/
def State.flagRecord (n : Nat) (f : TakeFlag) (s : State) : State := s.modifyRecord n (·.flag f)

/-! ### Opening (R43, R55, R88) -/

/-- The provisional write of slot `n` is held back for the slot below (R88). -/
def State.provisionalHeld (s : State) (n : Nat) : Bool :=
  match s.slotAt (n - 1) with
  | none => false
  | some sl => !sl.firstDone

/-- An entry joins the writer queue (R123). -/
def QueueEntry.joining (n w : Nat) : QueueEntry :=
  { index := n, next := w, current := none, sealedSegs := 0, completed := 0, durSegs := 0, durBytes := 0, above := []
    digest := .notBegun }

/-- A record enters the mirror at the next take index, its take joins the writer queue, and its provisional write is asked
(R43, R55, R84, R88). -/
def State.addTake (r : Record) (w : Nat) (s : State) : State :=
  let slot : MirrorSlot :=
    { entry := .record r, inFlight := false, amend := false, firstDone := false, held := s.provisionalHeld r.index
      keptBytes := none }
  ({ s with
      journal := { s.journal with mirror := s.journal.mirror ++ [slot], nextIndex := s.journal.nextIndex + 1 }
      writer := { s.writer with queue := s.writer.queue ++ [QueueEntry.joining r.index w] } } : State).askWrite r.index

/-- The pending slate after it was attached (R71). -/
def Slate.advance (p : Slate) : Slate :=
  { Slate.unset with
    scene := p.scene
    sceneStamp := p.sceneStamp
    number := if 1 ≤ p.number ∧ p.number ≤ 998 then p.number + 1 else p.number
    numberStamp := p.numberStamp }

/-- The record of a take opened by a ROLL, before any charge at entry (R43, R8). -/
def State.newRecord (s : State) (p : Profile) (key : TakeKey) (start : Nat) (flags : TakeFlags) : Record where
  index := s.journal.nextIndex
  generation := s.media.generation.getD 0
  key := key
  continues := none
  state := .opened
  flags := flags
  start := start
  stop := none
  startLabel := s.labelAt start
  labelRate := s.timecode.rate
  recorded := 0
  lost := 0
  durable := 0
  armed := s.intake.armMask
  mixPresent := p.mixEnable
  rate := s.intake.rate
  frameBytes := frameBytesOf s.intake.armMask p.mixEnable
  digest := none
  peaks := List.replicate (trackCount s.intake.armMask p.mixEnable) 0
  clipCount := 0
  joined := [key]
  slate := s.slate
  markers := []
  notes := []
  extents := []

/-- The flags that the conversions set on an opening take (R26, R29, R30). -/
def openingFlags (pt : Point) (short : Bool) : TakeFlags :=
  setFlagIf short .shortPreRoll (setFlagIf pt.clamped .stampClamped (setFlagIf pt.rateMismatch .rateMismatch 0))

/-- A take opens (R43), from the roll point of its ROLL. -/
def State.openTake (p : Profile) (key : TakeKey) (pt : Point) (s : State) : State :=
  let st := takeStart s.intake.rate p.preRoll s.intake.position pt.position
  let r := s.newRecord p key st.1 (openingFlags pt st.2)
  let oldest := s.intake.oldestHeld
  let r := if st.1 < oldest then r.charge 0 (oldest - st.1) else r
  let s := s.addTake r (max st.1 oldest)
  { s with
    engine := { s.engine with takeState := .rolling, openTake := some r.index, holders := [key], pendingStop := none }
    slate := s.slate.advance }

/-! ### Splits (R53–R56) -/

/-- A split is accepted (R55). -/
def State.splitAccepted (s : State) : Bool :=
  decide (s.writer.queue.length < maxQueue) && decide (s.journal.nextIndex ≤ journalSlots)

/-- The record of a continuation (R55), with the markers that moved to it (R78). -/
def State.continuation (s : State) (old : Record) (x : Nat) (markers : List Marker) : Record :=
  { old with
    index := s.journal.nextIndex
    generation := s.media.generation.getD 0
    continues := some old.index
    state := .opened
    flags := 0
    start := x
    stop := none
    startLabel := s.labelAt x
    labelRate := s.timecode.rate
    recorded := 0
    lost := 0
    durable := 0
    digest := none
    peaks := List.replicate (trackCount old.armed old.mixPresent) 0
    clipCount := 0
    markers := markers
    notes := []
    extents := [] }

/-- The markers of a take at or after a split point, moved to take-relative frames of the continuation (R78). -/
def movedMarkers (r : Record) (x : Nat) : List Marker :=
  (r.markers.filter fun m => decide (x ≤ r.start + m.frame)).map fun m => { m with frame := r.start + m.frame - x }

/-- An accepted split of the open take `n` at `x` (R55). The continuation's write is asked before any of the old take
(DESIGN CHOICE, notes/assumptions/30). -/
def State.doSplit (n x : Nat) (s : State) : State :=
  match s.recordAt n with
  | none => s
  | some r =>
    let moved := movedMarkers r x
    let next := s.journal.nextIndex
    let s := s.modifyRecord n fun r =>
      { r with state := .closing, stop := some x, markers := r.markers.filter fun m => decide (r.start + m.frame < x) }
    let s := s.addTake (s.continuation r x moved) x
    let s := { s with engine := { s.engine with openTake := some next } }
    let s := if moved.isEmpty then s else (s.changeRecord n).changeRecord next
    s.finishIfDone n

/-- A refused split cuts the take at `x` (R56). -/
def State.refuseSplit (n x : Nat) (s : State) : State :=
  ((s.clearOpen.flagRecord n .splitRefused).closeTake n x).enterStandby

/-- The open take is split at `x`, or cut there (R53, R54). -/
def State.splitAt (n x : Nat) (s : State) : State := if s.splitAccepted then s.doSplit n x else s.refuseSplit n x

/-! ### Allocation (R112) -/

def State.defectAt (s : State) (b : Nat) : Bool := s.media.defects.any fun d => d.block == b

/-- The lowest block at or above `c` that is not on the defect list. -/
def State.firstGood (s : State) (c : Nat) : Nat :=
  c + (((List.range (s.media.defects.length + 1)).find? fun k => !s.defectAt (c + k)).getD 0)

/-- Blocks of a run from `c`, up to `n`, before the first defect or the end of the card. -/
def State.runLength (s : State) (c n capacity : Nat) : Nat :=
  ((List.range n).takeWhile fun k => decide (c + k < capacity) && !s.defectAt (c + k)).length

/-- A request for a run of up to `n` blocks: the run and the state with the cursor moved, or `none` for FULL (R112, R113). -/
def State.allocate (n : Nat) (s : State) : Option (Extent × State) :=
  match s.media.cursor, s.media.capacity with
  | some cur, some capacity =>
    let c := s.firstGood cur
    let k := s.runLength c n capacity
    if s.media.state = .full ∨ capacity ≤ c ∨ k = 0 then none
    else some ({ first := c, count := k }, { s with media := { s.media with cursor := some (c + k) } })
  | _, _ => none

/-- The free-block count (R112). -/
def State.freeBlocks (s : State) : Nat :=
  match s.media.cursor, s.media.capacity with
  | some cur, some capacity =>
    (capacity - cur) - (s.media.defects.filter fun d => decide (cur ≤ d.block) && decide (d.block < capacity)).length
  | _, _ => 0

/-! ### Abandonment (R143, R92) -/

/-- A buffer of an abandoned take (R143). -/
def Buffer.abandon (n : Nat) : Buffer → Buffer
  | .free => .free
  | .used phase seg =>
    if seg.take = n ∧ seg.orphan = false then
      if phase = .inFlight then .used .inFlight { seg with orphan := true } else .free
    else .used phase seg

/-- The buffer holds a segment of take `n` that was not abandoned before. -/
def Buffer.ofTake (n : Nat) : Buffer → Bool
  | .free => false
  | .used _ seg => seg.take == n && !seg.orphan

/-- The waiting segment writes of take `n`. -/
def State.writesOf (s : State) (n : Nat) (op : Op) : Bool :=
  match op.kind with
  | .segmentWrite b _ => (s.buffer b).ofTake n
  | _ => false

/-- The record of an abandoned take (R143, R92), given the bytes of its durable prefix: the frames beyond the prefix's whole
frames count as lost. Its durable frames stay those of the last journal write composed (R92, R146). -/
def Record.abandon (f : TakeFlag) (bytes : Nat) (r : Record) : Record :=
  let kept := bytes / r.frameBytes
  Record.flag f { r with
    state := .interrupted
    stop := none
    digest := none
    recorded := kept
    lost := r.lost + (r.recorded - kept) }

/-- Take `n` is abandoned with a flag (R143, R92). An open take leaves the open state, and the station is OFFLINE until
`refreshStation` finds the media READY and the clock RUNNING (R59, R60, R61). -/
def State.abandonTake (f : TakeFlag) (s : State) (n : Nat) : State :=
  match s.entryOf n with
  | some e =>
    let s' := (s.withdraw (s.writesOf n)).dropEntry n
    let s' := { s' with writer := { s'.writer with buffers := Vector.ofFn fun i => (s'.writer.buffers[i]).abandon n } }
    let s' := s'.modifySlot n fun sl => { sl with entry := sl.entry.mapRecord (·.abandon f e.durBytes), keptBytes := some e.durBytes }
    let s' := s'.changeRecord n
    if s.engine.openTake = some n then s'.clearOpen.setTake .offline else s'
  | none => s

/-! ### MEDIA FULL (R113, R142, R60) -/

def State.setMedia (m : MediaState) (s : State) : State := { s with media := { s.media with state := m } }

/-- The take being filled is cut at its w (R142, R60). -/
def State.cutFull (n : Nat) (s : State) : State :=
  match s.entryOf n with
  | none => s
  | some e =>
    let s' := if s.engine.openTake = some n then s.clearOpen.setTake .offline else s
    (s'.flagRecord n .mediaFull).closeTake n e.next

/-- The queued takes behind take `n`. -/
def State.behind (s : State) (n : Nat) : List Nat :=
  ((s.writer.queue.dropWhile fun e => e.index != n).drop 1).map (·.index)

/-- A request for a run was answered FULL (R142): by the opening of a buffer, or by a remap of take `failing`. At a remap the failing take
is abandoned before the take being filled is cut, as R142 names the two, while R113 names the cut first; and the takes behind are
abandoned after that, in the order of the queue. Both are the model's choice (DESIGN CHOICE, notes/assumptions/30). -/
def State.runRefused (failing : Option Nat) (s : State) : State :=
  let filling := s.filling.map (·.index)
  let abandoned := match failing with | none => s | some n => State.abandonTake .mediaFull s n
  if s.media.state = .full ∧ failing.isSome then abandoned.refreshStation
  else
    let s1 := match failing with
      | none => s.setMedia .full
      | some n => State.abandonTake .mediaFull (s.setMedia .full) n
    let s2 := match filling with
      | none => s1
      | some n => (s.behind n).foldl (State.abandonTake .mediaFull) (if failing = some n then s1 else s1.cutFull n)
    s2.refreshStation

/-! ### Defect growth (R110) -/

/-- Inserts a block at its place in ascending order. -/
def insertDefect (d : Defect) : List Defect → List Defect
  | [] => [d]
  | x :: rest => if d.block < x.block then d :: x :: rest else if d.block = x.block then x :: rest else x :: insertDefect d rest

/-- A failing audio block is entered as GROWN, or DEFECTS OVERFLOWED is set, and a header rewrite is asked (R110). -/
def State.growDefect (b : Nat) (s : State) : State :=
  if s.media.state = .ready ∨ s.media.state = .full then
    if s.media.defects.length < maxDefects then
      ({ s with media := { s.media with defects := insertDefect { block := b, grown := true } s.media.defects } } :
        State).askHeaderRewrite
    else if s.media.overflowed then s
    else ({ s with media := { s.media with overflowed := true } } : State).askHeaderRewrite
  else s

/-! ### The media fault (R114, R144, R59) -/

/-- A waiting write is discarded by the fault: its slot's write-in-flight flag is cleared and UNSAVED set on its record, or the
header flags are cleared (R114, R92). The slot's amendment-pending flag is cleared with it: the rules name the
write-in-flight flag alone (notes/assumptions/11). -/
def State.discardWrite (s : State) (op : Op) : State :=
  match op.kind with
  | .journalWrite n =>
    (s.modifySlot n fun sl => { sl with inFlight := false, amend := false }).flagRecord n .unsaved
  | .headerWrite => { s with media := { s.media with headerInFlight := false, headerPending := false } }
  | .prepareHeader => s
  | .prepareZero => s
  | .segmentWrite _ _ => s
  | .sizeRead => s
  | .headerRead => s
  | .slotRead _ => s
  | .verifyRead _ _ => s

/-- Every write waiting at the arbiter is discarded, whatever its kind (R114). -/
def State.discardWrites (s : State) : State :=
  (s.port.waiting.filter fun op => op.kind.priority < 3).foldl State.discardWrite
    (s.withdraw fun op => op.kind.priority < 3)

/-- The media is faulted (R114, R144, R59). While it is FAULTED already, only a running preparation ends. The STATE frame
stands before the final REPORT (R147). -/
def State.faultMedia (s : State) : State :=
  if s.media.state = .faulted then s.abortPreparation
  else
    let s1 := (s.setMedia .faulted).discardWrites
    let s2 := ((s1.writer.queue.map (·.index)).foldl (State.abandonTake .mediaFault) s1).refreshStation
    (State.announce s s2).abortPreparation

/-! ### Profile load (R106, R4, R6, R22, R38) -/

/-- What a change of the expected rate does to the intake (R4, R11, R14). -/
def Intake.changeRate (r : SampleRate) (i : Intake) : Intake :=
  if i.rate = r then i
  else
    { i with
      rate := r, clock := .lost, qualification := 0, lanes := Vector.replicate 16 .off
      meters := Vector.replicate 18 0, windowCount := 0, windowMax := Vector.replicate 18 0, fillStart := i.position }

/-- The profile in use: at 96,000 a pre-roll above 50 tenths is taken as 50 (R106). -/
def Profile.inUse (p : Profile) : Profile :=
  if p.rate = .hz96000 ∧ 50 < p.preRoll then { p with preRoll := 50 } else p

/-- A profile is loaded (R106). -/
def State.loadProfile (p : Profile) (s : State) : State :=
  { s with
    timecode := loadTimecode s.timecode s.intake.rate p s.intake.position
    intake := { s.intake.changeRate p.rate with armMask := p.armMask, nextArm := none }
    media := { s.media with profile := some p.inUse, headerProfile := some p }
    engine := { s.engine with followSet := if s.link.role = .follow then p.followSet else 0 } }

end Sys2Proof.Machine
end

