-- ==== Sys2Proof/Machine/WriterOps.lean ====
section
/-! DEFINITION. The segment writer's own operations: drawing a frame, opening a buffer, completing, failing and remapping a
segment, and the durable prefix. -/

namespace Sys2Proof.Machine

/-! ### Drawing (R12, R13, R124, R125, R128, R130) -/

/-- The values of a take's tracks in a ring frame, in track order (R8). -/
def trackSamples (armed : Word16) (mix : Bool) (f : RingFrame) : List Sample :=
  ((lanesOf armed).map fun i => f.lanes[i]) ++ (if mix then [f.mixL, f.mixR] else [])

/-- The bytes of a recorded frame (R130). -/
def recordedFrame (r : Record) (f : RingFrame) : List Byte := (trackSamples r.armed r.mixPresent f).flatMap sampleBytes

/-- The frame at position `w` is accounted to the take (R12, R13, R125). R13 gives no order to the notes of several lanes that
drop out at the same frame: they join in ascending lane number (notes/assumptions/24). -/
def Record.account (f : RingFrame) (w : Nat) (r : Record) : Record :=
  let r' := { r with
    recorded := r.recorded + 1
    peaks := List.zipWith max r.peaks ((trackSamples r.armed r.mixPresent f).map magnitude)
    clipCount := if r.mixPresent && f.clip then min 65535 (r.clipCount + 1) else r.clipCount }
  ((lanesOf (r.armed &&& f.invalid)).map (·.val)).foldl (Record.dropout (w - r.start)) r'

/-- The room left in a take's current buffer. -/
def State.room (s : State) (e : QueueEntry) : Nat :=
  match e.current with
  | none => 0
  | some b =>
    match s.buffer b with
    | .free => 0
    | .used _ seg => seg.run.count * blockBytes - seg.data.length

/-- The FREE staging buffer that is opened: R128 does not say which of several, and the lowest-numbered is taken
(notes/assumptions/26). -/
def State.freeBuffer (s : State) : Option Nat := (List.range 8).find? fun b => s.buffer b == .free

/-- The holdback and the pending stop let the take draw its next-needed frame (R124). -/
def State.mayDraw (s : State) (r : Record) (e : QueueEntry) : Bool :=
  match r.state with
  | .opened =>
    decide (e.next + s.intake.rate.half < s.intake.position)
      && (match s.engine.takeState, s.engine.pendingStop with
          | .tail, some p => decide (e.next < p)
          | _, _ => true)
  | _ => true

/-- Bytes join a buffer. -/
def State.fillBuffer (b : Nat) (bytes : List Byte) (s : State) : State :=
  match s.buffer b with
  | .free => s
  | .used phase seg => s.setBuffer b (.used phase { seg with data := seg.data ++ bytes })

/-- A drawn frame is accounted to its take, and w moves on (R125). -/
def State.accountDraw (n : Nat) (f : RingFrame) (w : Nat) (s : State) : State :=
  ((s.modifyRecord n (·.account f w)).modifyEntry n fun e => { e with next := e.next + 1 }).finishIfDone n

/-- The stream offset at which the take's next buffer begins (R127): after the bytes its full current buffer holds. -/
def State.nextOffset (s : State) (e : QueueEntry) : Nat :=
  match e.current with
  | none => 0
  | some b =>
    match s.buffer b with
    | .free => 0
    | .used _ seg => seg.offset + seg.run.count * blockBytes

/-- The run merges into the list's last extent (R128, step 4). -/
def mergesLast (run : Extent) (l : List Extent) : Bool :=
  match l.getLast? with
  | none => false
  | some e => e.first + e.count == run.first

/-- The run is entered in the extent list (R128, step 4). -/
def enterRun (run : Extent) (l : List Extent) : List Extent :=
  if mergesLast run l then l.dropLast ++ [{ (l.getLast?.getD run) with count := (l.getLast?.getD run).count + run.count }]
  else l ++ [run]

/-- The blocks asked for a buffer (R128, step 3). -/
def State.blocksWanted (s : State) (r : Record) (e : QueueEntry) : Nat :=
  if r.state = .opened then segmentBlocks
  else min segmentBlocks (ceilDiv ((r.stop.getD 0 - e.next) * r.frameBytes - s.room e) blockBytes)

/-- A buffer is opened with a run and the frame's bytes are placed across the old and the new one (R128 step 5, R130). -/
def State.openBuffer (n b : Nat) (run : Extent) (offset room : Nat) (bytes : List Byte) (s : State) : State :=
  let old := (s.entryOf n).bind (·.current)
  let s := match old with | none => s | some c => (s.fillBuffer c (bytes.take room)).sealCurrent n false
  let seg : Segment :=
    { take := n, sequence := none, tag := none, run := run, blocksUsed := 0, offset := offset, writes := [], failures := 0
      tapped := false, orphan := false, data := bytes.drop room }
  (s.setBuffer b (.used .filling seg)).modifyEntry n fun e => { e with current := some b }

/-- A run is asked for a new buffer, and the frame is drawn into it (R128 steps 3 to 5, R141, R142). -/
def State.openAndDraw (n b : Nat) (f : RingFrame) (s : State) : State :=
  match s.recordAt n, s.entryOf n with
  | some r, some e =>
    match s.allocate (s.blocksWanted r e) with
    | none => s.runRefused none
    | some (run, s') =>
      if maxExtents ≤ r.extents.length ∧ mergesLast run r.extents = false then
        (State.abandonTake .extentOverflow s' n).refreshStation
      else
        ((s'.modifyRecord n fun r => { r with extents := enterRun run r.extents }).openBuffer n b run
          (s.nextOffset e) (s.room e) (recordedFrame r f)).accountDraw n f e.next
  | _, _ => s

/-- The frame that the take being filled may draw now (R124). -/
def State.drawable (s : State) (r : Record) (e : QueueEntry) : Option RingFrame :=
  if s.mayDraw r e then s.intake.frameAt e.next else none

/-- A frame whose bytes have no room: a buffer is opened, after the threshold test for the open take (R128, R129). -/
def State.drawOpening (r : Record) (e : QueueEntry) (f : RingFrame) (s : State) : State :=
  match s.freeBuffer with
  | none => s
  | some b =>
    if s.engine.openTake = some e.index ∧ splitExtents ≤ r.extents.length then
      if s.splitAccepted then (s.doSplit e.index e.next).openAndDraw s.journal.nextIndex b f
      else s.refuseSplit e.index e.next
    else s.openAndDraw e.index b f

/-- A draw of the next-needed frame of the take being filled, when its conditions hold (R124, R125). -/
def State.drawFrame (s : State) : State :=
  match s.filling with
  | none => s
  | some e =>
    match s.recordAt e.index with
    | none => s
    | some r =>
      match s.drawable r e with
      | none => s
      | some f =>
        match e.current with
        | some b =>
          if r.frameBytes ≤ s.room e then (s.fillBuffer b (recordedFrame r f)).accountDraw e.index f e.next
          else s.drawOpening r e f
        | none => s.drawOpening r e f

/-! ### Completion and the durable prefix (R135, R136) -/

/-- The durable prefix is extended over the completed segments that follow it in sequence (R136). -/
def QueueEntry.extend : Nat → QueueEntry → QueueEntry
  | 0, e => e
  | k + 1, e =>
    match e.above.find? fun x => x.1 == e.durSegs + 1 with
    | none => e
    | some x =>
      QueueEntry.extend k { e with
        durSegs := e.durSegs + 1, durBytes := e.durBytes + x.2, above := e.above.filter fun y => y.1 != x.1 }

/-- A segment of the take has completed (R135, R136). -/
def QueueEntry.complete (sequence bytes : Nat) (e : QueueEntry) : QueueEntry :=
  QueueEntry.extend (e.above.length + 1)
    { e with completed := e.completed + 1, above := e.above ++ [(sequence, bytes)] }

/-- No write of the segment waits or is outstanding (R135). -/
def Segment.settled (seg : Segment) : Bool :=
  seg.writes.all fun p => p.state == .completed || p.state == .failed

/-- A write of the segment is outstanding. -/
def Segment.hasOutstanding (seg : Segment) : Bool := seg.writes.any fun p => p.state == .outstanding

/-- The final write, or else the checkpoint of every sixteenth segment, is asked (R89, R90, R135). -/
def State.reportCompletion (n : Nat) (s : State) : State :=
  if s.finalDue n then s.askWrite n
  else match s.entryOf n with
    | none => s
    | some e => if e.completed % 16 = 0 then s.askCheckpoint n else s

/-- A segment has completed: its buffer is FREE, and its take's counts and durable prefix move on (R135). -/
def State.completeSegment (b : Nat) (seg : Segment) (s : State) : State :=
  ((s.setBuffer b .free).modifyEntry seg.take (·.complete (seg.sequence.getD 0) seg.data.length)).reportCompletion seg.take

/-- A write of buffer `b` completed successfully (R135, R143). -/
def State.segmentDone (b i : Nat) (s : State) : State :=
  match s.buffer b with
  | .free => s
  | .used phase seg =>
    let seg := { seg with writes := setPiece i .completed seg.writes }
    if seg.orphan then s.setBuffer b (if seg.hasOutstanding then .used phase seg else .free)
    else if seg.settled then s.completeSegment b seg
    else s.setBuffer b (.used (if seg.hasOutstanding then .inFlight else .failed) seg)

/-! ### Failure and remap (R137–R142) -/

/-- How the asking of remap runs ended. -/
inductive RemapEnd where
  | covered
  | full
  | overflow
  deriving DecidableEq, Repr

/-- Runs are asked for the uncovered blocks of a failed range, one after another, while the extent list has room for
`room` more entries (R139, R141). -/
def State.remapRuns : Nat → Nat → Nat → Nat → State → RemapEnd × List Piece × State
  | 0, _, _, _, s => (.covered, [], s)
  | fuel + 1, left, segBlock, room, s =>
    if left = 0 then (.covered, [], s)
    else match s.allocate left with
      | none => (.full, [], s)
      | some (run, s') =>
        if room = 0 then (.overflow, [], s')
        else
          let x := State.remapRuns fuel (left - run.count) (segBlock + run.count) (room - 1) s'
          (x.1, { first := run.first, count := run.count, segBlock := segBlock, state := .waiting } :: x.2.1, x.2.2)

def Extent.holds (b : Nat) (e : Extent) : Bool := decide (e.first ≤ b) && decide (b < e.first + e.count)

/-- What the cutting of a failed range leaves of an extent list (R138): the entries up to the head, and those from the tail
on. -/
structure CutList where
  before : List Extent
  after  : List Extent
  deriving DecidableEq, Repr

/-- The extent that holds `b` is replaced by its head and, when it runs past block `last`, its tail (R138). A tail that the
list has no place for is left out, and the answer says so (R139, R141). -/
def cutRange (b last : Nat) (l : List Extent) : CutList × Bool :=
  let front := l.takeWhile fun e => !e.holds b
  match l.dropWhile fun e => !e.holds b with
  | [] => ({ before := front, after := [] }, false)
  | e :: rest =>
    let head := if e.first < b then [{ first := e.first, count := b - e.first : Extent }] else []
    let tail := if last + 1 < e.first + e.count then [{ first := last + 1, count := e.first + e.count - 1 - last : Extent }] else []
    let tooLong := decide (maxExtents < front.length + head.length + tail.length + rest.length)
    ({ before := front ++ head, after := (if tooLong then [] else tail) ++ rest }, tooLong)

/-- The remap extents of rewrite pieces. -/
def pieceExtents (l : List Piece) : List Extent := l.map fun p => { first := p.first, count := p.count }

/-- The remap extents are entered between what the cut left of the list, those given before a FULL answer included (R139). -/
def State.enterPieces (n : Nat) (cut : CutList) (pieces : List Piece) (s : State) : State :=
  s.modifyRecord n fun r => { r with extents := cut.before ++ pieceExtents pieces ++ cut.after }

/-- Rewrite pieces are handed to the arbiter in stream order (R139). -/
def State.handOver (b : Nat) (from_ : Nat) : List Piece → State → State
  | [], s => s
  | _ :: rest, s => State.handOver b (from_ + 1) rest (s.askNew (.segmentWrite b from_))

/-- The failing segment with its rewrite pieces (R137, R139). -/
def Segment.withPieces (seg : Segment) (pieces : List Piece) : Segment := { seg with writes := seg.writes ++ pieces }

/-- A failure below the fourth: the failed range is cut out and remapped (R138–R142). `seg` is the descriptor with the
failure counted and the failing write marked; `p` is the failing write. -/
def State.remapSegment (b : Nat) (seg : Segment) (p : Piece) (bad : Nat) (s : State) : State :=
  let last := p.first + p.count - 1
  let s := s.growDefect bad
  match s.recordAt seg.take with
  | none => s
  | some r =>
    let cut := cutRange bad last r.extents
    let kept := cut.1.before ++ cut.1.after
    let cutOnly := s.modifyRecord seg.take fun r => { r with extents := kept }
    if cut.2 then (State.abandonTake .extentOverflow cutOnly seg.take).refreshStation
    else
      let runs := cutOnly.remapRuns segmentBlocks (last + 1 - bad) (p.segBlock + (bad - p.first)) (maxExtents - kept.length)
      match runs.1 with
      | .overflow => (State.abandonTake .extentOverflow runs.2.2 seg.take).refreshStation
      | .full => (runs.2.2.enterPieces seg.take cut.1 runs.2.1).runRefused (some seg.take)
      | .covered =>
        let seg' := seg.withPieces runs.2.1
        ((runs.2.2.enterPieces seg.take cut.1 runs.2.1).setBuffer b
          (.used (if seg.hasOutstanding then .inFlight else .failed) seg')).handOver b seg.writes.length runs.2.1

/-- A write of buffer `b` failed at block `bad` (R137). The failure of a write of an abandoned take counts toward nothing, so the
failure count of its segment stays (R127, R143). -/
def State.segmentFailed (b i bad : Nat) (s : State) : State :=
  match s.buffer b with
  | .free => s
  | .used phase seg =>
    match seg.writes[i]? with
    | none => s
    | some p =>
      let seg := { seg with writes := setPiece i .failed seg.writes }
      if seg.orphan then s.setBuffer b (if seg.hasOutstanding then .used phase seg else .free)
      else
        let seg := { seg with failures := seg.failures + 1 }
        let s1 := s.setBuffer b (.used (if seg.hasOutstanding then .inFlight else .failed) seg)
        if maxAttempts ≤ seg.failures then s1.faultMedia
        else State.announce s (s1.remapSegment b seg p bad)

/-- The first block of a segment write, at which a timeout counts as failing (R121). -/
def State.firstBlockOf (s : State) (b i : Nat) : Nat :=
  match s.buffer b with
  | .free => 0
  | .used _ seg => ((seg.writes[i]?).map (·.first)).getD 0

/-- The block lies in the write (R121: the port names one of the write's blocks). -/
def State.blockInWrite (s : State) (b i bad : Nat) : Bool :=
  match s.buffer b with
  | .free => false
  | .used _ seg =>
    match seg.writes[i]? with
    | none => false
    | some p => decide (p.first ≤ bad) && decide (bad < p.first + p.count)

/-- The bytes that a segment write carries to the port (R132, R133, R139): those of the buffer from the write's first block,
with the padding of the last block. -/
def Segment.writeBytes (seg : Segment) (p : Piece) : List Byte :=
  ((padTo (seg.blocksUsed * blockBytes) seg.data).drop (p.segBlock * blockBytes)).take (p.count * blockBytes)

end Sys2Proof.Machine
end

