-- ==== Sys2Proof/Machine/Card.lean ====
section
/-! DEFINITION. The recording card: its insertion and removal, the mount with its reads, and the scan of the journal with its
recovery. -/

namespace Sys2Proof.Machine

/-! ### Completions (R121) -/

/-- The operation of id `id` that `p` admits ends: its outstanding slot becomes free, its outcome is acted on, and the freed
slot is granted after the operations asked in the step (R120, R121). A completion of an operation that is not outstanding is
ignored. -/
def State.complete (id : Nat) (p : OpKind → Bool) (act : Op → State → State) (s : State) : State :=
  match s.outstandingOp id p with
  | none => s
  | some op => (act op (s.release id)).grant

/-! ### Insertion (R103, R107) -/

def State.setMount (m : Mount) (s : State) : State := { s with media := { s.media with mount := m } }

/-- An insertion is taken (R103): the mount begins with the size read (R107). -/
def State.insertCard (wprot : Bool) (s : State) : State :=
  (State.announce s
    (({ s with media := { s.media with state := .mounting, protectMark := wprot, mount := .sizing } } : State).askNew
      .sizeRead)).grant

/-- CARD_INSERTION (R103). -/
def execCardInsertion (wprot : Bool) (s : State) : Host.Outcome State Fault Refusal :=
  .next (if s.media.state = .absent then s.insertCard wprot else s)

/-! ### Removal (R115, R58, R93, R100, R145, R157) -/

/-- What a removal drops of the media manager's values (R115). The profile in use stays (R106). -/
def Media.removed (m : Media) : Media :=
  { m with
    state := .absent, protectMark := false, capacity := none, generation := none, headerProfile := none
    defects := [], overflowed := false, cursor := none, headerInFlight := false, headerPending := false, mount := .none }

/-- The long-operation slot is IDLE, the verify buffer empty and the read-side context released (R157). -/
def Verify.released (v : Verify) : Verify := { v with slot := .idle, window := [], digest := none }

/-- The effects of a removal on every block but the link controller. -/
def State.dropCard (s : State) : State :=
  ({ s with
      media := s.media.removed
      port := { s.port with waiting := [], outstanding := [] }
      journal := { mirror := [], nextIndex := 1 }
      writer := { queue := [], buffers := Vector.replicate 8 .free }
      verify := s.verify.released } : State).clearOpen.setTake .offline

/-- The final REPORT of a long operation that a removal ended (R115, R157, R192). -/
def State.reportRemoval (op : LongOp) (s : State) : State :=
  match op with
  | .idle => s
  | .verifying who n => s.finalReport who .verifyTake .mediaChanged .none (le 2 n)
  | .preparing who _ => s.finalReport who .prepareMedia .mediaChanged .none []
  | .releasing who => s.finalReport who .releaseMedia .mediaChanged .none []

/-- A removal is taken (R115): the STATE frame stands before the final REPORT (R147). -/
def State.removeCard (s : State) : State := (State.announce s s.dropCard).reportRemoval s.verify.slot

/-- CARD_REMOVAL (R115). -/
def execCardRemoval (s : State) : Host.Outcome State Fault Refusal :=
  .next (if s.media.state = .absent then s else s.removeCard)

/-! ### The size read and the header read (R104, R105, R107, R108) -/

/-- The mount ends UNPREPARED (R107). -/
def State.endUnprepared (s : State) : State := { s with media := { s.media with state := .unprepared, mount := .none } }

/-- The capacity is known (R104, R107 step 1). -/
def State.setCapacity (blocks : Nat) (s : State) : State :=
  let b := min blocks maxCapacity
  let s' := { s with media := { s.media with capacity := some b } }
  if b < minCapacity then s'.endUnprepared else (s'.setMount .header).askNew .headerRead

/-- The size read of the mount in progress has ended (R107, R108). -/
def State.sizeEnded (blocks : Option Nat) (op : Op) (s : State) : State :=
  if s.media.mount = .sizing then
    State.announce s (match blocks with
      | some b => s.setCapacity b
      | none => if op.attempt < maxAttempts then s.retry op else s.setCapacity 0)
  else s

def OpKind.isSizeRead : OpKind → Bool
  | .sizeRead => true
  | _ => false

/-- SIZE_READ_COMPLETE (R107). -/
def execSizeReadComplete (op : Nat) (blocks : Option Nat) (s : State) : Host.Outcome State Fault Refusal :=
  .next (s.complete op OpKind.isSizeRead (State.sizeEnded blocks))

/-- The reads of a batch of slots are asked (R95). -/
def State.askSlots (first n : Nat) (s : State) : State :=
  ((List.range n).map (first + ·)).foldl (fun s k => s.askNew (.slotRead k)) s

/-- A valid header is taken (R107 steps 3 and 4): the profile is loaded and the scan begins. -/
def State.takeHeader (h : Header) (s : State) : State :=
  ((({ s with media := { s.media with
        generation := some h.generation, defects := h.defects, overflowed := h.overflowed
        mount := .scan 1 scanBatch 0 [] } } : State).loadProfile h.profile).askSlots 1 scanBatch)

/-- Block 0 has been read, or all 4 reads have failed (R105, R107 step 2). -/
def State.judgeHeader (block : Option (List Byte)) (s : State) : State :=
  match block.bind (decodeHeader (s.media.capacity.getD 0)) with
  | none => s.endUnprepared
  | some h => s.takeHeader h

/-- The header read of the mount in progress has ended (R107, R108). -/
def State.headerReadEnded (block : Option (List Byte)) (op : Op) (s : State) : State :=
  if s.media.mount = .header then
    State.announce s (if block = none ∧ op.attempt < maxAttempts then s.retry op else s.judgeHeader block)
  else s

def OpKind.isHeaderRead : OpKind → Bool
  | .headerRead => true
  | _ => false

/-- HEADER_READ_COMPLETE (R107). -/
def execHeaderReadComplete (op : Nat) (block : Option (List Byte)) (s : State) : Host.Outcome State Fault Refusal :=
  .next (s.complete op OpKind.isHeaderRead (State.headerReadEnded block))

/-! ### The scan (R95–R99) -/

/-- What the content of a journal slot is (R95). -/
inductive SlotClass where
  | blank
  | record (r : Record)
  | otherGeneration
  | unreadable
  deriving DecidableEq, Repr

/-- Every byte 0, or every byte 0xFF (R95). -/
def blankBlock (bs : List Byte) : Bool := (bs.all fun b => b == 0) || (bs.all fun b => b == 0xFF)

/-- The class of slot `k`'s content (R95, R198); `none` for a slot whose 4 reads all failed. -/
def classifySlot (capacity generation k : Nat) (content : Option (List Byte)) : SlotClass :=
  match content with
  | none => .unreadable
  | some bs =>
    if blankBlock bs then .blank
    else match decodeRecord capacity bs with
      | none => .unreadable
      | some r =>
        if r.generation ≠ generation then .otherGeneration else if r.index = k then .record r else .unreadable

/-- A mirror entry as the scan enters it, with its slot flags clear (R83, R95). -/
def MirrorSlot.loaded (e : MirrorEntry) : MirrorSlot :=
  { entry := e, inFlight := false, amend := false, firstDone := true, held := false, keptBytes := none }

/-- The greatest end of an extent (R98). -/
def extentsEnd (l : List Extent) : Nat := (l.map fun e => e.first + e.count).foldl max 0

def MirrorEntry.extentsEnd : MirrorEntry → Nat
  | .record r => Machine.extentsEnd r.extents
  | .unreadable => 0

/-- The allocation cursor that the journal hands over (R98). -/
def mountCursor (mirror : List MirrorSlot) : Nat := (mirror.map fun sl => sl.entry.extentsEnd).foldl max audioFirst

/-- A record found OPEN on the card is recovered (R99). -/
def Record.recover (r : Record) : Record :=
  if r.state = .opened then
    Record.flag .recovered { r with state := .interrupted, stop := none, digest := none, recorded := r.durable }
  else r

/-- The take indices whose records the scan found OPEN, ascending. -/
def openIndices (mirror : List MirrorSlot) : List Nat :=
  ((List.range mirror.length).map (· + 1)).filter fun n =>
    match (mirror[n - 1]?).bind fun sl => sl.entry.record? with
    | none => false
    | some r => r.state == .opened

/-- The mirror, the next take index and the cursor are set from the scan (R97, R98, R99). -/
def State.recoverMirror (s : State) : State :=
  { s with
    journal :=
      { mirror := s.journal.mirror.map fun sl => { sl with entry := sl.entry.mapRecord Record.recover }
        nextIndex := s.journal.mirror.length + 1 }
    media := { s.media with cursor := some (mountCursor s.journal.mirror) } }

/-- The mount ends (R107 step 5, R99): READY with the amendments of the recovered records, or PROTECTED with UNSAVED on
them. -/
def State.endMount (s : State) : State :=
  let recovered := openIndices s.journal.mirror
  let s1 := s.recoverMirror.setMount .none
  if s.media.protectMark then recovered.foldl (fun s n => s.flagRecord n .unsaved) (s1.setMedia .writeProtected)
  else recovered.foldl (fun s n => s.askWrite n) (s1.setMedia .ready).refreshStation

/-- An entry is added to the mirror by the scan. -/
def State.enterSlot (e : MirrorEntry) (s : State) : State :=
  { s with journal := { s.journal with mirror := s.journal.mirror ++ [MirrorSlot.loaded e] } }

/-- Slot `k` has been examined and the scan goes on (R95, R96): to the next slot, to the next batch, or to its end after the
last slot of the journal. -/
def State.scanOn (k last run : Nat) (results : List (Nat × Option (List Byte))) (s : State) : State :=
  if journalSlots ≤ k then s.endMount
  else if last ≤ k then (s.setMount (.scan (k + 1) (last + scanBatch) run [])).askSlots (k + 1) scanBatch
  else s.setMount (.scan (k + 1) last run results)

/-- Slot `k` is examined (R95, R96). -/
def State.examineSlot (k last run : Nat) (results : List (Nat × Option (List Byte))) (content : Option (List Byte))
    (s : State) : State :=
  match classifySlot (s.media.capacity.getD 0) (s.media.generation.getD 0) k content with
  | .blank => s.endMount
  | .otherGeneration => s.endMount
  | .record r => (s.enterSlot (.record r)).scanOn k last 0 results
  | .unreadable =>
    if unreadableRun ≤ run + 1 then
      ({ s with journal := { s.journal with mirror := s.journal.mirror.take (s.journal.mirror.length - run) } } :
        State).endMount
    else (s.enterSlot .unreadable).scanOn k last (run + 1) results

/-- Slots are examined strictly in ascending order, as far as their reads have completed (R95). -/
def State.examine : Nat → State → State
  | 0, s => s
  | fuel + 1, s =>
    match s.media.mount with
    | .scan next last run results =>
      match results.find? fun x => x.1 == next with
      | none => s
      | some x => State.examine fuel (s.examineSlot next last run (results.filter fun y => y.1 != next) x.2)
    | .none => s
    | .sizing => s
    | .header => s

/-- A slot read has ended (R95). A read of a slot beyond the stop is discarded, and is not asked again (R96). -/
def State.slotReadEnded (content : Option (List Byte)) (op : Op) (s : State) : State :=
  match op.kind, s.media.mount with
  | .slotRead k, .scan next last run results =>
    if content = none ∧ op.attempt < maxAttempts then s.retry op
    else State.announce s
      ((s.setMount (.scan next last run (results ++ [(k, content)]))).examine (results.length + 1))
  | _, _ => s

def OpKind.isSlotRead : OpKind → Bool
  | .slotRead _ => true
  | _ => false

/-- SLOT_READ_COMPLETE (R95). -/
def execSlotReadComplete (op : Nat) (block : Option (List Byte)) (s : State) : Host.Outcome State Fault Refusal :=
  .next (s.complete op OpKind.isSlotRead (State.slotReadEnded block))

end Sys2Proof.Machine
end

