-- ==== Sys2Proof/Config.lean ====
section
/-! DEFINITION. What the manual leaves open, as constants with no body: nothing can be proved of their values. -/

namespace Sys2Proof

/-- FREE VALUE (notes/assumptions/2). R5 gives the intake position 48 bits and advances it to p + 1; it does not say what
follows 2^48 − 1. The argument is the count of free values drawn so far, so that no two draws need agree. -/
opaque Config.positionPastTop : Nat → BitVec 48

end Sys2Proof
end

