-- ==== Sys2Proof/Machine/Clock.lean ====
section
/-! DEFINITION. The commands of reset and of the word clock: RESET, FRAME_STORE, CLOCK_LOSS, QUALIFYING_PERIOD, CLOCK_RETURN and
METER_WINDOW_COMPLETE, and the events that fall due at a stored frame: TAIL_END and LENGTH_SPLIT. -/

namespace Sys2Proof.Machine

/-! ### RESET -/

/-- The state after a reset with the levels sampled at reset release (R159). The model's own counters and the commands that
wait are kept. -/
def State.resetWith (straps : Straps) (s : State) : State :=
  { State.reset with
    link := { State.reset.link with
      station := straps.stn.toNat
      role := if straps.role then .localOnly else .follow
      jamen := straps.jamen }
    port := { State.reset.port with nextOp := s.port.nextOp }
    freeDraws := s.freeDraws
    pending := s.pending }

/-- RESET (R159 and the after-reset values of every chapter). -/
def execReset (straps : Straps) (s : State) : Host.Outcome State Fault Refusal := .next (s.resetWith straps)

/-! ### Forming and storing a frame (R1, R5, R10, R11, R14, R15) -/

/-- R1, for a lane that delivered a valid word or did not. -/
def LaneState.step (valid : Bool) : LaneState → LaneState
  | .off => if valid then .active else .off
  | .active => if valid then .active else .lost
  | .lost => if valid then .active else .lost

/-- The stored value of a lane (R1). -/
def storedValue (w : Option Sample) : Sample := w.getD 0

/-- What a lane gives to a bus that it feeds (R10). -/
def contribution (v : Sample) (g : Byte) : Int := (v.toInt * g.toNat + 64) / 128

def Routing.feedsL : Routing → Bool
  | .off => false
  | .l => true
  | .r => false
  | .both => true

def Routing.feedsR : Routing → Bool
  | .off => false
  | .l => false
  | .r => true
  | .both => true

/-- The exact sum of a bus (R10). -/
def busSum (feeds : Routing → Bool) (i : Intake) (words : Vector (Option Sample) 16) : Int :=
  ((List.finRange 16).map fun (t : Fin 16) =>
    if i.armMask.getLsbD t && feeds i.routing[t] then contribution (storedValue words[t]) i.gain[t] else 0).sum

def busMin : Int := -8388608
def busMax : Int := 8388607

/-- R10. -/
def saturate (x : Int) : Sample := BitVec.ofInt 24 (max busMin (min busMax x))

/-- The exact sum lay outside the range (R10). -/
def clips (x : Int) : Bool := decide (x < busMin) || decide (busMax < x)

/-- The frame assembled from one period (R5, R10). -/
def Intake.formFrame (i : Intake) (words : Vector (Option Sample) 16) : RingFrame where
  lanes := Vector.ofFn fun t => storedValue words[t]
  invalid := laneSet fun t => words[t].isNone
  mixL := saturate (busSum Routing.feedsL i words)
  mixR := saturate (busSum Routing.feedsR i words)
  clip := clips (busSum Routing.feedsL i words) || clips (busSum Routing.feedsR i words)

/-- The magnitude that a frame gives to a meter: lanes 0–15, MIX L, MIX R (R11). -/
def RingFrame.level (f : RingFrame) (k : Fin 18) : Nat :=
  if h : k.val < 16 then magnitude f.lanes[k.val] else if k.val = 16 then magnitude f.mixL else magnitude f.mixR

/-- The intake after a frame was stored, but for its position (R1, R11, R14). -/
def Intake.store (i : Intake) (words : Vector (Option Sample) 16) : Intake :=
  let f := i.formFrame words
  { i with
    lanes := Vector.ofFn fun t => (i.lanes[t]).step words[t].isSome
    windowCount := i.windowCount + 1
    windowMax := Vector.ofFn fun k => max i.windowMax[k] (f.level k)
    ring := slotPut (i.position % ringSlots) f i.ring }

/-- The intake position moves on (R5); past the top of its 48 bits it is a free value (notes/assumptions/2). -/
def State.advancePosition (s : State) : State :=
  if s.intake.position + 1 < positionLimit then
    { s with intake := { s.intake with position := s.intake.position + 1 } }
  else
    { s with
      intake := { s.intake with position := (Config.positionPastTop s.freeDraws).toNat }
      freeDraws := s.freeDraws + 1 }

/-- One frame is stored (R5): the takes that still need the overwritten frame are charged, then the frame enters the ring
and the intake position moves on. -/
def State.storeFrame (words : Vector (Option Sample) 16) (s : State) : State :=
  let s := s.chargeAll (s.intake.position + 1 - ringSlots)
  ({ s with intake := s.intake.store words } : State).advancePosition

/-! ### Events that fall due by themselves -/

/-- The qualification count has reached 64 (R3). -/
def State.clockReturnDue (s : State) : Bool := s.intake.clock == .lost && decide (qualifyCount ≤ s.intake.qualification)

/-- The clock returns (R3, R38). -/
def State.returnClock (s : State) : State :=
  State.announce s (({ s with intake := { s.intake with clock := .running } } : State).refreshStation)

def State.clockReturnIfDue (s : State) : State := if s.clockReturnDue then s.returnClock else s

/-- The window holds fs/10 frames (R11). -/
def State.meterDue (s : State) : Bool := decide (s.intake.rate.tenth ≤ s.intake.windowCount)

/-- The meter window is complete (R11). -/
def State.completeWindow (s : State) : State :=
  { s with intake := { s.intake with
      meters := s.intake.windowMax, windowCount := 0, windowMax := Vector.replicate 18 0 } }

def State.meterIfDue (s : State) : State := if s.meterDue then s.completeWindow else s

/-- In TAIL, the intake position has reached the pending stop (R47): the open take and its stop. -/
def State.tailDue (s : State) : Option (Nat × Nat) :=
  match s.engine.takeState, s.engine.openTake, s.engine.pendingStop with
  | .tail, some n, some p => if p ≤ s.intake.position then some (n, p) else none
  | _, _, _ => none

/-- The tail ends (R47, R7). -/
def State.endTail (n stop : Nat) (s : State) : State :=
  (State.announce s ((s.clearOpen.closeTake n stop).enterStandby)).grant

def State.tailIfDue (s : State) : State :=
  match s.tailDue with
  | none => s
  | some x => s.endTail x.1 x.2

/-- The maximum length of a take in frames (R53). -/
def State.maxFrames (s : State) : Nat :=
  match s.media.profile with
  | none => 0
  | some p => p.maxLength * 60 * s.intake.rate.hz

/-- The intake position has reached the open take's start plus the maximum length (R53): the open take and that point. -/
def State.lengthDue (s : State) : Option (Nat × Nat) :=
  match s.engine.openTake with
  | none => none
  | some n =>
    match s.recordAt n with
    | none => none
    | some r =>
      let x := r.start + s.maxFrames
      let bound := match s.engine.takeState, s.engine.pendingStop with
        | .rolling, _ => true
        | .tail, some p => decide (x < p)
        | _, _ => false
      if bound = true ∧ x ≤ s.intake.position then some (n, x) else none

/-- The open take is split at its maximum length, or cut there (R53, R55, R56). -/
def State.splitLength (n x : Nat) (s : State) : State := (State.announce s (s.splitAt n x)).grant

def State.lengthIfDue (s : State) : State :=
  match s.lengthDue with
  | none => s
  | some x => s.splitLength x.1 x.2

/-- The events due at the last stored frame come before the next one (notes/assumptions/5). -/
def State.settleDue (s : State) : State := s.clockReturnIfDue.meterIfDue.tailIfDue.lengthIfDue

/-! ### The commands -/

/-- FRAME_STORE (R5). -/
def execFrameStore (interval : Nat) (words : Vector (Option Sample) 16) (s : State) : Host.Outcome State Fault Refusal :=
  let t := s.settleDue
  .next (if t.intake.clock = .running ∧ periodValid t.intake.rate interval = true then (t.storeFrame words).grant else s)

/-- What a clock loss does to the intake (R2, R11). -/
def Intake.loseClock (i : Intake) : Intake :=
  { i with
    clock := .lost, qualification := 0, lanes := Vector.replicate 16 .off
    meters := Vector.replicate 18 0, windowCount := 0, windowMax := Vector.replicate 18 0 }

/-- An open take is cut at the frozen intake position (R57). -/
def State.cutAtLoss (n : Nat) (s : State) : State :=
  let start := ((s.recordAt n).map (·.start)).getD 0
  ((s.clearOpen.setTake .offline).flagRecord n .clockLost).closeTake n (max start s.intake.position)

/-- The clock is lost (R2, R57, R38). -/
def State.loseClock (s : State) : State :=
  let s1 := { s with intake := s.intake.loseClock }
  (State.announce s (match s.engine.openTake with
    | none => s1.refreshStation
    | some n => s1.cutAtLoss n)).grant

/-- CLOCK_LOSS (R2). -/
def execClockLoss (why : ClockFault) (s : State) : Host.Outcome State Fault Refusal :=
  let t := s.clockReturnIfDue
  .next (if t.intake.clock = .running ∧ faultIsLoss t.intake.rate why = true then t.loseClock else s)

/-- QUALIFYING_PERIOD (R3). -/
def execQualifyingPeriod (interval : Nat) (s : State) : Host.Outcome State Fault Refusal :=
  .next (if s.intake.clock = .lost ∧ s.intake.qualification < qualifyCount then
      { s with intake := { s.intake with
          qualification := if periodValid s.intake.rate interval then s.intake.qualification + 1 else 0 } }
    else s)

/-- CLOCK_RETURN (R3). -/
def execClockReturn (s : State) : Host.Outcome State Fault Refusal := .next s.clockReturnIfDue

/-- METER_WINDOW_COMPLETE (R11). -/
def execMeterWindowComplete (s : State) : Host.Outcome State Fault Refusal := .next s.meterIfDue

/-- TAIL_END (R47). -/
def execTailEnd (s : State) : Host.Outcome State Fault Refusal := .next s.tailIfDue

/-- LENGTH_SPLIT (R53). -/
def execLengthSplit (s : State) : Host.Outcome State Fault Refusal := .next s.lengthIfDue

end Sys2Proof.Machine
end

