-- ==== Sys2Proof/Machine/VerifyOps.lean ====
section
/-! DEFINITION. The verify unit: the read order, the window, the read-side digest, the end of a verify, and the long operations'
own steps. -/

namespace Sys2Proof.Machine

/-! ### The read order (R149) -/

/-- The block at a position of the read order: extent by extent, each from its first block upward (R149). -/
def orderBlock : List Extent → Nat → Option Nat
  | [], _ => none
  | e :: es, k => if k < e.count then some (e.first + k) else orderBlock es (k - e.count)

/-- The blocks of an extent list. -/
def totalBlocks (l : List Extent) : Nat := (l.map (·.count)).sum

/-- The stream length of a record, and its block count T (R149). -/
def Record.streamLength (r : Record) : Nat := r.recorded * r.frameBytes
def Record.blockCount (r : Record) : Nat := ceilDiv r.streamLength blockBytes

/-- The data bytes of a position (R149). -/
def Verify.dataBytes (v : Verify) (k : Nat) : Nat :=
  if k + 1 = v.blockCount then v.length - blockBytes * k else blockBytes

/-! ### The window (R150) -/

def State.setVerify (v : Verify) (s : State) : State := { s with verify := v }

/-- The first read of a position is asked, and the position joins the window (R150). -/
def State.askRead (k : Nat) (s : State) : State :=
  let s' := s.askNew (.verifyRead k ((orderBlock s.verify.extents k).getD 0))
  s'.setVerify { s.verify with window := s.verify.window ++ [.waiting s.port.nextOp 1] }

/-- Reads are asked for the positions that have come into the window (R150). -/
def State.fillWindow : Nat → State → State
  | 0, s => s
  | fuel + 1, s =>
    let k := s.verify.cursor + s.verify.window.length
    if s.verify.window.length < windowSize ∧ k < s.verify.positions then State.fillWindow fuel (s.askRead k) else s

/-- The position at the cursor is taken with its bytes (R152). -/
def Verify.takeBytes (bytes : List Byte) (rest : List WindowEntry) (v : Verify) : Verify :=
  { v with
    cursor := v.cursor + 1
    window := rest
    digest := some (crc32Feed (v.digest.getD crc32Init) bytes) }

/-- Every held or given-up position from the cursor on is taken, in order (R152). -/
def Verify.takePositions : Nat → Verify → Verify
  | 0, v => v
  | fuel + 1, v =>
    match v.window with
    | .held _ b :: rest => Verify.takePositions fuel (v.takeBytes (b.take (v.dataBytes v.cursor)) rest)
    | .givenUp _ :: rest => Verify.takePositions fuel (v.takeBytes (List.replicate (v.dataBytes v.cursor) 0) rest)
    | _ => v

/-! ### The outcome (R153, R154) -/

/-- The computed digest (R152). -/
def Verify.computed (v : Verify) : Word32 := crc32Finish (v.digest.getD crc32Init)

/-- The outcome by the tests of R153: the record state and the detail. -/
def Verify.outcome (v : Verify) (recorded : Option Word32) : RecordState × Detail :=
  if 0 < v.badBlocks then (.damaged, .readErrors)
  else if v.shortfall then (.damaged, .digestMismatch)
  else if recorded = some v.computed then (.verified, .none)
  else (.damaged, .digestMismatch)

/-- The payload of the final REPORT (R153, R192). -/
def Verify.finalPayload (v : Verify) (n : Nat) (st : RecordState) : List Byte :=
  le 2 n ++ [st.code] ++ le 4 v.badBlocks ++ le 4 v.readOk ++ le 4 v.computed.toNat

/-- The verify of take `n` ends with its outcome (R153, R154). -/
def State.endVerify (who : Requester) (n : Nat) (s : State) : State :=
  let out := s.verify.outcome ((s.recordAt n).bind (·.digest))
  let s1 := s.setVerify s.verify.released
  ((s1.modifyRecord n fun r => { r with state := out.1 }).changeRecord n).finalReport who .verifyTake .done out.2
    (s.verify.finalPayload n out.1)

/-- The cursor moves on as far as it can, and the verify goes on or ends (R152, R153). -/
def State.advanceVerify (who : Requester) (n : Nat) (s : State) : State :=
  let s1 := s.setVerify (s.verify.takePositions windowSize)
  if s1.verify.positions ≤ s1.verify.cursor then s1.endVerify who n else s1.fillWindow windowSize

/-! ### Starting and stopping (R149, R156) -/

/-- What an accepted VERIFY TAKE fixes and sets (R149). -/
def Verify.started (who : Requester) (n : Nat) (r : Record) : Verify where
  slot := .verifying who n
  cursor := 0
  blockCount := r.blockCount
  positions := min r.blockCount (totalBlocks r.extents)
  length := r.streamLength
  extents := r.extents
  badBlocks := 0
  readOk := 0
  shortfall := decide (totalBlocks r.extents < r.blockCount)
  window := []
  digest := some crc32Init

def OpKind.isVerifyRead : OpKind → Bool
  | .verifyRead _ _ => true
  | _ => false

/-- A running verify is aborted (R156, R192). -/
def State.abortVerify (who : Requester) (n : Nat) (s : State) : State :=
  ((s.withdraw fun op => op.kind.isVerifyRead).setVerify s.verify.released).finalReport who .verifyTake .aborted .none
    (le 2 n ++ le 4 s.verify.badBlocks ++ le 4 s.verify.readOk)

/-! ### Reads (R151) -/

/-- The read of this operation is outstanding in the window. -/
def WindowEntry.reads (id : Nat) : WindowEntry → Bool
  | .outstanding op _ => op == id
  | _ => false

/-- The window with the entry of an operation replaced. -/
def Verify.setEntry (id : Nat) (x : WindowEntry) (v : Verify) : Verify :=
  { v with window := v.window.map fun e => if e.reads id then x else e }

/-- A read of the running verify has ended (R151). -/
def State.windowReadEnded (who : Requester) (n : Nat) (block : Option (List Byte)) (op : Op) (s : State) : State :=
  match block with
  | some b => (s.setVerify { s.verify.setEntry op.id (.held op.attempt b) with readOk := s.verify.readOk + 1 }).advanceVerify who n
  | none =>
    if op.attempt < maxAttempts then
      (s.retry op).setVerify (s.verify.setEntry op.id (.waiting s.port.nextOp (op.attempt + 1)))
    else
      (s.setVerify { s.verify.setEntry op.id (.givenUp op.attempt) with badBlocks := s.verify.badBlocks + 1 }).advanceVerify who n

/-- A verify read has ended (R151). A read that is not in the window belongs to a verify that ended, and is ignored (R156). -/
def State.verifyReadEnded (block : Option (List Byte)) (op : Op) (s : State) : State :=
  match s.verify.slot with
  | .verifying who n => if s.verify.window.any (·.reads op.id) then s.windowReadEnded who n block op else s
  | .idle => s
  | .preparing _ _ => s
  | .releasing _ => s

/-- VERIFY_READ_COMPLETE (R151). -/
def execVerifyReadComplete (op : Nat) (block : Option (List Byte)) (s : State) : Host.Outcome State Fault Refusal :=
  .next (s.complete op OpKind.isVerifyRead (State.verifyReadEnded block))

/-! ### Preparing and releasing (R118, R119) -/

/-- A journal write, a header rewrite or a write of PREPARE MEDIA is outstanding or waiting (R118, R119). -/
def State.writesPending (s : State) : Bool := (s.port.outstanding ++ s.port.waiting).any fun op => op.kind.priority == 1

/-- The header that a PREPARE MEDIA writes (R118). -/
def PreparePlan.header (p : PreparePlan) : Header :=
  { generation := p.generation, profile := p.profile, overflowed := false, defects := p.defects }

/-- The slot holds a started PREPARE MEDIA in a phase. -/
def State.preparingIn (s : State) (phase : PreparePhase) : Option (Requester × PreparePlan) :=
  match s.verify.slot with
  | .preparing who plan => if plan.phase = phase then some (who, plan) else none
  | .idle => none
  | .verifying _ _ => none
  | .releasing _ => none

/-- The plan moves to a phase. -/
def State.setPhase (who : Requester) (plan : PreparePlan) (phase : PreparePhase) (s : State) : State :=
  s.setVerify { s.verify with slot := .preparing who { plan with phase := phase } }

/-- PREPARE_HEADER_WRITE_ASK (R118 steps 1 and 2). -/
def execPrepareHeaderWriteAsk (s : State) : Host.Outcome State Fault Refusal :=
  .next (match s.preparingIn .waiting with
    | none => s
    | some x =>
      if s.writesPending then s
      else ((s.setPhase x.1 x.2 .header).ask .prepareHeader 1 (some (headerBlock x.2.header)) false).grant)

/-- A write of PREPARE MEDIA failed (R118). -/
def State.prepareFailed (op : Op) (s : State) : State := if op.attempt < maxAttempts then s.retry op else s.faultMedia

/-- The header write of PREPARE MEDIA has ended (R118 step 3). -/
def State.prepareHeaderEnded (ok : Bool) (op : Op) (s : State) : State :=
  match s.preparingIn .header with
  | none => s
  | some x =>
    if ok then (s.setPhase x.1 x.2 .zero).ask .prepareZero 1 (some (List.replicate blockBytes 0)) false
    else s.prepareFailed op

def OpKind.isPrepareHeader : OpKind → Bool
  | .prepareHeader => true
  | _ => false

/-- PREPARE_HEADER_WRITE_COMPLETE (R118). -/
def execPrepareHeaderWriteComplete (op : Nat) (ok : Bool) (s : State) : Host.Outcome State Fault Refusal :=
  .next (s.complete op OpKind.isPrepareHeader (State.prepareHeaderEnded ok))

/-- PREPARE MEDIA completes, before its STATE frame and its final REPORT (R118). -/
def State.prepared (plan : PreparePlan) (s : State) : State :=
  ((({ s with
      journal := { mirror := [], nextIndex := 1 }
      media := { s.media with
        state := .ready, generation := some plan.generation, defects := plan.defects, overflowed := false
        headerInFlight := false, headerPending := false, cursor := some audioFirst } } : State).loadProfile
      plan.profile).idleSlot).refreshStation

/-- PREPARE MEDIA completes (R118, R192). -/
def State.completePrepare (who : Requester) (plan : PreparePlan) (s : State) : State :=
  (State.announce s (s.prepared plan)).finalReport who .prepareMedia .done .none
    (le 2 plan.generation ++ le 2 plan.defects.length ++ [MediaState.ready.code])

/-- The zeroing of slot 1 has ended (R118 step 4). -/
def State.prepareZeroEnded (ok : Bool) (op : Op) (s : State) : State :=
  match s.preparingIn .zero with
  | none => s
  | some x => if ok then s.completePrepare x.1 x.2 else s.prepareFailed op

def OpKind.isPrepareZero : OpKind → Bool
  | .prepareZero => true
  | _ => false

/-- PREPARE_ZERO_WRITE_COMPLETE (R118). -/
def execPrepareZeroWriteComplete (op : Nat) (ok : Bool) (s : State) : Host.Outcome State Fault Refusal :=
  .next (s.complete op OpKind.isPrepareZero (State.prepareZeroEnded ok))

/-- RELEASE MEDIA completes (R119, R147, R192). -/
def State.completeRelease (who : Requester) (s : State) : State :=
  (State.announce s (s.setMedia .released).idleSlot.refreshStation).finalReport who .releaseMedia .done .none
    [MediaState.released.code]

/-- RELEASE_COMPLETE (R119): once no journal write and no header rewrite is outstanding or waiting. -/
def State.releaseIfDrained (s : State) : State :=
  match s.verify.slot with
  | .releasing who => if s.writesPending then s else s.completeRelease who
  | .idle => s
  | .verifying _ _ => s
  | .preparing _ _ => s

/-- RELEASE_COMPLETE (R119). -/
def execReleaseComplete (s : State) : Host.Outcome State Fault Refusal := .next s.releaseIfDrained

end Sys2Proof.Machine
end

