-- ==== Sys2Proof/Machine/Completions.lean ====
section
/-! DEFINITION. The draw of a frame, the completions of journal, header and segment writes, the deferred provisional write, and
the timeout of any operation. -/

namespace Sys2Proof.Machine

/-- FRAME_DRAW (R125): one draw, when its conditions hold (R124). -/
def execFrameDraw (s : State) : Host.Outcome State Fault Refusal := .next ((State.announce s s.drawFrame).grant)

/-! ### Journal writes (R86, R87, R90, R92) -/

/-- The final write has completed (R90): the record is CLOSED and holds its digest (R134), and its take leaves the writer
queue. A record that has become INTERRUPTED stays so (R92). -/
def State.closeFinal (n : Nat) (s : State) : State :=
  match s.recordAt n with
  | none => s
  | some r =>
    if r.state = .closing then
      (s.modifyRecord n fun r => { r with state := .closed, digest := some (heldDigest (s.entryOf n)) }).dropEntry n
    else s

/-- The amendment-pending flag of slot `n`. -/
def State.amendAt (s : State) (n : Nat) : Bool := ((s.slotAt n).map (·.amend)).getD false

/-- The write of slot `n` is over: its flags are cleared. -/
def State.endWrite (n : Nat) (s : State) : State := s.modifySlot n fun sl => { sl with inFlight := false, amend := false }

/-- A journal write has completed successfully (R86, R87, R90). -/
def State.journalDone (n : Nat) (op : Op) (s : State) : State :=
  let pending := s.amendAt n
  let s1 := (s.endWrite n).modifySlot n fun sl => { sl with firstDone := true }
  let s2 := if op.isFinal then s1.closeFinal n else s1
  if pending then (if s2.canWriteJournal then s2.askWrite n else s2.flagRecord n .unsaved) else s2

/-- A journal write is given up, after its fourth failure or after a fault (R86, R92); a change it can no longer carry sets
UNSAVED (notes/assumptions/11). -/
def State.dropWrite (n : Nat) (s : State) : State :=
  if s.amendAt n then (s.endWrite n).flagRecord n .unsaved else s.endWrite n

/-- On a card that is FAULTED already, the fourth failure of a write that a RELEASE MEDIA waits for ends it ABORTED, and no
failure is retried (R92, R114, R119). -/
def State.failAfterFault (op : Op) (s : State) : State := if op.attempt < maxAttempts then s else s.abortRelease

/-- A journal write has failed (R86, R92, R119). -/
def State.journalFailed (n : Nat) (op : Op) (s : State) : State :=
  if s.media.state = .faulted then (s.dropWrite n).failAfterFault op
  else if op.attempt < maxAttempts then s.retry op
  else (s.dropWrite n).faultMedia

/-- A journal write has ended. -/
def State.journalEnded (ok : Bool) (op : Op) (s : State) : State :=
  match op.kind with
  | .journalWrite n => if ok then s.journalDone n op else s.journalFailed n op
  | _ => s

def OpKind.isJournalWrite : OpKind → Bool
  | .journalWrite _ => true
  | _ => false

/-- JOURNAL_WRITE_COMPLETE (R86). -/
def execJournalWriteComplete (op : Nat) (ok : Bool) (s : State) : Host.Outcome State Fault Refusal :=
  .next (s.complete op OpKind.isJournalWrite (State.journalEnded ok))

/-- The lowest slot whose provisional write is held back although the slot below has had its first write (R88). -/
def State.deferredSlot (s : State) : Option Nat :=
  ((List.range s.journal.mirror.length).map (· + 1)).find? fun n =>
    match s.slotAt n with
    | none => false
    | some sl => sl.held && !s.provisionalHeld n

/-- DEFERRED_PROVISIONAL_WRITE (R88). -/
def execDeferredProvisionalWrite (s : State) : Host.Outcome State Fault Refusal :=
  .next (match s.deferredSlot with
    | none => s
    | some n =>
      let s1 := s.modifySlot n fun sl => { sl with held := false }
      (if s1.canWriteJournal then s1.askWrite n else s1.flagRecord n .unsaved).grant)

/-! ### Header rewrites (R111) -/

/-- The header write flags are cleared. -/
def State.endHeaderWrite (s : State) : State :=
  { s with media := { s.media with headerInFlight := false, headerPending := false } }

/-- A header rewrite has ended (R111, R114, R119). One that is given up clears the pending flag with the write-in-flight flag: the
rules name the pending flag only for a rewrite that waits at a fault (notes/assumptions/17). -/
def State.headerWriteEnded (ok : Bool) (op : Op) (s : State) : State :=
  if ok then (if s.media.headerPending then s.endHeaderWrite.askHeaderRewrite else s.endHeaderWrite)
  else if s.media.state = .faulted then s.endHeaderWrite.failAfterFault op
  else if op.attempt < maxAttempts then s.retry op
  else s.endHeaderWrite.faultMedia

def OpKind.isHeaderWrite : OpKind → Bool
  | .headerWrite => true
  | _ => false

/-- HEADER_WRITE_COMPLETE (R111). -/
def execHeaderWriteComplete (op : Nat) (ok : Bool) (s : State) : Host.Outcome State Fault Refusal :=
  .next (s.complete op OpKind.isHeaderWrite (State.headerWriteEnded ok))

/-! ### Segment writes (R135, R137) -/

/-- A segment write has ended: it succeeded, or a block failed. -/
def State.segmentEnded (failed : Option Nat) (op : Op) (s : State) : State :=
  match op.kind, failed with
  | .segmentWrite b i, none => s.segmentDone b i
  | .segmentWrite b i, some bad => s.segmentFailed b i bad
  | _, _ => s

def OpKind.isSegmentWrite : OpKind → Bool
  | .segmentWrite _ _ => true
  | _ => false

/-- The outcome fits the operation: a failure names one of the write's blocks (R121). -/
def State.failureFits (s : State) (op : Nat) (failed : Option Nat) : Bool :=
  match s.outstandingOp op OpKind.isSegmentWrite, failed with
  | some o, some bad =>
    match o.kind with
    | .segmentWrite b i => s.blockInWrite b i bad
    | _ => false
  | some _, none => true
  | none, _ => false

/-- SEGMENT_WRITE_COMPLETE (R135, R137). -/
def execSegmentWriteComplete (op : Nat) (failed : Option Nat) (s : State) : Host.Outcome State Fault Refusal :=
  .next (if s.failureFits op failed then s.complete op OpKind.isSegmentWrite (State.segmentEnded failed) else s)

/-! ### The timeout (R121) -/

/-- An operation has ended by its timeout: a failure of its kind, and for a segment write a failure at its first block. -/
def State.timedOut (op : Op) (s : State) : State :=
  match op.kind with
  | .sizeRead => s.sizeEnded none op
  | .headerRead => s.headerReadEnded none op
  | .slotRead _ => s.slotReadEnded none op
  | .verifyRead _ _ => s.verifyReadEnded none op
  | .journalWrite _ => s.journalEnded false op
  | .headerWrite => s.headerWriteEnded false op
  | .prepareHeader => s.prepareHeaderEnded false op
  | .prepareZero => s.prepareZeroEnded false op
  | .segmentWrite b i => s.segmentFailed b i (s.firstBlockOf b i)

/-- OPERATION_TIMEOUT (R121). -/
def execOperationTimeout (op : Nat) (s : State) : Host.Outcome State Fault Refusal :=
  .next (s.complete op (fun _ => true) State.timedOut)

/-! ### What an operation carries to the port (R120, R121) -/

/-- The blocks of the card that an operation reads or writes; none for the size read. -/
def State.opBlocks (s : State) (op : Op) : Option Extent :=
  match op.kind with
  | .sizeRead => none
  | .headerRead => some { first := 0, count := 1 }
  | .headerWrite => some { first := 0, count := 1 }
  | .prepareHeader => some { first := 0, count := 1 }
  | .prepareZero => some { first := 1, count := 1 }
  | .slotRead k => some { first := k, count := 1 }
  | .journalWrite n => some { first := n, count := 1 }
  | .verifyRead _ b => some { first := b, count := 1 }
  | .segmentWrite b i =>
    match s.buffer b with
    | .free => none
    | .used _ seg => (seg.writes[i]?).map fun p => { first := p.first, count := p.count }

/-- The bytes that an outstanding write carries (R85, R111, R118, R133, R139); none for a read. -/
def State.opBytes (s : State) (op : Op) : Option (List Byte) :=
  match op.kind with
  | .segmentWrite b i =>
    match s.buffer b with
    | .free => none
    | .used _ seg => (seg.writes[i]?).map seg.writeBytes
  | _ => op.block

end Sys2Proof.Machine
end

