-- ==== Sys2Proof/Machine/LinkFrames.lean ====
section
/-! DEFINITION. The cart link's own commands: the receive filter's discards, the first STATE frame, and the attempts of the frame
at the head of the transmit queue. -/

namespace Sys2Proof.Machine

/-- RECEIVE_FILTER_DISCARD (R163): a frame that fails a check has no effect, sets no flag and gets no answer. -/
def execReceiveFilterDiscard (_ : Wire) (s : State) : Host.Outcome State Fault Refusal := .next s

/-- INITIAL_STATE (R172): the first idle medium after reset release, once. -/
def execInitialState (s : State) : Host.Outcome State Fault Refusal :=
  .next (if s.link.initialDue then ({ s with link := { s.link with initialDue := false } } : State).queueState else s)

/-! ### Attempts (R166–R168) -/

/-- An attempt of the head begins (R166): the station sends the frame's bits. -/
def Link.beginAttempt (f : TxFrame) (rest : List TxFrame) (l : Link) : Link :=
  { l with
    queue := { f with attempts := f.attempts + 1, phase := .attempting } :: rest
    driving := some (f.body.wireBits l.station) }

/-- The frame is a STATE that carries this refusal notice (R42). -/
def TxBody.carries (notice : Option RefusalReason) : TxBody → Bool
  | .state c => c.reason.isSome && c.reason == notice
  | .roll _ _ _ => false
  | .cut _ _ _ => false
  | .mark _ _ _ _ => false
  | .report _ => false

/-- The refusal notice is cleared at the first attempt of a STATE frame that carries it (R42, R166). -/
def State.clearNotice (f : TxFrame) (s : State) : State :=
  if f.waiting ∧ f.body.carries s.engine.refusal = true then { s with engine := { s.engine with refusal := none } } else s

/-- TRANSMIT_ATTEMPT_START (R166). -/
def execTransmitAttemptStart (s : State) : Host.Outcome State Fault Refusal :=
  .next (match s.link.queue with
    | [] => s
    | f :: rest =>
      if f.phase = .idle then ({ s with link := s.link.beginAttempt f rest } : State).clearNotice f else s)

/-- The head leaves the queue (R169), LINK TROUBLE takes a value (R166, R168), and an owed STATE is queued (R170). That the flag takes
its value before the owed STATE is composed, which therefore carries the new value, is a DESIGN CHOICE (notes/assumptions/29). -/
def State.headLeaves (trouble : Bool) (rest : List TxFrame) (s : State) : State :=
  ({ s with link := { s.link with queue := rest, linkTrouble := trouble, driving := none } } : State).payOwed

/-- Bits read back end at the first that read back as 0 where 1 was sent, every one before it having read back as sent
(R161, R166). -/
def collides : List Bool → List Bool → Bool
  | sent :: moreSent, read :: moreRead =>
    if sent = read then collides moreSent moreRead else sent && !read && moreRead.isEmpty
  | _, _ => false

/-- The command that the bits read back in an attempt give (R161, R166): TRANSMIT_COMPLETE when every bit read back as sent, COLLISION
at the first that read back as 0 where 1 was sent, and none before the attempt is over. -/
def Link.attemptEnd (l : Link) (readBack : List Bool) : Option Instr :=
  match l.driving with
  | none => none
  | some sent =>
    if readBack = sent then some .transmitComplete
    else if collides sent readBack then some .collision
    else none

/-- TRANSMIT_COMPLETE (R166). -/
def execTransmitComplete (s : State) : Host.Outcome State Fault Refusal :=
  .next (match s.link.queue with
    | [] => s
    | f :: rest => if f.phase = .attempting then s.headLeaves false rest else s)

/-- The idle slots of the back-off after collided attempt `a` at station `station` (R167). -/
def backoffSlots (a station : Nat) : Nat := a * 32 + station

/-- The head goes into back-off (R167). -/
def Link.backOff (f : TxFrame) (rest : List TxFrame) (l : Link) : Link :=
  { l with queue := { f with phase := .backoff (backoffSlots f.attempts l.station) } :: rest, driving := none }

/-- COLLISION (R167, R168). -/
def execCollision (s : State) : Host.Outcome State Fault Refusal :=
  .next (match s.link.queue with
    | [] => s
    | f :: rest =>
      if f.phase = .attempting then
        (if f.attempts < maxSendAttempts then { s with link := s.link.backOff f rest } else s.headLeaves true rest)
      else s)

/-- The frame is in back-off. -/
def TxFrame.inBackoff (f : TxFrame) : Bool :=
  match f.phase with
  | .backoff _ => true
  | .idle => false
  | .attempting => false

/-- BACKOFF_COMPLETE (R167). -/
def execBackoffComplete (s : State) : Host.Outcome State Fault Refusal :=
  .next (match s.link.queue with
    | [] => s
    | f :: rest => if f.inBackoff then { s with link := { s.link with queue := { f with phase := .idle } :: rest } } else s)

end Sys2Proof.Machine
end

