-- ==== Sys2Proof/Machine/Replies.lean ====
section
/-! DEFINITION. The replies of REPORTs: every field in the order its rule lists it, each encoded by 11.1. A take index that is
absent is written as 0; every other optional field carries a presence byte (notes/assumptions/12). -/

namespace Sys2Proof.Machine

/-- A take index, 0 where absent (11.1). -/
def indexBytes (n : Option Nat) : List Byte := le 2 (n.getD 0)

/-- A set of lanes. -/
def laneSetBytes (m : Word16) : List Byte := le 2 m.toNat

/-- The next-arm mask or its absence. -/
def nextArmBytes (m : Option Word16) : List Byte := optionalBytes 2 (m.map laneSetBytes)

/-- The take index of a running verify. -/
def LongOp.index : LongOp → Option Nat
  | .idle => none
  | .verifying _ n => some n
  | .preparing _ _ => none
  | .releasing _ => none

/-- The payload of a BUSY REPORT (R175). -/
def State.busyReply (s : State) : List Byte :=
  [s.verify.slot.code] ++ indexBytes s.verify.slot.index ++ [s.engine.takeState.code] ++ le 1 s.writer.queue.length

/-! ### QUERY STATUS (R179) -/

/-- The next-needed frames of the queued takes that still need frames. -/
def State.neededFrames (s : State) : List Nat := (s.writer.queue.filter s.needsFrames).map (·.next)

/-- The ring depth in use (R19). -/
def State.ringDepth (s : State) : Nat :=
  match s.neededFrames with
  | [] => 0
  | w :: ws => s.intake.position - ws.foldl min w

def State.stationGroup (s : State) : List Byte :=
  le 1 s.link.station ++ [s.link.role.code, boolByte s.link.listenOnly] ++ le 1 s.link.queue.length

def State.statesGroup (s : State) : List Byte :=
  [s.engine.takeState.code, s.media.state.code, s.intake.clock.code, s.verify.slot.code]

def State.timeGroup (s : State) : List Byte :=
  le 6 s.intake.position ++ labelBytes (s.labelAt s.intake.position) ++ [s.timecode.rate.byte]
    ++ le 6 s.timecode.anchorPosition ++ le 4 s.timecode.anchorIndex ++ le 4 s.intake.rate.hz
    ++ [boolByte s.timecode.jammed]

def State.lanesGroup (s : State) : List Byte :=
  (s.intake.lanes.toList.map LaneState.code) ++ laneSetBytes s.intake.armMask ++ nextArmBytes s.intake.nextArm

def State.captureGroup (s : State) : List Byte :=
  le 4 s.ringDepth ++ indexBytes s.engine.openTake ++ optionalBytes 3 (s.openKey.map keyBytes)
    ++ le 1 s.writer.queue.length

def State.mediaGroup (s : State) : List Byte :=
  le 4 s.freeBlocks ++ optionalBytes 2 (s.media.generation.map (le 2)) ++ optionalBytes 15 (s.media.profile.map profileBytes)

/-- The running verify, each field absent unless the slot is VERIFYING (R158). -/
def State.verifyGroup (s : State) : List Byte :=
  let shown (x : Nat) : List Byte := optionalBytes 4 (s.verify.slot.index.map fun _ => le 4 x)
  indexBytes s.verify.slot.index ++ shown s.verify.cursor ++ shown s.verify.blockCount ++ shown s.verify.badBlocks

/-- The reply of QUERY STATUS (R179). -/
def State.statusReply (s : State) : List Byte :=
  s.stationGroup ++ s.statesGroup ++ s.timeGroup ++ s.lanesGroup ++ s.captureGroup ++ le 2 s.journal.nextIndex
    ++ s.mediaGroup ++ s.verifyGroup ++ [s.statusFlags]

/-- The reply of QUERY METERS (R180). -/
def State.metersReply (s : State) : List Byte :=
  s.intake.meters.toList.flatMap (le 3) ++ [s.intake.clock.code] ++ le 4 s.intake.rate.hz

/-! ### QUERY TAKE (R182–R184) -/

/-- The take index and the record state that head every section (R181). -/
def Record.headBytes (r : Record) : List Byte := le 2 r.index ++ [r.state.code]

/-- The holder map: a station set, then the roll number of each holder in ascending station order (11.3). -/
def holderBytes (l : List TakeKey) : List Byte :=
  le 4 (stationSet (l.map (·.origin))).toNat ++ l.flatMap fun k => le 2 k.roll.toNat

/-- Record `r` is the open take's. -/
def State.isOpen (s : State) (r : Record) : Bool := s.engine.openTake == some r.index

/-- Section SUMMARY (R182). -/
def State.summaryReply (r : Record) (s : State) : List Byte :=
  r.headBytes ++ le 2 r.generation ++ keyBytes r.key ++ indexBytes r.continues ++ le 4 r.flags.toNat
    ++ le 6 r.start ++ labelBytes r.startLabel ++ optionalBytes 6 (r.stop.map (le 6))
    ++ le 6 r.recorded ++ le 6 r.lost ++ le 6 r.durable
    ++ laneSetBytes r.armed ++ [boolByte r.mixPresent] ++ le 4 r.rate.hz ++ le 1 r.frameBytes
    ++ optionalBytes 4 (r.digest.map fun d => le 4 d.toNat) ++ r.peaks.flatMap (le 3) ++ le 2 r.clipCount
    ++ listBytes keyBytes r.joined
    ++ optionalBytes 4 (if s.isOpen r then some (holderBytes s.engine.holders) else none)
    ++ optionalBytes 6 (if s.isOpen r then s.engine.pendingStop.map (le 6) else none)

/-- A string in a reply: a length byte, then its bytes (R195). -/
def stringBytes (bs : List Byte) : List Byte := le 1 bs.length ++ bs

/-- The five slate fields, each with its stamp (R183). -/
def Slate.replyBytes (sl : Slate) : List Byte :=
  stringBytes sl.scene ++ stampBytes sl.sceneStamp ++ le 2 sl.number ++ stampBytes sl.numberStamp
    ++ [boolByte sl.circled] ++ stampBytes sl.circledStamp ++ [sl.disposition.code] ++ stampBytes sl.dispositionStamp
    ++ stringBytes sl.text ++ stampBytes sl.textStamp

/-- Section SLATE (R183). -/
def Record.slateReply (r : Record) : List Byte := r.headBytes ++ r.slate.replyBytes ++ le 4 r.flags.toNat

/-- Section MARKERS (R183). -/
def Record.markersReply (r : Record) : List Byte :=
  r.headBytes ++ listBytes markerBytes r.markers ++ [boolByte (hasFlag r.flags .markersDropped)]

/-- Section NOTES (R183). -/
def Record.notesReply (r : Record) : List Byte :=
  r.headBytes ++ listBytes noteBytes r.notes ++ le 6 r.lost ++ [boolByte (hasFlag r.flags .notesDropped)]

/-- Entries of a page of EXTENTS (R184). -/
def extentPage : Nat := 24

/-- The resume entry after a page from entry `k` (R184). -/
def extentResume (k n : Nat) : Nat := if k + extentPage ≤ n then k + extentPage else 0

/-- Section EXTENTS from entry `k` (R184). -/
def State.extentsReply (r : Record) (k : Nat) (s : State) : List Byte :=
  r.headBytes ++ le 1 r.extents.length ++ le 1 (durableExtents r (s.durableBytes r.index)).length
    ++ listBytes extentBytes ((r.extents.drop (k - 1)).take extentPage) ++ le 1 (extentResume k r.extents.length)

/-- The section of a record by its code (11.3). -/
def State.sectionReply (r : Record) (code k : Nat) (s : State) : List Byte :=
  match code with
  | 0 => s.summaryReply r
  | 1 => r.slateReply
  | 2 => r.markersReply
  | 3 => r.notesReply
  | _ => s.extentsReply r k

/-! ### SEARCH JOURNAL (R186, R187) -/

/-- Byte strings by R186: at the first difference the lower byte is the lesser, and a string that runs out is the lesser. -/
def compareStrings : List Nat → List Nat → Ordering
  | [], [] => .eq
  | [], _ :: _ => .lt
  | _ :: _, [] => .gt
  | a :: as, b :: bs => if a < b then .lt else if b < a then .gt else compareStrings as bs

def Label.parts (l : Label) : List Nat := [l.hh, l.mm, l.ss, l.ff]

/-- A record's value against the key (R186). -/
def SearchKey.against (r : Record) : SearchKey → Ordering
  | .scene key => compareStrings (r.slate.scene.map (·.toNat)) (key.map (·.toNat))
  | .number n => compareStrings [r.slate.number] [n]
  | .startLabel l => compareStrings r.startLabel.parts l.parts
  | .circled c => compareStrings [r.slate.circled.toNat] [c.toNat]
  | .state st => if r.state = st then .eq else .lt
  | .origin station => compareStrings [r.key.origin] [station]

/-- The record's value stands in the relation to the key (R186). -/
def Relation.holds (o : Ordering) : Relation → Bool
  | .equal => o == .eq
  | .notEqual => o != .eq
  | .atMost => o != .gt
  | .atLeast => o != .lt

/-- Index `n` holds a record that the search matches; an UNREADABLE entry is passed over (R187). -/
def State.searchMatches (q : Search) (s : State) (n : Nat) : Bool :=
  match s.recordAt n with
  | none => false
  | some r => q.relation.holds (q.key.against r)

/-- The indices found (R187). -/
def State.searchFound (q : Search) (s : State) : List Nat :=
  (((List.range (s.journal.nextIndex - q.start)).map (q.start + ·)).filter (s.searchMatches q)).take q.count

/-- The resume index (R187). -/
def searchResume (q : Search) (nextIndex : Nat) (found : List Nat) : Nat :=
  match found.getLast? with
  | none => 0
  | some n => if found.length = q.count ∧ n < nextIndex - 1 then n + 1 else 0

/-- The reply of SEARCH JOURNAL (R187). -/
def State.searchReply (q : Search) (s : State) : List Byte :=
  listBytes (le 2) (s.searchFound q) ++ le 2 (searchResume q s.journal.nextIndex (s.searchFound q))

/-! ### ARM and MIX (R188) -/

def State.armReply (s : State) : List Byte := laneSetBytes s.intake.armMask ++ nextArmBytes s.intake.nextArm

def State.mixReply (s : State) : List Byte :=
  (List.finRange 16).flatMap fun (t : Fin 16) => [s.intake.routing[t].code, s.intake.gain[t]]

end Sys2Proof.Machine
end

