-- ==== Sys2Proof/Machine/Transport.lean ====
section
/-! DEFINITION. The commands that start and stop takes: received ROLL, CUT and STATE frames, and the edges of the local lines. -/

namespace Sys2Proof.Machine

/-! ### Receiving (R163–R165) -/

/-- A taken frame whose sender is the own number sets STATION CONFLICT (R164). -/
def State.noteConflict (f : Frame) (s : State) : State :=
  if f.sender = s.link.station then { s with link := { s.link with conflict := true } } else s

/-- The frame of kind `k` that the wire carries and this station takes (R163, R164). While the station is sending, the medium
carries its own frame, which it does not take (notes/assumptions/28). -/
def State.takenFrame (s : State) (k : FrameKind) (w : Wire) : Option Frame :=
  match acceptFrame w with
  | none => none
  | some f => if s.link.driving = none ∧ f.kind = k ∧ takenBy s.link.station f = true then some f else none

/-- A frame of kind `k` is filtered and, when it is taken, handed to its owner (R163–R165). -/
def State.onFrame (k : FrameKind) (owner : Frame → State → State) (w : Wire) (s : State) : State :=
  match s.takenFrame k w with
  | none => s
  | some f => owner f (s.noteConflict f)

/-! ### ROLL (R40–R44) -/

/-- Roll number `n` is newer than `m` (Conventions). -/
def newer (n m : Word16) : Bool :=
  let d := (n - m).toNat
  decide (1 ≤ d) && decide (d ≤ 32767)

/-- The last-roll table entry of an origin. -/
def Engine.lastRollOf (e : Engine) (origin : Nat) : Option Word16 :=
  if origin = 0 then none else (e.lastRoll[origin - 1]?).join

/-- The ROLL is fresh (R40). -/
def Engine.fresh (e : Engine) (origin : Nat) (n : Word16) : Bool :=
  match e.lastRollOf origin with
  | none => true
  | some m => newer n m

def Engine.setLastRoll (origin : Nat) (n : Word16) (e : Engine) : Engine :=
  { e with lastRoll := Vector.ofFn fun i => if i.val + 1 = origin then some n else e.lastRoll[i] }

/-- Why a ROLL that would open a take is refused; `none` when it is not (R42). -/
def State.refusalOf (s : State) : Option RefusalReason :=
  if s.engine.takeState = .offline ∨ s.verify.slot.blocksJournal = true then some .notReady
  else if journalSlots < s.journal.nextIndex then some .journalFull
  else if maxQueue ≤ s.writer.queue.length then some .backlog
  else none

/-- A ROLL is refused (R42). -/
def State.refuseRoll (r : RefusalReason) (s : State) : State :=
  ({ s with engine := { s.engine with refusal := some r } } : State).queueState

/-- The holder map with an entry added or replaced, in ascending station order (R44). -/
def addHolder (k : TakeKey) : List TakeKey → List TakeKey
  | [] => [k]
  | h :: rest =>
    if k.origin < h.origin then k :: h :: rest
    else if k.origin = h.origin then k :: rest
    else h :: addHolder k rest

/-- A key joins a take's joined keys (R44). -/
def Record.join (k : TakeKey) (r : Record) : Record :=
  if r.joined.length < maxJoined ∧ k ∉ r.joined then { r with joined := r.joined ++ [k] } else r

/-- A ROLL joins the open take `n` (R44). -/
def State.joinTake (n : Nat) (k : TakeKey) (s : State) : State :=
  let s1 := s.modifyRecord n (·.join k)
  State.announce s { s1 with engine := { s1.engine with
    takeState := .rolling, holders := addHolder k s1.engine.holders, pendingStop := none } }

/-- A ROLL that is acted on (R42, R43, R44): `pt` is its roll point. -/
def State.actRoll (k : TakeKey) (pt : Point) (s : State) : State :=
  match s.engine.openTake with
  | some n => s.joinTake n k
  | none =>
    match s.refusalOf, s.media.profile with
    | some r, _ => s.refuseRoll r
    | none, none => s
    | none, some p => (State.announce s (s.openTake p k pt)).grant

/-- The take engine takes a ROLL frame (R40, R41). -/
def State.takeRoll (f : Frame) (s : State) : State :=
  let n := rollNumber f.payload
  if s.engine.fresh f.sender n then
    let s1 := { s with engine := s.engine.setLastRoll f.sender n }
    if stationInSet s1.engine.followSet f.sender then
      s1.actRoll { origin := f.sender, roll := n }
        (convertStamp s1.timecode s1.intake.rate s1.intake.position (stampAt f.payload 2))
    else s1
  else s

/-! ### Holders leaving (R45, R46, R48) -/

/-- The conversion flags of a cut point are set on the take (R46). -/
def Record.pointFlags (pt : Point) (r : Record) : Record :=
  (r.flagIf pt.rateMismatch .rateMismatch).flagIf pt.clamped .stampClamped

/-- The last holder has left (R46): the stop is found from its cut point, and the station enters TAIL or STANDBY. -/
def State.lastHolderLeft (n : Nat) (pt : Point) (s : State) : State :=
  match s.recordAt n, s.entryOf n, s.media.profile with
  | some r, some e, some p =>
    let found := takeStop s.intake.rate p.postRoll r.start pt.position
    let stop := max found e.next
    let s1 := s.modifyRecord n fun r => (r.pointFlags pt).flagIf (decide (found < e.next)) .stopClamped
    if s.intake.position < stop then
      { s1 with engine := { s1.engine with takeState := .tail, pendingStop := some stop } }
    else (s1.clearOpen.closeTake n stop).enterStandby
  | _, _, _ => s

/-- A holder leaves the open take `n` with a cut point (R45, R46, R48, R51). -/
def State.holderLeaves (n station : Nat) (pt : Point) (s : State) : State :=
  let rest := s.engine.holders.filter fun h => h.origin != station
  let s1 := { s with engine := { s.engine with holders := rest } }
  (State.announce s (if rest.isEmpty then s1.lastHolderLeft n pt else s1)).grant

/-- The station holds the open take with this key (R45). -/
def State.holdsWith (s : State) (k : TakeKey) : Bool := s.engine.holders.contains k

/-- The open take, while the station is ROLLING. -/
def State.rollingTake (s : State) : Option Nat := if s.engine.takeState = .rolling then s.engine.openTake else none

/-- The take engine takes a CUT frame (R45). -/
def State.takeCut (f : Frame) (s : State) : State :=
  match s.rollingTake with
  | none => s
  | some n =>
    if s.holdsWith { origin := f.sender, roll := rollNumber f.payload } then
      s.holderLeaves n f.sender
        (convertStamp s.timecode s.intake.rate s.intake.position (stampAt f.payload 2))
    else s

/-- The take engine takes a STATE frame (R48). -/
def State.takeState_ (f : Frame) (s : State) : State :=
  match s.rollingTake with
  | none => s
  | some n =>
    if reportsDeparture f.payload = true ∧ (s.engine.holders.any fun h => h.origin == f.sender) = true then
      s.holderLeaves n f.sender (Point.exact s.intake.position)
    else s

/-- ROLL (R40). -/
def execRoll (w : Wire) (s : State) : Host.Outcome State Fault Refusal := .next (s.onFrame .roll State.takeRoll w)

/-- CUT (R45). -/
def execCut (w : Wire) (s : State) : Host.Outcome State Fault Refusal := .next (s.onFrame .cut State.takeCut w)

/-- STATE (R48). -/
def execState (w : Wire) (s : State) : Host.Outcome State Fault Refusal := .next (s.onFrame .state State.takeState_ w)

/-! ### The local lines (R49–R51) -/

/-- The most that the intake position moves on while a level is held for 10 ms (R49). -/
def holdFrames : SampleRate → Nat
  | .hz48000 => 480
  | .hz96000 => 960

/-- A level taken now can have shown first at the position `edge` (R49): the edge position is not ahead of the intake position, and
not further behind it than the hold takes. An edge below the fill start was held across a change of the rate, and may lie as far back
as the higher rate goes (notes/assumptions/31). -/
def State.heldFrom (s : State) (edge : Nat) : Bool :=
  decide (edge ≤ s.intake.position)
    && decide (s.intake.position ≤ edge + holdFrames (if edge < s.intake.fillStart then .hz96000 else s.intake.rate))

/-- A rising edge of the ROLL line (R50): the roll number advances, a ROLL frame is queued, and the local ROLL is acted on. -/
def State.riseRoll (edge : Nat) (s : State) : State :=
  let n := s.engine.ownRoll + 1
  let s1 := { s with engine := { s.engine with ownRoll := n, rollLine := some true, rollRiseTaken := true } }
  (s1.queueTransport (.roll n s1.timecode.rate (s1.labelAt edge))).actRoll
    { origin := s1.link.station, roll := n } (Point.exact edge)

/-- ROLL_LINE_RISE (R50): an edge, once the line's first level has been adopted and is low, at a position where the level held can have
shown first (R49). -/
def execRollLineRise (edge : Nat) (s : State) : Host.Outcome State Fault Refusal :=
  .next (if s.engine.rollLine = some false ∧ s.heldFrom edge = true then s.riseRoll edge else s)

/-- This station's own CUT (R51). -/
def State.cutLocally (edge : Nat) (s : State) : State :=
  let s1 := s.queueTransport (.cut s.engine.ownRoll s.timecode.rate (s.labelAt edge))
  match s1.rollingTake with
  | none => s1
  | some n =>
    if s1.holdsWith { origin := s1.link.station, roll := s1.engine.ownRoll } then
      s1.holderLeaves n s1.link.station (Point.exact edge)
    else s1

/-- ROLL_LINE_FALL (R51), at a position where the level held can have shown first; a fall of a line whose rise was never taken is no
cut (R49). -/
def execRollLineFall (edge : Nat) (s : State) : Host.Outcome State Fault Refusal :=
  .next (if s.engine.rollLine = some true ∧ s.heldFrom edge = true then
      let s1 := { s with engine := { s.engine with rollLine := some false } }
      if s.engine.rollRiseTaken then s1.cutLocally edge else s1
    else s)

/-- LINE_LEVEL_ADOPTED (R49): the first level of a line is adopted without an edge. -/
def execLineLevelAdopted (line : Line) (level : Bool) (s : State) : Host.Outcome State Fault Refusal :=
  .next (match line with
    | .roll => if s.engine.rollLine = none then { s with engine := { s.engine with rollLine := some level } } else s
    | .mark => if s.engine.markLine = none then { s with engine := { s.engine with markLine := some level } } else s)

end Sys2Proof.Machine
end

