-- ==== Sys2Proof/Machine/SlateMarks.lean ====
section
/-! DEFINITION. The commands of the slate unit and the timecode unit: MARK, NOTE, MARK_PULSE and JAM. -/

namespace Sys2Proof.Machine

/-! ### Finding a take (R67, R68) -/

/-- The open take, while the station is ROLLING or TAIL. -/
def State.openNow (s : State) : Option Nat :=
  if s.engine.takeState = .rolling ∨ s.engine.takeState = .tail then s.engine.openTake else none

/-- Record `n` holds a key (R68): its joined keys, or the holder map of the open take. -/
def State.holdsKey (s : State) (k : TakeKey) (n : Nat) : Bool :=
  match s.recordAt n with
  | none => false
  | some r => r.joined.contains k || (s.openNow == some n && s.engine.holders.contains k)

/-- The media state is ABSENT or MOUNTING: no card, or one still being scanned. -/
def MediaState.noCard : MediaState → Bool
  | .absent => true
  | .mounting => true
  | .unprepared => false
  | .ready => false
  | .writeProtected => false
  | .full => false
  | .faulted => false
  | .released => false

/-- The take record with the highest index that holds a key (R68). -/
def State.takeWithKey (s : State) (k : TakeKey) : Option Nat :=
  if s.media.state.noCard then none
  else ((List.range s.journal.mirror.length).reverse.map (· + 1)).find? (s.holdsKey k)

/-- The take of a NOTE with target LAST (R67). -/
def State.lastTake (s : State) : Option Nat :=
  match s.openNow with
  | some n => some n
  | none =>
    if s.media.state.noCard = false ∧ 2 ≤ s.journal.nextIndex ∧ (s.recordAt (s.journal.nextIndex - 1)).isSome then
      some (s.journal.nextIndex - 1)
    else none

/-! ### NOTE (R64–R69, R73, R74) -/

/-- One stamp is greater than another (Conventions, R63). -/
def SlateStamp.gt (a b : SlateStamp) : Bool :=
  decide (b.revision.toNat < a.revision.toNat) || (a.revision == b.revision && decide (b.station < a.station))

/-- One field of a merge (R69). -/
def mergeField {α : Type} (st : SlateStamp) (new : Option α) (old : α × SlateStamp) : α × SlateStamp :=
  match new with
  | none => old
  | some v => if st.gt old.2 then (v, st) else old

/-- The merge of a NOTE's fields into a slate, each field on its own (R69). -/
def mergeSlate (st : SlateStamp) (fs : NoteFields) (sl : Slate) : Slate :=
  let scene := mergeField st fs.scene (sl.scene, sl.sceneStamp)
  let number := mergeField st fs.number (sl.number, sl.numberStamp)
  let circled := mergeField st fs.circled (sl.circled, sl.circledStamp)
  let disposition := mergeField st fs.disposition (sl.disposition, sl.dispositionStamp)
  let text := mergeField st fs.text (sl.text, sl.textStamp)
  { scene := scene.1, sceneStamp := scene.2, number := number.1, numberStamp := number.2
    circled := circled.1, circledStamp := circled.2, disposition := disposition.1, dispositionStamp := disposition.2
    text := text.1, textStamp := text.2 }

/-- A NOTE's fields are merged into the slate of take `n` (R69); a changed record is handed to the journal. -/
def State.noteTake (st : SlateStamp) (fs : NoteFields) (n : Nat) (s : State) : State :=
  match s.recordAt n with
  | none => s
  | some r =>
    let merged := mergeSlate st fs r.slate
    if merged = r.slate then s else (s.modifyRecord n fun r => { r with slate := merged }).changeRecord n

/-- The slate unit takes a NOTE frame (R64–R69). -/
def State.takeNote (f : Frame) (s : State) : State :=
  match decodeNote f.payload with
  | none => s
  | some note =>
    let st : SlateStamp := { revision := note.revision, station := f.sender }
    match note.target with
    | .next => { s with slate := mergeSlate st note.fields s.slate }
    | .last => match s.lastTake with | none => s | some n => (s.noteTake st note.fields n).grant
    | .key k => match s.takeWithKey k with | none => s | some n => (s.noteTake st note.fields n).grant

/-- NOTE (R64). -/
def execNote (w : Wire) (s : State) : Host.Outcome State Fault Refusal := .next (s.onFrame .note State.takeNote w)

/-! ### MARK and the MARK line (R52, R75–R77) -/

/-- Inserts a marker after every marker at or before its frame (R76). -/
def insertMarker (m : Marker) : List Marker → List Marker
  | [] => [m]
  | x :: xs => if m.frame < x.frame then m :: x :: xs else x :: insertMarker m xs

/-- A marker is inserted in the list of take `n`, or dropped when the list is full (R76). -/
def State.insertMark (n : Nat) (m : Marker) (s : State) : State :=
  match s.recordAt n with
  | none => s
  | some r =>
    if r.markers.length < maxMarkers then
      (s.modifyRecord n fun r => { r with markers := insertMarker m r.markers }).changeRecord n
    else if hasFlag r.flags .markersDropped then s
    else (s.flagRecord n .markersDropped).changeRecord n

/-- A marker is placed in the open take `n` at its clamped mark point (R32, R76). R76 sets the flags of the stamp's conversion,
and lets a MARK at a full list with MARKERS DROPPED set change nothing: where both apply, the flags are set in the mirror and
no change is handed to the journal (notes/assumptions/25). -/
def State.placeMark (n kind origin : Nat) (pt : Point) (s : State) : State :=
  match s.recordAt n with
  | none => s
  | some r =>
    ((s.modifyRecord n (·.pointFlags pt)).insertMark n
      { frame := markerPosition r.start s.intake.position pt.position - r.start, kind := kind, origin := origin }).grant

/-- A MARK's target fits the open take `n` (R75). -/
def State.markFits (s : State) (target : Option TakeKey) (n : Nat) : Bool :=
  match target with
  | none => true
  | some k => s.holdsKey k n

/-- The slate unit takes a MARK frame (R75, R76). -/
def State.takeMark (f : Frame) (s : State) : State :=
  match s.openNow with
  | none => s
  | some n =>
    if s.markFits (markTarget f.payload) n = true ∧ markKind f.payload ≤ 15 then
      s.placeMark n (markKind f.payload) f.sender
        (convertStamp s.timecode s.intake.rate s.intake.position (markStamp f.payload))
    else s

/-- MARK (R75). -/
def execMark (w : Wire) (s : State) : Host.Outcome State Fault Refusal := .next (s.onFrame .mark State.takeMark w)

/-- A pulse of the MARK line (R52, R77). -/
def State.pulseMark (edge : Nat) (s : State) : State :=
  let s0 := { s with engine := { s.engine with markLine := some true } }
  let key := s0.openNow.bind fun n => (s0.recordAt n).map (·.key)
  let s1 := s0.queueTransport (.mark key s0.timecode.rate (s0.labelAt edge) 0)
  match s1.openNow with
  | none => s1
  | some n => s1.placeMark n 0 s1.link.station (Point.exact edge)

/-- MARK_PULSE (R52): a pulse, once the line's first level has been adopted, at a position where the level held can have shown first
(R49). -/
def execMarkPulse (edge : Nat) (s : State) : Host.Outcome State Fault Refusal :=
  .next (if s.engine.markLine.isSome = true ∧ s.heldFrom edge = true then s.pulseMark edge else s)

/-! ### JAM (R35, R36) -/

/-- A JAM is accepted (R35). -/
def State.jamAccepted (s : State) (rate : Byte) (l : Label) : Bool :=
  s.link.jamen && (s.engine.takeState == .offline || s.engine.takeState == .standby)
    && rateOfByte rate == some s.timecode.rate && labelValid s.timecode.rate l

/-- The timecode unit takes a JAM frame (R35, R36). -/
def State.takeJam (f : Frame) (s : State) : State :=
  let l := labelAtOffset f.payload 0
  if s.jamAccepted (BitVec.ofNat 8 (field f.payload 4 1)) l then
    { s with timecode := jamAnchor s.timecode s.intake.position l }
  else s

/-- JAM (R35). -/
def execJam (w : Wire) (s : State) : Host.Outcome State Fault Refusal := .next (s.onFrame .jam State.takeJam w)

/-! ### REPORT (R165) -/

/-- REPORT_RECEIVED (R165): discarded after the filter, which sets STATION CONFLICT. -/
def execReportReceived (w : Wire) (s : State) : Host.Outcome State Fault Refusal :=
  .next (s.onFrame .report (fun _ s => s) w)

end Sys2Proof.Machine
end

