-- ==== Sys2Proof/Machine/Requests.lean ====
section
/-! DEFINITION. The request handler: the commands of the ten request kinds, and of a REQUEST of no kind. -/

namespace Sys2Proof.Machine

/-! ### Taking a REQUEST (R174, R176) -/

/-- The request is REFUSED with a detail (R175). -/
def State.refuse (q : Request) (d : Detail) (s : State) : State := s.answer q .refused d []

/-- A REQUEST of kind `k` that the wire carries is taken (R163–R165, R174), given its form check (R176 step 1, R196), and
carried on. A wire that carries no such REQUEST for this station has no effect here. -/
def State.onRequest (k : RequestKind) (carry : Request → State → State) (w : Wire) (s : State) : State :=
  match s.takenFrame .request w with
  | none => s
  | some f =>
    match decodeRequest f.sender f.payload with
    | none => s
    | some q =>
      if q.code = k.code then
        (if formOk k q.args then carry q (s.noteConflict f) else (s.noteConflict f).refuse q .badArgument)
      else s

/-- The media check of R177 for a request that needs no card. -/
def MediaState.barsAny : MediaState → Option Detail
  | .mounting => some .noMedia
  | _ => none

/-- The media check of R177 for a request that reads the mirror. -/
def MediaState.barsMirror : MediaState → Option Detail
  | .absent => some .noMedia
  | .mounting => some .noMedia
  | .unprepared => some .notPrepared
  | _ => none

/-- The request is refused by the media check, or carried on (R176 step 2). -/
def State.gated (bar : Option Detail) (q : Request) (carry : State → State) (s : State) : State :=
  match bar with
  | some d => s.refuse q d
  | none => carry s

/-! ### Queries (R179–R187) -/

/-- QUERY STATUS is answered (R179). -/
def State.queryStatus (q : Request) (s : State) : State := s.answer q .done .none s.statusReply

/-- QUERY_STATUS (R179). -/
def execQueryStatus (w : Wire) (s : State) : Host.Outcome State Fault Refusal :=
  .next (s.onRequest .queryStatus State.queryStatus w)

/-- QUERY METERS is answered (R180). -/
def State.queryMeters (q : Request) (s : State) : State :=
  s.gated s.media.state.barsAny q fun s => s.answer q .done .none s.metersReply

/-- QUERY_METERS (R180). -/
def execQueryMeters (w : Wire) (s : State) : Host.Outcome State Fault Refusal :=
  .next (s.onRequest .queryMeters State.queryMeters w)

/-- QUERY TAKE, past its media check (R181): take index, section code and entry number. -/
def State.answerTake (q : Request) (n code k : Nat) (s : State) : State :=
  if 4 < code ∨ journalSlots < n ∨ (n = 0 ∧ code ≠ 1) ∨ (code = 4 ∧ (k = 0 ∨ maxExtents < k)) then s.refuse q .badArgument
  else if n = 0 then s.answer q .done .none s.slate.replyBytes
  else if s.journal.nextIndex ≤ n then s.refuse q .noSuchTake
  else match s.recordAt n with
    | none => s.answer q .done .none [unreadableCode]
    | some r => s.answer q .done .none (s.sectionReply r code k)

/-- QUERY TAKE is answered (R177, R181). -/
def State.queryTake (q : Request) (s : State) : State :=
  let n := field q.args 0 2
  let code := field q.args 2 1
  s.gated (if n = 0 ∧ code = 1 then s.media.state.barsAny else s.media.state.barsMirror) q
    (State.answerTake q n code (field q.args 3 1))

/-- QUERY_TAKE (R181). -/
def execQueryTake (w : Wire) (s : State) : Host.Outcome State Fault Refusal :=
  .next (s.onRequest .queryTake State.queryTake w)

/-- SEARCH JOURNAL is answered (R185, R187). -/
def State.searchJournal (q : Request) (s : State) : State :=
  s.gated s.media.state.barsMirror q fun s =>
    match searchArgs q.args with
    | none => s.refuse q .badArgument
    | some a => s.answer q .done .none (s.searchReply a)

/-- SEARCH_JOURNAL (R187). -/
def execSearchJournal (w : Wire) (s : State) : Host.Outcome State Fault Refusal :=
  .next (s.onRequest .searchJournal State.searchJournal w)

/-! ### ARM and MIX (R6, R7, R9, R188) -/

/-- A lane set is accepted by ARM (R6, R7). -/
def State.setArm (m : Word16) (s : State) : State :=
  if s.openNow.isSome then { s with intake := { s.intake with nextArm := some m } }
  else { s with intake := { s.intake with armMask := m, nextArm := none } }

/-- ARM, past its media check (R188). -/
def State.applyArm (q : Request) (m : Word16) (s : State) : State :=
  if m = 0 then s.refuse q .badArgument
  else (s.setArm m).answer q .done (if s.openNow.isSome then .deferred else .none) (s.setArm m).armReply

/-- ARM is answered (R177, R188). -/
def State.arm (q : Request) (s : State) : State :=
  s.gated s.media.state.barsAny q (State.applyArm q (BitVec.ofNat 16 (field q.args 0 2)))

/-- ARM (R188). -/
def execArm (w : Wire) (s : State) : Host.Outcome State Fault Refusal := .next (s.onRequest .arm State.arm w)

/-- One entry of a MIX is applied (R9). -/
def Intake.mixEntry (i : Intake) (e : MixEntry) : Intake :=
  { i with
    routing := Vector.ofFn fun t => if t.val = e.lane then e.routing else i.routing[t]
    gain := Vector.ofFn fun t => if t.val = e.lane then e.gain else i.gain[t] }

/-- All entries of a MIX are applied in their order (R9). -/
def State.applyMix (l : List MixEntry) (s : State) : State := { s with intake := l.foldl Intake.mixEntry s.intake }

/-- MIX is answered (R9, R177, R188). -/
def State.mix (q : Request) (s : State) : State :=
  s.gated s.media.state.barsAny q fun s =>
    match mixEntries q.args with
    | none => s.refuse q .badArgument
    | some l => (s.applyMix l).answer q .done .none (s.applyMix l).mixReply

/-- MIX (R9). -/
def execMix (w : Wire) (s : State) : Host.Outcome State Fault Refusal := .next (s.onRequest .mix State.mix w)

/-! ### VERIFY TAKE (R148, R149, R189) -/

/-- The requester of a long operation (R147). -/
def Request.requester (q : Request) : Requester := { station := q.sender, tag := q.tag }

/-- The detail with which R148 refuses a verify of index `n`, by its tests 1 to 6. -/
def State.verifyRefusal (s : State) (n : Nat) : Option Detail :=
  match s.media.state.barsMirror with
  | some d => some d
  | none =>
    if n = 0 ∨ journalSlots < n then some .badArgument
    else if s.journal.nextIndex ≤ n then some .noSuchTake
    else match s.recordAt n with
      | none => some .noSuchTake
      | some r =>
        match r.state with
        | .opened => some .takeOpen
        | .closing => some .takeOpen
        | .interrupted => some .badArgument
        | .closed => none
        | .verified => none
        | .damaged => none

/-- The slot is IDLE. -/
def LongOp.isIdle : LongOp → Bool
  | .idle => true
  | .verifying _ _ => false
  | .preparing _ _ => false
  | .releasing _ => false

/-- A verify of take `n` with record `r` starts (R149, R150, R153, R189). -/
def State.startVerify (q : Request) (n : Nat) (r : Record) (s : State) : State :=
  ((s.setVerify (Verify.started q.requester n r)).answer q .accepted .none
    (le 2 n ++ le 4 r.blockCount)).advanceVerify q.requester n

/-- A verify of index `n` is asked (R148). -/
def State.askVerify (q : Request) (n : Nat) (s : State) : State :=
  match s.verifyRefusal n, s.recordAt n with
  | some d, _ => s.refuse q d
  | none, none => s
  | none, some r =>
    if s.verify.slot.isIdle then s.startVerify q n r else s.answer q .busy .none s.busyReply

/-- VERIFY TAKE is answered (R148, R189). -/
def State.verifyTake (q : Request) (s : State) : State := (s.askVerify q (field q.args 0 2)).grant

/-- VERIFY_TAKE (R148). -/
def execVerifyTake (w : Wire) (s : State) : Host.Outcome State Fault Refusal :=
  .next (s.onRequest .verifyTake State.verifyTake w)

/-! ### PREPARE MEDIA and RELEASE MEDIA (R116, R117, R190) -/

/-- What R116 makes of a PREPARE MEDIA or RELEASE MEDIA. -/
inductive LongGate where
  | refused (d : Detail)
  | busy
  | doneAtOnce
  | start
  deriving DecidableEq, Repr

/-- A request that could be started is started when a condition holds, and answered BUSY otherwise. -/
def startWhen (c : Bool) : LongGate := if c then .start else .busy

/-- The card is too small to be prepared (R104). -/
def Media.tooSmall (m : Media) : Bool := decide (m.capacity.getD 0 < minCapacity)

/-- The conditions of R116 on a READY card, and on a FULL or FAULTED one. -/
def State.quietStandby (s : State) : Bool :=
  s.engine.takeState == .standby && s.writer.queue.isEmpty && s.verify.slot.isIdle
def State.quiet (s : State) : Bool := s.engine.openTake.isNone && s.writer.queue.isEmpty && s.verify.slot.isIdle

/-- R116 for PREPARE MEDIA. -/
def State.prepareGate (s : State) : LongGate :=
  match s.media.state with
  | .absent => .refused .noMedia
  | .mounting => .refused .noMedia
  | .unprepared => if s.media.tooSmall then .refused .notPrepared else startWhen s.verify.slot.isIdle
  | .writeProtected => .refused .writeProtected
  | .ready => startWhen s.quietStandby
  | .full => startWhen s.quiet
  | .faulted => startWhen s.quiet
  | .released => if s.media.tooSmall then .refused .notPrepared else startWhen s.verify.slot.isIdle

/-- R116 for RELEASE MEDIA. -/
def State.releaseGate (s : State) : LongGate :=
  match s.media.state with
  | .absent => .refused .noMedia
  | .mounting => .refused .noMedia
  | .unprepared => startWhen s.verify.slot.isIdle
  | .writeProtected => startWhen s.verify.slot.isIdle
  | .ready => startWhen s.quietStandby
  | .full => startWhen s.quiet
  | .faulted => startWhen s.quiet
  | .released => .doneAtOnce

/-- The merged defect list (R117): the request's blocks as GIVEN, with the GROWN entries of the current list. -/
def mergedDefects (given : List Nat) (current : List Defect) : List Defect :=
  given.foldl (fun l b => insertDefect { block := b, grown := false } l) (current.filter (·.grown))

/-- The new generation (R117). -/
def nextGeneration : Option Nat → Nat
  | none => 1
  | some g => if g = 65535 then 1 else g + 1

/-- What a PREPARE MEDIA fixes when it is started; `none` when its arguments fail (R117). -/
def State.preparePlan (s : State) (args : List Byte) : Option PreparePlan :=
  let merged := mergedDefects (prepareBlocks args) s.media.defects
  if defectBlocksValid (s.media.capacity.getD 0) (prepareBlocks args) = true ∧ merged.length ≤ maxDefects then
    (profileAtOffset args 0).map fun p =>
      { generation := nextGeneration s.media.generation, profile := p, defects := merged, phase := .waiting }
  else none

/-- A PREPARE MEDIA starts (R118, R190). -/
def State.startPrepare (q : Request) (plan : PreparePlan) (s : State) : State :=
  (s.setVerify { s.verify with slot := .preparing q.requester plan }).answer q .accepted .none
    (le 2 plan.generation ++ le 2 plan.defects.length)

/-- PREPARE MEDIA is answered (R116, R117, R190). -/
def State.prepareMedia (q : Request) (s : State) : State :=
  match s.prepareGate with
  | .refused d => s.refuse q d
  | .busy => s.answer q .busy .none s.busyReply
  | .doneAtOnce => s
  | .start =>
    match s.preparePlan q.args with
    | none => s.refuse q .badArgument
    | some plan => s.startPrepare q plan

/-- PREPARE_MEDIA (R116). -/
def execPrepareMedia (w : Wire) (s : State) : Host.Outcome State Fault Refusal :=
  .next (s.onRequest .prepareMedia State.prepareMedia w)

/-- A RELEASE MEDIA starts, and completes in the same step when no write is outstanding or waiting (R119, R147). -/
def State.startRelease (q : Request) (s : State) : State :=
  ((s.setVerify { s.verify with slot := .releasing q.requester }).answer q .accepted .none []).releaseIfDrained

/-- RELEASE MEDIA is answered (R116, R190). -/
def State.releaseMedia (q : Request) (s : State) : State :=
  match s.releaseGate with
  | .refused d => s.refuse q d
  | .busy => s.answer q .busy .none s.busyReply
  | .doneAtOnce => s.answer q .done .none []
  | .start => s.startRelease q

/-- RELEASE_MEDIA (R119). -/
def execReleaseMedia (w : Wire) (s : State) : Host.Outcome State Fault Refusal :=
  .next (s.onRequest .releaseMedia State.releaseMedia w)

/-! ### ABORT (R156, R191) -/

/-- ABORT, past its media check (R191). -/
def State.applyAbort (q : Request) (s : State) : State :=
  match s.verify.slot with
  | .idle => s.answer q .done .none [LongOp.idle.code]
  | .verifying who n => (s.abortVerify who n).answer q .done .none ([s.verify.slot.code] ++ le 2 n)
  | .preparing _ _ => s.answer q .busy .none s.busyReply
  | .releasing _ => s.answer q .busy .none s.busyReply

/-- ABORT is answered (R177, R191). -/
def State.abort (q : Request) (s : State) : State := s.gated s.media.state.barsAny q (State.applyAbort q)

/-- ABORT (R191). -/
def execAbort (w : Wire) (s : State) : Host.Outcome State Fault Refusal := .next (s.onRequest .abort State.abort w)

/-! ### A REQUEST of no kind (R174) -/

/-- A REQUEST whose kind code names no kind, or that holds none (R174). -/
def State.takeUnknown (f : Frame) (s : State) : State :=
  match decodeRequest f.sender f.payload with
  | none => s.noteConflict f
  | some q =>
    match requestKindOfCode q.code with
    | some _ => s
    | none => (s.noteConflict f).refuse q .unknownRequest

/-- UNKNOWN_REQUEST (R174). -/
def execUnknownRequest (w : Wire) (s : State) : Host.Outcome State Fault Refusal :=
  .next (match s.takenFrame .request w with
    | none => s
    | some f => s.takeUnknown f)

end Sys2Proof.Machine
end

