-- ==== Sys2Proof/Machine/Dispatch.lean ====
section
/-! DEFINITION. Which meaning each command has. -/

namespace Sys2Proof.Machine

/-- The effect of a command on everything but the queue of commands. -/
def exec (i : Instr) (s : State) : Host.Outcome State Fault Refusal :=
  match i with
  | .reset straps => Sys2Proof.Machine.execReset straps s
  | .frameStore interval words => Sys2Proof.Machine.execFrameStore interval words s
  | .clockLoss why => Sys2Proof.Machine.execClockLoss why s
  | .qualifyingPeriod interval => Sys2Proof.Machine.execQualifyingPeriod interval s
  | .clockReturn => Sys2Proof.Machine.execClockReturn s
  | .meterWindowComplete => Sys2Proof.Machine.execMeterWindowComplete s
  | .tailEnd => Sys2Proof.Machine.execTailEnd s
  | .lengthSplit => Sys2Proof.Machine.execLengthSplit s
  | .frameDraw => Sys2Proof.Machine.execFrameDraw s
  | .roll wire => Sys2Proof.Machine.execRoll wire s
  | .cut wire => Sys2Proof.Machine.execCut wire s
  | .state wire => Sys2Proof.Machine.execState wire s
  | .mark wire => Sys2Proof.Machine.execMark wire s
  | .note wire => Sys2Proof.Machine.execNote wire s
  | .jam wire => Sys2Proof.Machine.execJam wire s
  | .reportReceived wire => Sys2Proof.Machine.execReportReceived wire s
  | .receiveFilterDiscard wire => Sys2Proof.Machine.execReceiveFilterDiscard wire s
  | .queryStatus wire => Sys2Proof.Machine.execQueryStatus wire s
  | .queryMeters wire => Sys2Proof.Machine.execQueryMeters wire s
  | .queryTake wire => Sys2Proof.Machine.execQueryTake wire s
  | .searchJournal wire => Sys2Proof.Machine.execSearchJournal wire s
  | .arm wire => Sys2Proof.Machine.execArm wire s
  | .mix wire => Sys2Proof.Machine.execMix wire s
  | .verifyTake wire => Sys2Proof.Machine.execVerifyTake wire s
  | .prepareMedia wire => Sys2Proof.Machine.execPrepareMedia wire s
  | .releaseMedia wire => Sys2Proof.Machine.execReleaseMedia wire s
  | .abort wire => Sys2Proof.Machine.execAbort wire s
  | .rollLineRise edge => Sys2Proof.Machine.execRollLineRise edge s
  | .rollLineFall edge => Sys2Proof.Machine.execRollLineFall edge s
  | .markPulse edge => Sys2Proof.Machine.execMarkPulse edge s
  | .cardInsertion wprot => Sys2Proof.Machine.execCardInsertion wprot s
  | .cardRemoval => Sys2Proof.Machine.execCardRemoval s
  | .sizeReadComplete op blocks => Sys2Proof.Machine.execSizeReadComplete op blocks s
  | .headerReadComplete op block => Sys2Proof.Machine.execHeaderReadComplete op block s
  | .slotReadComplete op block => Sys2Proof.Machine.execSlotReadComplete op block s
  | .journalWriteComplete op ok => Sys2Proof.Machine.execJournalWriteComplete op ok s
  | .deferredProvisionalWrite => Sys2Proof.Machine.execDeferredProvisionalWrite s
  | .headerWriteComplete op ok => Sys2Proof.Machine.execHeaderWriteComplete op ok s
  | .segmentWriteComplete op failed => Sys2Proof.Machine.execSegmentWriteComplete op failed s
  | .operationTimeout op => Sys2Proof.Machine.execOperationTimeout op s
  | .prepareHeaderWriteAsk => Sys2Proof.Machine.execPrepareHeaderWriteAsk s
  | .prepareHeaderWriteComplete op ok => Sys2Proof.Machine.execPrepareHeaderWriteComplete op ok s
  | .prepareZeroWriteComplete op ok => Sys2Proof.Machine.execPrepareZeroWriteComplete op ok s
  | .releaseComplete => Sys2Proof.Machine.execReleaseComplete s
  | .verifyReadComplete op block => Sys2Proof.Machine.execVerifyReadComplete op block s
  | .initialState => Sys2Proof.Machine.execInitialState s
  | .transmitAttemptStart => Sys2Proof.Machine.execTransmitAttemptStart s
  | .transmitComplete => Sys2Proof.Machine.execTransmitComplete s
  | .collision => Sys2Proof.Machine.execCollision s
  | .backoffComplete => Sys2Proof.Machine.execBackoffComplete s
  | .unknownRequest wire => Sys2Proof.Machine.execUnknownRequest wire s
  | .lineLevelAdopted line level => Sys2Proof.Machine.execLineLevelAdopted line level s

end Sys2Proof.Machine
end

