-- ==== Sys2Proof/Safety.lean ====
section
/-! DEFINITION. What holds of the part between any two commands, block by block, and what makes a header or a record one that the
card can carry. -/

namespace Sys2Proof.Machine

/-! ### Lane intake and capture ring -/

/-- While the clock is LOST every lane is OFF and nothing is metered (R2, R11). -/
abbrev Intake.Quiet (i : Intake) : Prop :=
  (∀ t : Fin 16, i.lanes[t] = .off) ∧ i.windowCount = 0
    ∧ ∀ k : Fin 18, i.meters[k] = 0 ∧ i.windowMax[k] = 0

/-- The greatest magnitude of a 24-bit sample. -/
def maxMagnitude : Nat := 8388608

/-- The intake's counts and values lie in their ranges (R1–R3, R5, R6, R11). -/
abbrev Intake.Sound (i : Intake) : Prop :=
  i.position < positionLimit ∧ i.qualification ≤ qualifyCount ∧ i.windowCount ≤ i.rate.tenth
    ∧ (∀ k : Fin 18, i.meters[k] ≤ maxMagnitude ∧ i.windowMax[k] ≤ maxMagnitude)
    ∧ i.nextArm ≠ some 0 ∧ (i.clock = .lost → i.Quiet)

/-- Slot numbers strictly rising, all below C: the one form in which a ring's content is written (R14). -/
abbrev ringCanonical (l : List (Nat × RingFrame)) : Prop :=
  (l.map (·.1)).Pairwise (· < ·) ∧ ∀ x ∈ l, x.1 < ringSlots

/-! ### Timecode unit -/

/-- The anchor lies within its ranges (R21). -/
abbrev State.AnchorSound (s : State) : Prop :=
  s.intake.position < positionLimit ∧ s.timecode.anchorPosition < positionLimit
    ∧ s.timecode.anchorIndex < s.timecode.rate.perDay

/-! ### Take engine -/

/-- There is an open take exactly in ROLLING and TAIL, and a pending stop exactly in TAIL (R37, R46); the holder map has one entry for
an origin (R37, R44). -/
abbrev Engine.Sound (e : Engine) : Prop :=
  (e.openTake.isSome = true ↔ e.takeState = .rolling ∨ e.takeState = .tail)
    ∧ (e.pendingStop.isSome = true ↔ e.takeState = .tail)
    ∧ (e.holders.map (·.origin)).Pairwise (· < ·)

/-! ### Slate and records -/

/-- Strings within their lengths (R63, R64). -/
abbrev Slate.Fits (sl : Slate) : Prop := sl.scene.length ≤ 8 ∧ sl.text.length ≤ 64

/-- The lists of a record hold no more than the journal record has places for (R13, R16, R44, R63, R76, R141). -/
abbrev Record.Fits (r : Record) : Prop :=
  r.markers.length ≤ maxMarkers ∧ r.notes.length ≤ maxNotes ∧ r.joined.length ≤ maxJoined
    ∧ r.extents.length ≤ maxExtents ∧ r.slate.Fits

/-- The pending slate and every record of the mirror fit (R63, R76). -/
abbrev State.RecordsFit (s : State) : Prop :=
  s.slate.Fits ∧ s.slate.number ≤ 999 ∧ ∀ sl ∈ s.journal.mirror, ∀ r ∈ sl.entry.record?, r.Fits

/-! ### Media manager -/

/-- A defect list: at most 480 entries, in strictly ascending order of block (R109). -/
abbrev defectsSound (l : List Defect) : Prop := l.length ≤ maxDefects ∧ (l.map (·.block)).Pairwise (· < ·)

/-- What a started PREPARE MEDIA holds. -/
def LongOp.plan : LongOp → Option PreparePlan
  | .preparing _ plan => some plan
  | .idle => none
  | .verifying _ _ => none
  | .releasing _ => none

/-- The defect list in use, and the one a running PREPARE MEDIA will write (R109, R117). -/
abbrev State.DefectsSound (s : State) : Prop :=
  defectsSound s.media.defects ∧ ∀ plan ∈ s.verify.slot.plan, defectsSound plan.defects

/-! ### Port arbiter -/

/-- At most 4 operations are outstanding, none waits while a slot is free, and every operation is known by a number of its own
(R120). -/
abbrev Port.Sound (p : Port) : Prop :=
  p.outstanding.length ≤ maxOutstanding ∧ (p.waiting = [] ∨ p.outstanding.length = maxOutstanding)
    ∧ (∀ op ∈ p.waiting ++ p.outstanding, op.id < p.nextOp) ∧ ((p.waiting ++ p.outstanding).map (·.id)).Nodup

/-! ### Segment writer -/

/-- The writer queue holds at most 3 takes (R123). -/
abbrev Writer.Sound (w : Writer) : Prop := w.queue.length ≤ maxQueue

/-! ### Verify unit -/

def LongOp.isVerifying : LongOp → Bool
  | .verifying _ _ => true
  | .idle => false
  | .preparing _ _ => false
  | .releasing _ => false

/-- The position has been read, or given up. -/
def WindowEntry.ended : WindowEntry → Bool
  | .held _ _ => true
  | .givenUp _ => true
  | .waiting _ _ => false
  | .outstanding _ _ => false

/-- The window of R150: at most 4 positions from the cursor up, within the read order. While a verify runs it is as long as it can
be and its first position has not been taken; otherwise it is empty and no digest is computed (R152, R153, R157). -/
abbrev Verify.Sound (v : Verify) : Prop :=
  v.window.length ≤ windowSize ∧ v.cursor + v.window.length ≤ v.positions
    ∧ (if v.slot.isVerifying then
        (v.window.length = windowSize ∨ v.cursor + v.window.length = v.positions)
          ∧ ∃ e ∈ v.window.head?, e.ended = false
      else v.window = [] ∧ v.digest = none)

/-! ### Link controller -/

/-- The head of the transmit queue: at most 8 attempts, and 8 only during the last (R166–R168). -/
abbrev TxFrame.Head (f : TxFrame) : Prop :=
  f.attempts ≤ maxSendAttempts ∧ (f.phase ≠ .attempting → f.attempts < maxSendAttempts)
    ∧ (f.phase ≠ .idle → 1 ≤ f.attempts)

/-- The transmit queue and the flags beside it (R160, R166–R171): at most 8 frames, at most one waiting STATE, only the head past
its first attempt, a STATE owed only while the queue is full of frames it may not displace, and nothing at all at a LISTEN-ONLY
station. What is sent during an attempt is the head's own bits (R161, R162, R166). -/
abbrev Link.Sound (l : Link) : Prop :=
  l.queue.length ≤ maxTransmit
    ∧ (l.listenOnly = true → l.queue = [] ∧ l.owed = false ∧ l.linkTrouble = false)
    ∧ (l.queue.filter TxFrame.waitingState).length ≤ 1
    ∧ (l.owed = true → l.queue.length = maxTransmit ∧ l.queue.any TxFrame.waitingState = false
        ∧ l.queue.any TxFrame.waitingReport = false)
    ∧ (∀ f ∈ l.queue.tail, f.attempts = 0 ∧ f.phase = .idle)
    ∧ (∀ f ∈ l.queue.head?, f.Head)
    ∧ (l.driving.isSome = true ↔ ∃ f ∈ l.queue.head?, f.phase = .attempting)
    ∧ (∀ f ∈ l.queue.head?, ∀ bits ∈ l.driving, bits = f.body.wireBits l.station)

/-! ### How the blocks stand to one another -/

/-- The scan's next slot, while a scan runs. -/
def Mount.scanning : Mount → Option Nat
  | .scan next _ _ _ => some next
  | .none => Option.none
  | .sizing => Option.none
  | .header => Option.none

/-- The media manager and the mount (R102, R107): a mount is in progress exactly in MOUNTING; with no card or one whose scan has
not begun the mirror is empty; the next take index follows the mirror, or the scan's next slot does (R84, R95, R97). -/
abbrev State.MountSound (s : State) : Prop :=
  (s.media.mount = .none ↔ s.media.state ≠ .mounting)
    ∧ (s.media.state = .absent ∨ s.media.mount = .sizing ∨ s.media.mount = .header → s.journal.mirror = [])
    ∧ (∀ next ∈ s.media.mount.scanning, s.journal.mirror.length + 1 = next ∧ next ≤ journalSlots
        ∧ ∀ sl ∈ s.journal.mirror, sl.keptBytes = none)
    ∧ (s.media.mount.scanning = none →
        s.journal.mirror.length + 1 = s.journal.nextIndex ∧ s.journal.nextIndex ≤ journalSlots + 1)
    ∧ (s.media.state = .absent ∨ s.media.state = .mounting →
        s.verify.slot = .idle ∧ ∀ op ∈ s.port.waiting ++ s.port.outstanding, op.kind.priority = 3)

/-- The writer queue, its records and the open take (R37, R80, R84, R123): indices ascend below the next take index, every queued
take is OPEN or CLOSING, and the OPEN one is the open take. -/
abbrev State.QueueSound (s : State) : Prop :=
  (s.writer.queue.map (·.index)).Pairwise (· < ·)
    ∧ (∀ e ∈ s.writer.queue, e.index < s.journal.nextIndex
        ∧ ∃ r ∈ s.recordAt e.index, (r.state = .opened ∨ r.state = .closing)
          ∧ (r.state = .opened ↔ s.engine.openTake = some e.index))
    ∧ ∀ n ∈ s.engine.openTake, ∃ e ∈ s.writer.queue, e.index = n

/-- The station is OFFLINE exactly while the media is not READY or the clock not RUNNING (R38); takes are queued only on a READY or
FULL card that is not being prepared or released (R116, R123, R145); and a take under verify is one that has been settled (R148). -/
abbrev State.StationSound (s : State) : Prop :=
  (s.engine.takeState = .offline ↔ ¬ (s.media.state = .ready ∧ s.intake.clock = .running))
    ∧ (s.media.state ≠ .ready ∧ s.media.state ≠ .full → s.writer.queue = [])
    ∧ (s.verify.slot.blocksJournal = true → s.writer.queue = [])
    ∧ ∀ n ∈ s.verify.slot.index, ∃ r ∈ s.recordAt n, r.state ≠ .opened ∧ r.state ≠ .closing

/-- What holds across the blocks between any two commands. -/
abbrev State.Coherent (s : State) : Prop := s.engine.Sound ∧ s.MountSound ∧ s.QueueSound ∧ s.StationSound

/-- The open take has a holder exactly in ROLLING (R37); and a card that is READY, or whose scan has begun, has a profile in use
(R106, R107). -/
abbrev State.HoldersSound (s : State) : Prop :=
  (s.engine.holders ≠ [] ↔ s.engine.takeState = .rolling)
    ∧ (s.media.state = .ready ∨ s.media.mount.scanning.isSome = true → s.media.profile.isSome = true)

/-- Every mirror entry that is not UNREADABLE holds the take of its own index (R83). -/
abbrev State.MirrorSound (s : State) : Prop :=
  ∀ i < s.journal.mirror.length, ∀ r ∈ s.recordAt (i + 1), r.index = i + 1

/-! ### The accounts of a take (R15, R90, R136) -/

/-- R90, of a record in CLOSED, VERIFIED or DAMAGED: recorded and lost frames together are stop minus start, and every recorded frame
is durable. -/
abbrev Record.Settles (r : Record) : Prop :=
  (∃ stop ∈ r.stop, r.start ≤ stop ∧ r.recorded + r.lost = stop - r.start) ∧ r.durable = r.recorded

/-- The slot of a journal write. -/
def OpKind.journalSlot : OpKind → Option Nat
  | .journalWrite n => some n
  | .sizeRead => none
  | .headerRead => none
  | .slotRead _ => none
  | .verifyRead _ _ => none
  | .headerWrite => none
  | .prepareHeader => none
  | .prepareZero => none
  | .segmentWrite _ _ => none

/-- The buffer and the place in its descriptor of a segment write. -/
def OpKind.piece : OpKind → Option (Nat × Nat)
  | .segmentWrite b i => some (b, i)
  | .sizeRead => none
  | .headerRead => none
  | .slotRead _ => none
  | .verifyRead _ _ => none
  | .journalWrite _ => none
  | .headerWrite => none
  | .prepareHeader => none
  | .prepareZero => none

/-- The write that stands at a place of a buffer's descriptor. -/
def State.pieceAt (s : State) (at_ : Nat × Nat) : Option Piece :=
  match s.buffer at_.1 with
  | .free => none
  | .used _ seg => seg.writes[at_.2]?

/-- The frames of every take (R15, R16, R90, R125). Every settled record has its accounts closed, and only an INTERRUPTED one a durable
prefix of its own. A queued take's recorded and lost frames make up all below its next-needed frame; a CLOSING one has not passed its
stop, and an OPEN one neither the intake position, nor the pending stop, nor its maximum length. A final write that stands at the port
is that of a take whose final write is due, and a take under verify is a settled one. -/
abbrev State.FramesSound (s : State) : Prop :=
  (∀ sl ∈ s.journal.mirror, ∀ r ∈ sl.entry.record?,
      (r.state.settled = true → r.Settles) ∧ (r.state ≠ .interrupted → sl.keptBytes = none))
    ∧ (∀ e ∈ s.writer.queue, ∀ r ∈ s.recordAt e.index,
        r.start ≤ e.next ∧ r.recorded + r.lost = e.next - r.start
        ∧ (r.state = .closing → ∃ stop ∈ r.stop, e.next ≤ stop)
        ∧ (r.state = .opened → e.next ≤ max r.start s.intake.position ∧ max r.start s.intake.position ≤ r.start + s.maxFrames
          ∧ ∀ stop ∈ s.engine.pendingStop, e.next ≤ stop))
    ∧ (∀ op ∈ s.port.waiting ++ s.port.outstanding, op.isFinal = true → ∀ n ∈ op.kind.journalSlot, ∀ r ∈ s.recordAt n,
        r.state = .closing → s.finalDue n = true ∧ r.durable = r.recorded)
    ∧ (∀ n ∈ s.verify.slot.index, ∀ r ∈ s.recordAt n, r.state.settled = true)
    ∧ (∀ plan ∈ s.verify.slot.plan, 1 ≤ plan.profile.maxLength ∧ plan.profile.armMask ≠ 0
        ∧ (plan.phase ≠ .waiting → ∀ op ∈ s.port.waiting ++ s.port.outstanding, op.kind.journalSlot = none))
    ∧ ∀ p ∈ s.media.profile, 1 ≤ p.maxLength ∧ s.intake.armMask ≠ 0 ∧ s.intake.nextArm ≠ some 0

/-- The segments in the buffers of take `n`, those of a take abandoned before apart. -/
def State.staged (s : State) (n : Nat) : List Segment :=
  s.writer.buffers.toList.filterMap fun x =>
    match x with
    | .free => none
    | .used _ seg => if seg.take = n ∧ seg.orphan = false then some seg else none

/-- The buffer is being filled for take `n`. -/
def Buffer.fills (n : Nat) : Buffer → Bool
  | .free => false
  | .used _ seg => seg.take == n && !seg.orphan && seg.sequence.isNone

/-- What a staging buffer holds is in order (R126, R127, R135, R143). A segment's failure count is at most 4, and below 4 while its take is
not abandoned (R127, R137). -/
def State.bufferOk (s : State) : Buffer → Bool
  | .free => true
  | .used phase seg =>
    (seg.sequence.isSome || seg.writes.isEmpty) && decide (seg.failures ≤ if seg.orphan then 4 else 3)
      && (seg.orphan || (s.writer.queue.any (·.index == seg.take)
        && (phase == .inFlight || seg.writes.all (·.state != .outstanding))))

/-- The segments of every queued take (R127, R131, R135, R136): its recorded bytes are those of its durable prefix, of its segments
completed above that, and of its buffers; its segments are numbered without repeat up to the count sealed; and its current buffer is
the one of its buffers that is not sealed. A segment write at the port is a write of its buffer that waits, for a queued take, or is
outstanding, and each stands there once. -/
abbrev State.SegmentsSound (s : State) : Prop :=
  (∀ e ∈ s.writer.queue, ∀ r ∈ s.recordAt e.index,
      r.frameBytes = frameBytesOf r.armed r.mixPresent ∧ 0 < r.frameBytes
      ∧ e.durBytes + (e.above.map (·.2)).sum + ((s.staged e.index).map (·.data.length)).sum = r.recorded * r.frameBytes
      ∧ e.completed = e.durSegs + e.above.length
      ∧ e.sealedSegs = e.completed + ((s.staged e.index).filterMap (·.sequence)).length
      ∧ (e.above.map (·.1) ++ (s.staged e.index).filterMap (·.sequence)).Nodup
      ∧ (∀ k ∈ e.above.map (·.1) ++ (s.staged e.index).filterMap (·.sequence), e.durSegs < k ∧ k ≤ e.sealedSegs)
      ∧ (∀ x ∈ e.above, x.1 ≠ e.durSegs + 1)
      ∧ (∀ b : Fin 8, (s.writer.buffers[b]).fills e.index = true ↔ e.current = some b.val) ∧ ∀ b ∈ e.current, b < 8)
    ∧ (∀ b : Fin 8, s.bufferOk s.writer.buffers[b] = true)
    ∧ (∀ op ∈ s.port.waiting, ∀ x ∈ op.kind.piece, (∃ p ∈ s.pieceAt x, p.state = .waiting)
        ∧ ∃ e ∈ s.writer.queue, (s.buffer x.1).ofTake e.index = true)
    ∧ (∀ op ∈ s.port.outstanding, ∀ x ∈ op.kind.piece, ∃ p ∈ s.pieceAt x, p.state = .outstanding)
    ∧ ((s.port.waiting ++ s.port.outstanding).filterMap (·.kind.piece)).Nodup

/-! ### What several commands do alike -/

/-- A level of a local line that is taken now was held from the position `edge` on (R49): that is the intake position or lies behind it,
by up to 480 frames at 48 kHz and 960 at 96 kHz. What was held from before the fill start on was held across a change of the rate
(notes/assumptions/31). -/
abbrev State.HeldFrom (s : State) (edge : Nat) : Prop :=
  edge ≤ s.intake.position
    ∧ s.intake.position ≤ edge + (if s.intake.rate = .hz48000 ∧ s.intake.fillStart ≤ edge then 480 else 960)

/-- An operation of this kind and attempt stands at the port, waiting or outstanding. -/
abbrev State.Asked (s : State) (kind : OpKind) (attempt : Nat) : Prop :=
  ∃ op ∈ s.port.waiting ++ s.port.outstanding, op.kind = kind ∧ op.attempt = attempt

/-- Every mirror slot but that of take `n` is as before, and so is the next take index. -/
abbrev State.OtherSlotsKept (s : State) (n : Nat) (t : State) : Prop :=
  (∀ k, k ≠ n → t.slotAt k = s.slotAt k) ∧ t.journal.nextIndex = s.journal.nextIndex

/-- Record `n`, which is not CLOSING, was handed on as changed on a card that takes journal writes (R86–R88, R91): a write of its slot
is asked, unless one waits already or its provisional write is held back; while one is outstanding an amendment is pending. -/
def State.HandsOn (s : State) (n : Nat) (t : State) : Prop :=
  ∀ sl, s.slotAt n = some sl → ∃ sl', t.slotAt n = some sl'
    ∧ sl'.firstDone = sl.firstDone ∧ sl'.held = sl.held ∧ sl'.keptBytes = sl.keptBytes
    ∧ (sl.held = true → sl'.inFlight = sl.inFlight ∧ sl'.amend = sl.amend)
    ∧ (sl.held = false → sl'.inFlight = true
        ∧ (sl.inFlight = false → sl'.amend = sl.amend ∧ t.Asked (.journalWrite n) 1)
        ∧ (sl.inFlight = true → sl'.amend =
            (sl.amend || (s.port.outstanding ++ s.port.waiting).any fun op => op.kind == .journalWrite n && op.block.isSome)))

/-- What fixing a stop makes of a record (R46, R47, R55, R57, R78): CLOSING with that stop and without the markers at or beyond it.
Flags already set stay; the extent list may lose blocks that the last segment did not use, and a journal write may note the durable
frames. -/
def Record.ClosedAt (stop : Nat) (r r' : Record) : Prop :=
  r' = { r with
      state := .closing, stop := some stop, markers := r.markers.filter fun m => decide (m.frame + r.start < stop)
      flags := r'.flags, extents := r'.extents, durable := r'.durable }
    ∧ ∀ f : TakeFlag, hasFlag r.flags f = true → hasFlag r'.flags f = true

/-- The current buffer `c` of take `n` was sealed with its last bytes (R131–R133): the descriptor has its number, tag and blocks used,
and its write is asked. -/
def State.Sealed (t : State) (c : Nat) (seg : Segment) (bytes : List Byte) (sequence : Nat) (tag : PositionTag) : Prop :=
  (∃ phase seg', t.buffer c = .used phase seg' ∧ seg'.take = seg.take ∧ seg'.run = seg.run ∧ seg'.data = seg.data ++ bytes
      ∧ seg'.sequence = some sequence ∧ seg'.tag = some tag ∧ seg'.offset = seg.offset
      ∧ seg'.blocksUsed = ((seg.data ++ bytes).length + 4095) / 4096
      ∧ seg'.writes.map (fun p => (p.first, p.count, p.segBlock)) = [(seg.run.first, seg'.blocksUsed, 0)])
    ∧ t.Asked (.segmentWrite c 0) 1

/-- Take `e`, whose record `r` became `r'`, has come to its stop at `w` (R90, R125, R131, R132). The buffer being filled for it was
sealed with what it holds, as ONLY when it is the take's first segment and else as LAST, and the blocks that it does not use left the
last extent. With no such buffer nothing was sealed, and the final write is asked when every segment has completed. -/
def State.EndsDrawing (s : State) (e : QueueEntry) (r : Record) (w : Nat) (t : State) (r' : Record) : Prop :=
  (∀ b phase seg, e.current = some b → s.buffer b = .used phase seg → seg.take = e.index →
      (∀ x ∈ s.writer.queue, x.current = some b → x.index = e.index) →
    t.Sealed b seg [] (e.sealedSegs + 1) (if e.sealedSegs = 0 then .only else .last)
      ∧ (∃ d, t.entryOf e.index = some { e with next := w, current := none, sealedSegs := e.sealedSegs + 1, digest := d })
      ∧ (∀ used, used = (seg.data.length + 4095) / 4096 →
        (seg.run.count ≤ used → r'.extents = r.extents)
        ∧ ∀ front x, used < seg.run.count → r.extents = front ++ [x] →
          r'.extents = (if x.count ≤ seg.run.count - used then front
            else front ++ [{ first := x.first, count := x.count - (seg.run.count - used) }])))
    ∧ (e.current = none → r'.extents = r.extents ∧ (∃ d, t.entryOf e.index = some { e with next := w, digest := d })
        ∧ (e.sealedSegs = e.completed → ∀ sl, s.slotAt e.index = some sl → sl.held = false →
            ∃ sl', t.slotAt e.index = some sl' ∧ sl'.inFlight = true
              ∧ (sl.inFlight = false → t.Asked (.journalWrite e.index) 1)))

/-- The stop of take `e`, whose record was `r`, was fixed (R46, R57, R125, R142): a take that has passed all frames below it has come
to its stop; one that has not goes on as it stood. -/
def State.ClosesAt (s : State) (e : QueueEntry) (r : Record) (stop : Nat) (t : State) : Prop :=
  ∃ r', t.recordAt e.index = some r' ∧ r.ClosedAt stop r'
    ∧ (e.next < stop → r'.extents = r.extents ∧ ∃ d, t.entryOf e.index = some { e with digest := d })
    ∧ (stop ≤ e.next → s.EndsDrawing e r e.next t r')

/-- A record as before, but for its durable frames, which a journal write may have noted (R85). -/
def Record.SameButDurable (r r' : Record) : Prop := r' = { r with durable := r'.durable }

/-- Nothing but buffer `b`, the port and what a grant touches has changed (R120): a grant may put a segment's bytes into its take's
digest and its writes outstanding (R133, R134), note the durable frames of a record (R85), and make a waiting read of the verify window
outstanding (R150). -/
def State.GrantsBeside (s : State) (b : Nat) (t : State) : Prop :=
  t = { s with journal := { s.journal with mirror := t.journal.mirror }, port := t.port, writer := t.writer
               verify := { s.verify with window := t.verify.window } }
    ∧ t.writer.queue.length = s.writer.queue.length
    ∧ (∀ n e, s.entryOf n = some e → ∃ d, t.entryOf n = some { e with digest := d })
    ∧ (∀ c phase seg, c ≠ b → s.buffer c = .used phase seg → ∃ phase' seg', t.buffer c = .used phase' seg'
        ∧ seg' = { seg with writes := seg'.writes, tapped := seg'.tapped })
    ∧ (∀ c, c ≠ b → s.buffer c = .free → t.buffer c = .free)
    ∧ (∀ n sl, s.slotAt n = some sl → ∃ sl', t.slotAt n = some sl' ∧ sl' = { sl with entry := sl'.entry })
    ∧ ∀ n r, s.recordAt n = some r → ∃ r', t.recordAt n = some r' ∧ r.SameButDurable r'

/-- The record that a take opens with (R43, R8, R17): its counts at 0 but for the frames charged at entry. -/
def State.openedRecord (s : State) (p : Profile) (key : TakeKey) (pt : Point) : Record :=
  let start := takeStart s.intake.rate p.preRoll s.intake.position pt.position
  let missing := s.intake.oldestHeld - start.1
  { index := s.journal.nextIndex, generation := s.media.generation.getD 0, key := key, continues := none
    state := .opened
    flags := setFlagIf start.2 .shortPreRoll (setFlagIf pt.clamped .stampClamped (setFlagIf pt.rateMismatch .rateMismatch 0))
    start := start.1, stop := none, startLabel := s.labelAt start.1, labelRate := s.timecode.rate
    recorded := 0, lost := missing, durable := 0
    armed := s.intake.armMask, mixPresent := p.mixEnable, rate := s.intake.rate
    frameBytes := 3 * trackCount s.intake.armMask p.mixEnable, digest := none
    peaks := List.replicate (trackCount s.intake.armMask p.mixEnable) 0, clipCount := 0, joined := [key]
    slate := s.slate, markers := [], notes := if missing = 0 then [] else [.gap 0 missing], extents := [] }

/-- A take opens (R43, R71, R84, R88, R123): its record stands at the next take index, its provisional write is asked unless the
slot below has not had its first write, it is the last of the writer queue, and the pending slate has moved on. -/
def State.OpensTake (s : State) (p : Profile) (key : TakeKey) (pt : Point) (t : State) : Prop :=
  let n := s.journal.nextIndex
  let start := (takeStart s.intake.rate p.preRoll s.intake.position pt.position).1
  t.journal.nextIndex = n + 1
    ∧ t.slotAt n = some { entry := .record (s.openedRecord p key pt), inFlight := !s.provisionalHeld n, amend := false
                          firstDone := false, held := s.provisionalHeld n, keptBytes := none }
    ∧ (s.provisionalHeld n = false → t.Asked (.journalWrite n) 1)
    ∧ (∀ k, k ≠ n → t.slotAt k = s.slotAt k)
    ∧ t.writer.queue = s.writer.queue ++ [QueueEntry.joining n (max start s.intake.oldestHeld)]
    ∧ t.slate = { Slate.unset with
        scene := s.slate.scene, sceneStamp := s.slate.sceneStamp, numberStamp := s.slate.numberStamp
        number := if 1 ≤ s.slate.number ∧ s.slate.number ≤ 998 then s.slate.number + 1 else s.slate.number }
    ∧ t = { s with engine := t.engine, journal := t.journal, port := t.port, writer := { s.writer with queue := t.writer.queue }
                   slate := t.slate, link := t.link }

/-- What follows when the last holder leaves the open take `n` at a cut point (R46): the take's stop is the larger of the stop of R31
and its next-needed frame, and the station enters TAIL, or STANDBY with the take CLOSING. -/
def State.LastHolderOut (s : State) (n : Nat) (r : Record) (e : QueueEntry) (postRoll : Nat) (pt : Point) (t : State) : Prop :=
  let found := takeStop s.intake.rate postRoll r.start pt.position
  let stop := max found e.next
  let marked : Record := { r with
    flags := setFlagIf (decide (found < e.next)) .stopClamped
      (setFlagIf pt.clamped .stampClamped (setFlagIf pt.rateMismatch .rateMismatch r.flags)) }
  if s.intake.position < stop then
    t.engine = { s.engine with takeState := .tail, holders := [], pendingStop := some stop }
      ∧ t.recordAt n = some marked ∧ s.OtherSlotsKept n t
      ∧ t = { s with engine := t.engine, journal := t.journal, link := t.link }
  else
    t.engine = { s.engine with takeState := .standby, openTake := none, holders := [], pendingStop := none }
      ∧ s.ClosesAt e marked stop t ∧ s.OtherSlotsKept n t
      ∧ t.intake = { s.intake with armMask := s.intake.nextArm.getD s.intake.armMask, nextArm := none }
      ∧ t = { s with
          engine := t.engine, intake := t.intake, journal := t.journal, port := t.port, writer := t.writer, link := t.link }

/-- The media faults (R114, R59, R92, R143, R144, R147): every queued take is abandoned, every waiting write is discarded, a STATE
frame is queued, and a preparation or a release ends with its ABORTED report after it. An abandoned take's frames beyond the
whole frames of its durable prefix count as lost, and its extents and durable frames stay as they stood. -/
def State.FaultsMedia (s t : State) : Prop :=
  t.media = { s.media with
      state := .faulted, headerInFlight := t.media.headerInFlight, headerPending := t.media.headerPending }
    ∧ t.writer.queue = [] ∧ t.engine.takeState = .offline ∧ t.engine.openTake = none
    ∧ (∀ op ∈ t.port.waiting, op.kind.priority = 3)
    ∧ (∀ e ∈ s.writer.queue, ∃ r r', s.recordAt e.index = some r ∧ t.recordAt e.index = some r'
        ∧ r'.state = .interrupted ∧ r'.stop = none ∧ r'.digest = none ∧ r'.recorded = e.durBytes / r.frameBytes
        ∧ r'.lost = r.lost + (r.recorded - r'.recorded) ∧ r'.durable = r.durable ∧ r'.extents = r.extents
        ∧ hasFlag r'.flags .mediaFault = true ∧ hasFlag r'.flags .unsaved = true)
    ∧ (∀ op ∈ s.port.waiting, ∀ n r, op.kind = .journalWrite n → s.recordAt n = some r →
        ∃ sl r', t.slotAt n = some sl ∧ sl.entry = .record r' ∧ sl.inFlight = false ∧ hasFlag r'.flags .unsaved = true)
    ∧ t.verify.slot = (if s.verify.slot.blocksJournal = true then .idle else s.verify.slot)
    ∧ (∀ l, l = s.link.enqueueState t.stateContent →
        t.link = (match s.verify.slot with
          | .preparing who _ => l.enqueueReport
              { dest := who.station, tag := who.tag, kind := RequestKind.prepareMedia.code, outcome := .aborted, detail := .none
                reply := [MediaState.faulted.code] }
          | .releasing who => l.enqueueReport
              { dest := who.station, tag := who.tag, kind := RequestKind.releaseMedia.code, outcome := .aborted, detail := .none
                reply := [MediaState.faulted.code] }
          | .idle => l
          | .verifying _ _ => l))
    ∧ t.intake = s.intake ∧ t.timecode = s.timecode ∧ t.slate = s.slate

/-- A profile was loaded (R4, R6, R7, R22, R38, R106, R11, R14): it is the profile in use, with its pre-roll limited at 96,000; arm mask,
follow set and timecode unit follow it, and another sample rate than before loses the clock and empties the ring. -/
def State.LoadsProfile (s : State) (p : Profile) (t : State) : Prop :=
  t.media.headerProfile = some p
    ∧ t.media.profile = some { p with preRoll := if p.rate = .hz96000 then min p.preRoll 50 else p.preRoll }
    ∧ t.engine.followSet = (if s.link.role = .follow then p.followSet else 0)
    ∧ t.timecode = (if s.timecode.rate = p.frameRate ∧ s.intake.rate = p.rate then s.timecode
        else { rate := p.frameRate, anchorPosition := s.intake.position, anchorIndex := 0, jammed := false })
    ∧ (s.intake.rate = p.rate → t.intake = { s.intake with armMask := p.armMask, nextArm := none })
    ∧ (s.intake.rate ≠ p.rate → t.intake.Quiet
        ∧ t.intake = { s.intake with
            rate := p.rate, armMask := p.armMask, nextArm := none, clock := .lost, qualification := 0, lanes := t.intake.lanes
            meters := t.intake.meters, windowCount := 0, windowMax := t.intake.windowMax, fillStart := s.intake.position })

/-- The scan has stopped after the slots whose entries are `mirror` (R97–R99, R107): the next take index follows them, the cursor
is the larger of 4,097 and the greatest end of an extent, the records found OPEN are INTERRUPTED with their durable frames, and the
card is READY, with an amendment of each of them asked, or PROTECTED, with UNSAVED set on each. The station is in STANDBY, with the
next-arm mask applied (R7), or stays OFFLINE; slate, timecode, intake position, writer and verify unit stay as they are. -/
def State.EndsScan (s : State) (mirror : List MirrorSlot) (t : State) : Prop :=
  t.journal.nextIndex = mirror.length + 1 ∧ t.journal.mirror.length = mirror.length
    ∧ (∃ cursor, t.media = { s.media with
          mount := .none, state := if s.media.protectMark then .writeProtected else .ready, cursor := some cursor }
        ∧ 4097 ≤ cursor ∧ (∀ sl ∈ mirror, ∀ r ∈ sl.entry.record?, ∀ x ∈ r.extents, x.first + x.count ≤ cursor)
        ∧ (cursor = 4097 ∨ ∃ sl ∈ mirror, ∃ r ∈ sl.entry.record?, ∃ x ∈ r.extents, x.first + x.count = cursor))
    ∧ (∀ i sl, mirror[i]? = some sl →
        (sl.entry = .unreadable → t.slotAt (i + 1) = some sl)
        ∧ ∀ r, sl.entry = .record r →
          (r.state ≠ .opened → t.slotAt (i + 1) = some sl)
          ∧ (r.state = .opened → ∃ r', t.recordAt (i + 1) = some r'
            ∧ r' = { r with state := .interrupted, stop := none, digest := none, recorded := r.durable, flags := r'.flags }
            ∧ r'.flags = (if s.media.protectMark then setFlag .unsaved (setFlag .recovered r.flags) else setFlag .recovered r.flags)
            ∧ (s.media.protectMark = false → sl.held = false → sl.inFlight = false → t.Asked (.journalWrite (i + 1)) 1)))
    ∧ t.engine = { s.engine with
        takeState := if s.media.protectMark = false ∧ s.intake.clock = .running then .standby else .offline }
    ∧ t.intake = (if s.media.protectMark = false ∧ s.intake.clock = .running then
        { s.intake with armMask := s.intake.nextArm.getD s.intake.armMask, nextArm := none } else s.intake)
    ∧ t.verify = { s.verify with window := t.verify.window } ∧ (s.verify.window = [] → t.verify.window = [])
    ∧ t.link = s.link.enqueueState t.stateContent
    ∧ t = { s with journal := t.journal, media := t.media, engine := t.engine, intake := t.intake, port := t.port, verify := t.verify
                   link := t.link }

/-! ### Slates -/

/-- One stamp is greater than another: by its revision, and at equal revisions by its station (R63). -/
def SlateStamp.Beats (a b : SlateStamp) : Prop :=
  b.revision.toNat < a.revision.toNat ∨ (a.revision = b.revision ∧ b.station < a.station)

/-- A field after a NOTE with stamp `st` (R69): one whose stamp the NOTE's beats takes the NOTE's value and stamp, and every other
keeps its own. -/
def FieldMerged {α : Type} (st : SlateStamp) (new : Option α) (old : α) (oldStamp : SlateStamp) (now : α) (nowStamp : SlateStamp) :
    Prop :=
  (∀ v, new = some v → st.Beats oldStamp → now = v ∧ nowStamp = st)
    ∧ (new = none ∨ ¬ st.Beats oldStamp → now = old ∧ nowStamp = oldStamp)

/-- A slate after a NOTE, each of its five fields on its own (R69). -/
def Slate.Merged (sl : Slate) (st : SlateStamp) (fs : NoteFields) (now : Slate) : Prop :=
  FieldMerged st fs.scene sl.scene sl.sceneStamp now.scene now.sceneStamp
    ∧ FieldMerged st fs.number sl.number sl.numberStamp now.number now.numberStamp
    ∧ FieldMerged st fs.circled sl.circled sl.circledStamp now.circled now.circledStamp
    ∧ FieldMerged st fs.disposition sl.disposition sl.dispositionStamp now.disposition now.dispositionStamp
    ∧ FieldMerged st fs.text sl.text sl.textStamp now.text now.textStamp

/-- The record that a NOTE with target LAST is aimed at (R67): the open take's, else that of the slot below the next take index. -/
def State.LastTakeIs (s : State) (found : Option Nat) : Prop :=
  (∀ n, s.engine.openTake = some n → found = some n)
    ∧ (s.engine.openTake = none → ∀ n, found = some n ↔
        s.media.state ≠ .absent ∧ s.media.state ≠ .mounting ∧ 1 ≤ n ∧ s.journal.nextIndex = n + 1 ∧ (s.recordAt n).isSome = true)

/-- Record `n` holds a key: in its joined keys, or as the open take in the holder map (R68). -/
def State.HoldsKey (s : State) (key : TakeKey) (n : Nat) : Prop :=
  ∃ r, s.recordAt n = some r ∧ (key ∈ r.joined ∨ (s.engine.openTake = some n ∧ key ∈ s.engine.holders))

/-- The record that a NOTE with target KEY is aimed at (R68): the one with the highest index that holds the key. -/
def State.KeyedTakeIs (s : State) (key : TakeKey) (found : Option Nat) : Prop :=
  ∀ n, found = some n ↔ s.media.state ≠ .absent ∧ s.media.state ≠ .mounting ∧ s.HoldsKey key n ∧ ∀ m, n < m → ¬ s.HoldsKey key m

/-! ### Verifying -/

/-- A digest context after the position `k` of the read order is taken (R152). -/
def Verify.taking (v : Verify) (k : Nat) (x : WindowEntry) (d : Word32) : Word32 :=
  let amount := if k + 1 = v.blockCount then v.length - 4096 * k else 4096
  match x with
  | .held _ block => crc32Feed d (block.take amount)
  | .givenUp _ => crc32Feed d (List.replicate amount 0)
  | .waiting _ _ => d
  | .outstanding _ _ => d

/-- A digest context after the positions from `k` on are taken in order (R152). -/
def Verify.takingAll (v : Verify) : Nat → List WindowEntry → Word32 → Word32
  | _, [], d => d
  | k, x :: rest, d => v.takingAll (k + 1) rest (v.taking k x d)

/-- What a read leaves of its position: held with its block, or given up (R151). -/
def WindowEntry.after (attempt : Nat) : Option (List Byte) → WindowEntry
  | some block => .held attempt block
  | none => .givenUp attempt

/-- A window entry as it stood, but that a waiting read may have been granted (R120, R150). -/
def WindowEntry.AsStood (x y : WindowEntry) : Prop :=
  y = x ∨ ∃ op attempt, x = .waiting op attempt ∧ y = .outstanding op attempt

/-- Every entry of a window stands at its place, as it stood. -/
def WindowStands (old new : List WindowEntry) : Prop :=
  ∀ (i : Nat) (x : WindowEntry), old[i]? = some x → ∃ y, new[i]? = some y ∧ x.AsStood y

/-- The read of position `k`, at block `b`, stands at the port with this attempt, and window entry `i` knows it as waiting or as
outstanding (R150). -/
def State.ReadAsked (s : State) (i k b attempt : Nat) : Prop :=
  ∃ op : Op, op.kind = .verifyRead k b ∧ op.attempt = attempt
    ∧ ((op ∈ s.port.waiting ∧ s.verify.window[i]? = some (.waiting op.id attempt))
      ∨ (op ∈ s.port.outstanding ∧ s.verify.window[i]? = some (.outstanding op.id attempt)))

/-! ### Drawing -/

/-- The values of a record's tracks in a ring frame, in track order (R8). -/
def Record.tracks (r : Record) (f : RingFrame) : List Sample :=
  ((List.finRange 16).filter (fun (i : Fin 16) => r.armed.getLsbD i)).map (fun (i : Fin 16) => f.lanes[i])
    ++ (if r.mixPresent then [f.mixL, f.mixR] else [])

/-- The bytes of a frame as it is recorded (R130). -/
def Record.trackBytes (r : Record) (f : RingFrame) : List Byte := (r.tracks f).flatMap fun x => le 3 x.toNat

/-- The take being filled may draw its next-needed frame (R124): `e` is its queue entry, `r` its record, `f` the frame. -/
def State.MayDraw (s : State) (e : QueueEntry) (r : Record) (f : RingFrame) : Prop :=
  s.filling = some e ∧ s.entryOf e.index = some e ∧ s.recordAt e.index = some r ∧ s.intake.frameAt e.next = some f
    ∧ ((r.state = .opened ∧ e.next + s.intake.rate.hz / 2 < s.intake.position
        ∧ (s.engine.takeState = .rolling
          ∨ ∃ stop, s.engine.takeState = .tail ∧ s.engine.pendingStop = some stop ∧ e.next < stop))
      ∨ (r.state = .closing ∧ ∃ stop, r.stop = some stop ∧ e.next < stop))

/-- The take has a frame to draw after this one (R125). -/
def Record.GoesOn (r : Record) (w : Nat) : Prop := r.state = .opened ∨ ∃ stop, r.stop = some stop ∧ w + 1 < stop

/-- The frame at position `w` is accounted to a record (R12, R13, R125): its recorded frames, peaks and clip count move on, and each
armed lane without a valid word is noted, in ascending lane number (notes/assumptions/24). -/
def Record.Accounts (f : RingFrame) (w : Nat) (r r' : Record) : Prop :=
  r'.recorded = r.recorded + 1
    ∧ r'.peaks = List.zipWith max r.peaks ((r.tracks f).map fun x => x.toInt.natAbs)
    ∧ r'.clipCount = (if r.mixPresent = true ∧ f.clip = true then min 65535 (r.clipCount + 1) else r.clipCount)
    ∧ (∀ noted : Record, noted = ((List.finRange 16).filter fun (i : Fin 16) => r.armed.getLsbD i && f.invalid.getLsbD i).foldl
          (fun x (i : Fin 16) => x.dropout (w - r.start) i.val) r →
        r'.notes = noted.notes ∧ r'.flags = noted.flags)
    ∧ r' = { r with
        recorded := r'.recorded, peaks := r'.peaks, clipCount := r'.clipCount, notes := r'.notes, flags := r'.flags
        extents := r'.extents }

/-- A buffer of take `n` just opened with a run (R127, R128). -/
def Segment.opened (n : Nat) (run : Extent) (offset : Nat) (data : List Byte) : Segment where
  take := n
  sequence := none
  tag := none
  run := run
  blocksUsed := 0
  offset := offset
  writes := []
  failures := 0
  tapped := false
  orphan := false
  data := data

/-- The list with a run entered (R128): it lengthens the last extent when it begins where that one ends. -/
def withRun (run : Extent) (l : List Extent) : List Extent :=
  match l.getLast? with
  | some x => if x.first + x.count = run.first then l.dropLast ++ [{ first := x.first, count := x.count + run.count }] else l ++ [run]
  | none => [run]

/-- Take `e` was abandoned with a flag (R92, R143): its frames beyond the whole frames of its durable prefix count as lost. -/
def Record.AbandonedAs (flag : TakeFlag) (e : QueueEntry) (r r' : Record) : Prop :=
  r'.state = .interrupted ∧ r'.stop = none ∧ r'.digest = none ∧ hasFlag r'.flags flag = true
    ∧ r'.recorded = e.durBytes / r.frameBytes ∧ r'.lost = r.lost + (r.recorded - r'.recorded)

/-- A header rewrite was asked on a card whose header can be written, once (R111): a write of the header is asked, unless one waits
already; while one has been granted and has not completed, the pending flag is set. -/
def State.RewritesHeader (s t : State) : Prop :=
  t.media.headerInFlight = true
    ∧ (s.media.headerInFlight = false → t.media.headerPending = s.media.headerPending ∧ t.Asked .headerWrite 1)
    ∧ (s.media.headerInFlight = true → t.media.headerPending = (s.media.headerPending
        || (s.port.outstanding ++ s.port.waiting).any fun op => op.kind == .headerWrite && op.block.isSome))

/-- The media manager after bad block `b` was reported to it on a READY or FULL card (R110): a list below 480 entries takes the block
as GROWN, and at a full one DEFECTS OVERFLOWED is set. -/
def State.grown (s : State) (b : Nat) : State :=
  { s with media :=
      if s.media.defects.length < 480 then
        { s.media with defects := insertDefect { block := b, grown := true } s.media.defects }
      else { s.media with overflowed := true } }

/-- Runs asked one after another for `left` blocks (R112, R139): those answered in `runs`, after which `uncovered` blocks are left. -/
def State.AnswersRuns (left : Nat) (runs : List Extent) (uncovered : Nat) (t s : State) : Prop :=
  match runs with
  | [] => uncovered = left ∧ t = s
  | run :: rest =>
    0 < left ∧ ∃ s', s.allocate left = some (run, s') ∧ State.AnswersRuns (left - run.count) rest uncovered t s'

/-- The blocks of an extent list, in order. -/
def blocksOf (l : List Extent) : List Nat := l.flatMap fun e => (List.range e.count).map (e.first + ·)

/-- The command of a request kind. -/
def RequestKind.command (k : RequestKind) (w : Wire) : Instr :=
  match k with
  | .queryStatus => .queryStatus w
  | .queryMeters => .queryMeters w
  | .queryTake => .queryTake w
  | .searchJournal => .searchJournal w
  | .arm => .arm w
  | .mix => .mix w
  | .verifyTake => .verifyTake w
  | .prepareMedia => .prepareMedia w
  | .releaseMedia => .releaseMedia w
  | .abort => .abort w

/-- The wire carries a REQUEST of kind `k` that this station takes (R163, R164, R174). -/
abbrev State.TakesRequest (s : State) (k : RequestKind) (w : Wire) (f : Frame) (q : Request) : Prop :=
  s.takenFrame .request w = some f ∧ decodeRequest f.sender f.payload = some q ∧ q.code = k.code

/-- The REPORT that answers a request (R175). -/
def Request.report (q : Request) (outcome : OutcomeClass) (detail : Detail) (reply : List Byte) : Report :=
  { dest := q.sender, tag := q.tag, kind := q.code, outcome := outcome, detail := detail, reply := reply }

/-- The final REPORT of a long operation (R192). -/
def Requester.report (who : Requester) (k : RequestKind) (outcome : OutcomeClass) (detail : Detail) (reply : List Byte) :
    Report :=
  { dest := who.station, tag := who.tag, kind := k.code, outcome := outcome, detail := detail, reply := reply }

/-! ### What a reply carries -/

/-- The payload of a BUSY REPORT (R175, 11.1): the state of the long-operation slot, the index of the take under verify or 0
(notes/assumptions/12), the station take state, and the number of takes in the writer queue. -/
def State.busyPayload (s : State) : List Byte :=
  [match s.verify.slot with | .idle => (0 : Byte) | .verifying _ _ => 1 | .preparing _ _ => 2 | .releasing _ => 3]
    ++ le 2 (match s.verify.slot with | .verifying _ n => n | .idle => 0 | .preparing _ _ => 0 | .releasing _ => 0)
    ++ [match s.engine.takeState with | .offline => (0 : Byte) | .standby => 1 | .rolling => 2 | .tail => 3]
    ++ le 1 s.writer.queue.length

/-- The reply of an applied MIX (R188, 11.1): the routing and the gain code of lanes 0 to 15, lane by lane
(notes/assumptions/12). -/
def Intake.mixPayload (i : Intake) : List Byte :=
  (List.finRange 16).flatMap fun (lane : Fin 16) =>
    [match i.routing[lane] with | .off => (0 : Byte) | .l => 1 | .r => 2 | .both => 3, i.gain[lane]]

/-- The code of a record state (11.1). -/
def RecordState.number : RecordState → Nat
  | .opened => 1
  | .closed => 2
  | .interrupted => 3
  | .verified => 4
  | .damaged => 5
  | .closing => 6

/-- The byte of a rate code (11.1). -/
def RateCode.number : RateCode → Nat
  | .r24 => 24
  | .r25 => 25
  | .r30 => 30
  | .df => 29

/-- An optional quantity of `n` bytes (11.1). -/
def optionally (n : Nat) : Option (List Byte) → List Byte
  | none => List.replicate (n + 1) 0
  | some bytes => 1 :: bytes

/-- The five fields of a slate, each with its stamp (R183). -/
def Slate.fieldsReply (sl : Slate) : List Byte :=
  let stamp (st : SlateStamp) : List Byte := le 2 st.revision.toNat ++ le 1 st.station
  le 1 sl.scene.length ++ sl.scene ++ stamp sl.sceneStamp ++ le 2 sl.number ++ stamp sl.numberStamp
    ++ [if sl.circled then (1 : Byte) else 0] ++ stamp sl.circledStamp
    ++ [match sl.disposition with | .none => (0 : Byte) | .falseStart => 1 | .wild => 2 | .noGood => 3] ++ stamp sl.dispositionStamp
    ++ le 1 sl.text.length ++ sl.text ++ stamp sl.textStamp

/-- The bytes of a take's durable prefix: of its queue entry (R136), or those that an abandoned take kept
(notes/assumptions/21). -/
def State.prefixBytes (s : State) (n : Nat) : Option Nat :=
  match s.entryOf n with
  | some e => some e.durBytes
  | none => (s.slotAt n).bind (·.keptBytes)

/-- The first `d` entries of a take's extent list are those of its durable prefix (R85, R184): the fewest whose blocks hold the
prefix's bytes, and all of them for a record that has no prefix of its own (notes/assumptions/15). -/
def State.DurableEntries (s : State) (r : Record) (d : Nat) : Prop :=
  match s.prefixBytes r.index with
  | none => d = r.extents.length
  | some bytes =>
    d ≤ r.extents.length
      ∧ (d = r.extents.length ∨ (bytes + 4095) / 4096 ≤ ((r.extents.take d).map (·.count)).sum)
      ∧ ∀ j, j < d → ((r.extents.take j).map (·.count)).sum < (bytes + 4095) / 4096

/-- The reply of a section of QUERY TAKE (R182–R184), as 11.3 lays it out (notes/assumptions/12). -/
def State.TakeReply (s : State) (r : Record) (section_ entry : Nat) (reply : List Byte) : Prop :=
  let opens := s.engine.openTake = some r.index
  let head := le 2 r.index ++ le 1 r.state.number
  let key (k : TakeKey) : List Byte := le 1 k.origin ++ le 2 k.roll.toNat
  (section_ = 0 → ∃ stations : Word32, (∀ i < 32, stations.getLsbD i = s.engine.holders.any fun h => h.origin == i)
    ∧ reply = head ++ le 2 r.generation ++ key r.key ++ le 2 (r.continues.getD 0) ++ le 4 r.flags.toNat ++ le 6 r.start
        ++ labelBytes r.startLabel ++ optionally 6 (r.stop.map (le 6)) ++ le 6 r.recorded ++ le 6 r.lost ++ le 6 r.durable
        ++ le 2 r.armed.toNat ++ [if r.mixPresent then (1 : Byte) else 0] ++ le 4 r.rate.hz ++ le 1 r.frameBytes
        ++ optionally 4 (r.digest.map fun d => le 4 d.toNat) ++ r.peaks.flatMap (le 3) ++ le 2 r.clipCount
        ++ (le 1 r.joined.length ++ r.joined.flatMap key)
        ++ optionally 4 (if opens then some (le 4 stations.toNat ++ s.engine.holders.flatMap fun h => le 2 h.roll.toNat) else none)
        ++ optionally 6 (if opens then s.engine.pendingStop.map (le 6) else none))
    ∧ (section_ = 1 → reply = head ++ r.slate.fieldsReply ++ le 4 r.flags.toNat)
    ∧ (section_ = 2 → reply = head
        ++ (le 1 r.markers.length ++ r.markers.flatMap fun m => le 4 m.frame ++ le 1 m.kind ++ le 1 m.origin)
        ++ [if hasFlag r.flags .markersDropped then (1 : Byte) else 0])
    ∧ (section_ = 3 → reply = head
        ++ (le 1 r.notes.length ++ r.notes.flatMap fun x =>
          match x with
          | .gap f n => [(0 : Byte), 0] ++ le 4 f ++ le 4 n
          | .dropout lane f n => [(1 : Byte)] ++ le 1 lane ++ le 4 f ++ le 4 n)
        ++ le 6 r.lost ++ [if hasFlag r.flags .notesDropped then (1 : Byte) else 0])
    ∧ (section_ = 4 → ∃ (d : Nat) (page : List Extent), s.DurableEntries r d ∧ page = (r.extents.drop (entry - 1)).take 24
        ∧ reply = head ++ le 1 r.extents.length ++ le 1 d
          ++ (le 1 page.length ++ page.flatMap fun x => le 4 x.first ++ le 4 x.count)
          ++ le 1 (if entry + 23 < r.extents.length then entry + 24 else 0))

/-- The value of a record's field, as a sequence of numbers in the order in which they are compared (R186). -/
def Record.searchValue (r : Record) (fieldCode : Nat) : List Nat :=
  match fieldCode with
  | 0 => r.slate.scene.map (·.toNat)
  | 1 => [r.slate.number]
  | 2 => [r.startLabel.hh, r.startLabel.mm, r.startLabel.ss, r.startLabel.ff]
  | 3 => [if r.slate.circled then 1 else 0]
  | 4 => [r.state.number]
  | _ => [r.key.origin]

/-- A record's field stands in a relation to a search key (R186): EQUAL 0, NOT EQUAL 1, AT MOST 2, AT LEAST 3, with sequences
compared at their first difference, and one that runs out first the lesser. -/
def Record.Matches (r : Record) (fieldCode relation : Nat) (key : List Byte) : Prop :=
  let value := r.searchValue fieldCode
  let sought := if fieldCode = 0 ∨ fieldCode = 2 then key.map (·.toNat) else [fromLe key]
  match relation with
  | 0 => value = sought
  | 1 => value ≠ sought
  | 2 => ¬ sought < value
  | _ => ¬ value < sought

/-- The arguments of a SEARCH JOURNAL are out of the ranges of R185, by the codes of 11.3: its field, relation, start index and count,
and its key. -/
def SearchOutOfRange (fieldCode relation start count : Nat) (key : List Byte) : Prop :=
  5 < fieldCode ∨ 3 < relation ∨ start = 0 ∨ 4096 < start ∨ 16 < count
    ∨ (fieldCode = 0 ∧ 8 < key.length)
    ∨ (fieldCode = 1 ∧ 999 < fromLe key)
    ∨ (fieldCode = 2 ∧ (23 < field key 0 1 ∨ 59 < field key 1 1 ∨ 59 < field key 2 1 ∨ 29 < field key 3 1))
    ∨ (fieldCode = 3 ∧ 1 < fromLe key)
    ∨ (fieldCode = 4 ∧ (fromLe key = 0 ∨ 6 < fromLe key ∨ 1 < relation))
    ∨ (fieldCode = 5 ∧ 31 < fromLe key)

/-! ### What a PREPARE MEDIA asks -/

/-- The profile of a PREPARE MEDIA's arguments, each value in the range of R105. -/
def ProfileAsked (args : List Byte) (p : Profile) : Prop :=
  p.rate.hz = field args 0 4
    ∧ p.frameRate.number = field args 4 1
    ∧ p.armMask.toNat = field args 5 2 ∧ p.armMask ≠ 0
    ∧ (if p.mixEnable then 1 else 0) = field args 7 1
    ∧ p.preRoll = field args 8 1 ∧ p.preRoll ≤ 100 ∧ p.postRoll = field args 9 1 ∧ p.postRoll ≤ 100
    ∧ p.maxLength = field args 10 1 ∧ 1 ≤ p.maxLength ∧ p.maxLength ≤ 240
    ∧ p.followSet.toNat = field args 11 4 ∧ p.followSet.getLsbD 0 = false ∧ p.followSet.getLsbD 31 = false

/-- The defect list of a PREPARE MEDIA passes its checks (R117): strictly ascending, within the audio region, and with the GROWN
entries of the current list at most 480. -/
def State.DefectsAdmitted (s : State) (blocks : List Nat) : Prop :=
  blocks.Pairwise (· < ·) ∧ (∀ b ∈ blocks, 4097 ≤ b ∧ b < s.media.capacity.getD 0)
    ∧ (s.media.defects.filter (·.grown)).length
        + (blocks.filter fun b => !s.media.defects.any fun d => d.grown && d.block == b).length ≤ 480

/-! ### What the card can carry -/

/-- A recording profile within the ranges of R105. -/
abbrev Profile.Valid (p : Profile) : Prop :=
  p.armMask ≠ 0 ∧ p.preRoll ≤ 100 ∧ p.postRoll ≤ 100 ∧ 1 ≤ p.maxLength ∧ p.maxLength ≤ 240
    ∧ p.followSet.getLsbD 0 = false ∧ p.followSet.getLsbD 31 = false

/-- A header within the ranges of R105 and R109 on a card of `capacity` blocks. -/
abbrev Header.Valid (capacity : Nat) (h : Header) : Prop :=
  1 ≤ h.generation ∧ h.generation ≤ 65535 ∧ h.profile.Valid ∧ h.defects.length ≤ maxDefects
    ∧ defectBlocksValid capacity (h.defects.map (·.block)) = true

/-- A slate within the ranges of R198. -/
abbrev Slate.Valid (sl : Slate) : Prop :=
  sl.Fits ∧ sl.number < 2 ^ 16
    ∧ ∀ st ∈ [sl.sceneStamp, sl.numberStamp, sl.circledStamp, sl.dispositionStamp, sl.textStamp], st.station ≤ 30

abbrev Marker.Valid (m : Marker) : Prop := m.frame < 2 ^ 32 ∧ m.kind ≤ 15 ∧ m.origin < 2 ^ 8

def DefectNote.valid : DefectNote → Bool
  | .gap f n => decide (f < 2 ^ 32) && decide (n < 2 ^ 32)
  | .dropout lane f n => decide (lane ≤ 15) && decide (f < 2 ^ 32) && decide (n < 2 ^ 32)

/-- The stop and the digest of a record as it stands on the card: present in the settled states alone (R85, R198). -/
abbrev Record.EndValid (r : Record) : Prop :=
  if r.state.settled then
    r.digest.isSome = true ∧ r.durable = r.recorded
      ∧ ∃ stop ∈ r.stop, r.start ≤ stop ∧ stop < positionLimit ∧ r.recorded + r.lost = stop - r.start
  else r.stop = none ∧ r.digest = none

/-- A record within the ranges of R198 on a card of `capacity` blocks, as a journal write composes it (R85). -/
abbrev Record.Valid (capacity : Nat) (r : Record) : Prop :=
  1 ≤ r.index ∧ r.index ≤ journalSlots ∧ 1 ≤ r.generation ∧ r.generation ≤ 65535 ∧ r.state ≠ .closing
    ∧ r.key.origin ≤ 31 ∧ (∀ n ∈ r.continues, 1 ≤ n ∧ n < r.index) ∧ r.start < positionLimit ∧ r.EndValid
    ∧ labelValid r.labelRate r.startLabel = true ∧ r.durable ≤ r.recorded ∧ r.recorded + r.lost < positionLimit
    ∧ r.armed ≠ 0 ∧ r.frameBytes = frameBytesOf r.armed r.mixPresent
    ∧ r.peaks.length = trackCount r.armed r.mixPresent ∧ (∀ p ∈ r.peaks, p < 2 ^ 24) ∧ r.clipCount < 2 ^ 16
    ∧ r.Fits ∧ r.joined ≠ [] ∧ (∀ k ∈ r.joined, k.origin < 2 ^ 8) ∧ r.slate.Valid
    ∧ (∀ m ∈ r.markers, m.Valid) ∧ (∀ n ∈ r.notes, n.valid = true)
    ∧ ∀ e ∈ r.extents, 1 ≤ e.count ∧ audioFirst ≤ e.first ∧ e.first + e.count ≤ capacity

end Sys2Proof.Machine
end

