-- ==== Sys2Proof/Certificates/Slice0/Obligations.lean ====
section
/-! DEFINITION. The statements about the ET416 that are to be proved. -/

open Sys2Proof Sys2Proof.Machine

/-! ### Steps, commands and reset -/

/-- What a step does on this part (notes/assumptions/6): the command at the front of the queue takes its effect with the rest of the
queue in place, and an empty queue idles. -/
def Obligations.StepRunsTheFrontCommand : Prop :=
  (∀ (s : State) (c : Instr) (rest : List Instr), s.pending = c :: rest → step s = exec c (s.withPending rest))
    ∧ ∀ s : State, s.pending = [] → step s = .next s

/-- Every command completes in every state: none stops the part, and none touches the queue of commands. -/
def Obligations.EveryCommandCompletesAndKeepsTheQueue : Prop :=
  ∀ (c : Instr) (s : State), ∃ t, exec c s = .next t ∧ t.pending = s.pending

/-- RESET: the after-reset values of R1, R2, R5, R6, R9, R11, R14, R21, R37, R40, R49, R51, R63, R83, R84, R102, R106, R109, R111, R112,
R120, R122, R123, R126, R147, R158, R159, R169, R170 and R172, with the strap levels sampled. -/
def Obligations.ResetRestoresEveryBlock : Prop :=
  ∀ (straps : Straps) (s : State), ∃ t, exec (.reset straps) s = .next t
    ∧ (t.intake.clock = .lost ∧ t.intake.qualification = 0 ∧ t.intake.rate = .hz48000 ∧ t.intake.position = 0
      ∧ t.intake.armMask = 0 ∧ t.intake.nextArm = none ∧ t.intake.windowCount = 0 ∧ t.intake.fillStart = 0
      ∧ (∀ i : Fin 16, t.intake.lanes[i] = .off ∧ t.intake.routing[i] = .off ∧ t.intake.gain[i] = 128)
      ∧ (∀ k : Fin 18, t.intake.meters[k] = 0 ∧ t.intake.windowMax[k] = 0) ∧ ∀ p, t.intake.frameAt p = none)
    ∧ t.timecode = { rate := .r25, anchorPosition := 0, anchorIndex := 0, jammed := false }
    ∧ (t.engine.takeState = .offline ∧ t.engine.openTake = none ∧ t.engine.holders = [] ∧ t.engine.pendingStop = none
      ∧ (∀ i : Fin 30, t.engine.lastRoll[i] = none) ∧ t.engine.ownRoll = 0 ∧ t.engine.refusal = none ∧ t.engine.followSet = 0
      ∧ t.engine.rollLine = none ∧ t.engine.markLine = none ∧ t.engine.rollRiseTaken = false)
    ∧ t.slate = Slate.unset ∧ t.journal = { mirror := [], nextIndex := 1 }
    ∧ (t.media.state = .absent ∧ t.media.defects = [] ∧ t.media.profile = none ∧ t.media.cursor = none
      ∧ t.media.capacity = none ∧ t.media.headerImage = none ∧ t.media.generation = none ∧ t.media.overflowed = false
      ∧ t.media.protectMark = false ∧ t.media.headerInFlight = false ∧ t.media.headerPending = false
      ∧ t.media.headerProfile = none ∧ t.media.mount = .none)
    ∧ (t.port.waiting = [] ∧ t.port.outstanding = [])
    ∧ (t.writer.queue = [] ∧ ∀ i : Fin 8, t.writer.buffers[i] = .free)
    ∧ (t.verify.slot = .idle ∧ t.verify.cursor = 0 ∧ t.verify.blockCount = 0 ∧ t.verify.badBlocks = 0 ∧ t.verify.shortfall = false
      ∧ t.verify.window = [] ∧ t.verify.digest = none)
    ∧ (t.link.station = straps.stn.toNat ∧ t.link.role = (if straps.role then .localOnly else .follow)
      ∧ t.link.jamen = straps.jamen ∧ t.link.queue = [] ∧ t.link.owed = false ∧ t.link.linkTrouble = false
      ∧ t.link.conflict = false ∧ t.link.initialDue = true ∧ t.link.driving = none)

/-! ### Lane intake and capture ring -/

/-- FRAME_STORE. `u` is the state after the events that were due at the frame before (notes/assumptions/5). Past the top of the
48-bit position the new position is a free value (notes/assumptions/2). That a store with the clock LOST or an invalid period
changes nothing is the model's reading (notes/assumptions/4): R2 makes an invalid period a clock loss, which has a command of its
own. -/
def Obligations.FrameStoreStoresOneFrame : Prop :=
  ∀ (interval : Nat) (words : Vector (Option Sample) 16) (s u : State), u = s.settleDue →
    (u.intake.clock = .running → periodValid u.intake.rate interval = true →
      ∃ t, exec (.frameStore interval words) s = .next t
        ∧ t.intake.position = (if u.intake.position + 1 < 2 ^ 48 then u.intake.position + 1
            else (Config.positionPastTop u.freeDraws).toNat)
        ∧ (u.intake.position + 1 < 2 ^ 48 → u.intake.fillStart ≤ u.intake.position →
            t.intake.frameAt u.intake.position = some (u.intake.formFrame words))
        ∧ (u.intake.position + 1 < 2 ^ 48 → ∀ q, q < u.intake.position → t.intake.oldestHeld ≤ q →
            t.intake.frameAt q = u.intake.frameAt q)
        ∧ (∀ i : Fin 16, t.intake.lanes[i] =
            if words[i].isSome then .active else if u.intake.lanes[i] = .off then .off else .lost)
        ∧ t.intake.windowCount = u.intake.windowCount + 1
        ∧ (∀ k : Fin 18, t.intake.windowMax[k] = max u.intake.windowMax[k] ((u.intake.formFrame words).level k))
        ∧ t.intake = { u.intake with
            position := t.intake.position, lanes := t.intake.lanes, windowCount := t.intake.windowCount
            windowMax := t.intake.windowMax, ring := t.intake.ring }
        ∧ t = { u with
            intake := t.intake, journal := t.journal, port := t.port, writer := t.writer, verify := t.verify
            freeDraws := t.freeDraws })
    ∧ (u.intake.clock = .lost ∨ periodValid u.intake.rate interval = false →
        exec (.frameStore interval words) s = .next s)

/-- The frame that a period gives (R1, R8, R10): stored values, the invalid set, the saturated buses and the clip mark. -/
def Obligations.FormedFrameFollowsTheMixRule : Prop :=
  ∀ (i : Intake) (words : Vector (Option Sample) 16) (sum : (Routing → Bool) → Int),
    (∀ feeds, sum feeds = ((List.finRange 16).map fun (t : Fin 16) =>
      if i.armMask.getLsbD t = true ∧ feeds i.routing[t] = true then
        (((words[t].getD 0).toInt * ((i.gain[t]).toNat : Int) + 64) / 128 : Int) else 0).sum) →
    (∀ t : Fin 16, (i.formFrame words).lanes[t] = words[t].getD 0
        ∧ (i.formFrame words).invalid.getLsbD t = words[t].isNone)
      ∧ (i.formFrame words).mixL.toInt = max (-8388608) (min 8388607 (sum Routing.feedsL))
      ∧ (i.formFrame words).mixR.toInt = max (-8388608) (min 8388607 (sum Routing.feedsR))
      ∧ (∀ x, Routing.feedsL x = (x == .l || x == .both) ∧ Routing.feedsR x = (x == .r || x == .both))
      ∧ ((i.formFrame words).clip = true ↔
          ∃ x ∈ [sum Routing.feedsL, sum Routing.feedsR], x < -8388608 ∨ 8388607 < x)

/-- FRAME_STORE, the charges of R15. `u` is the state after the events that were due at the frame before (notes/assumptions/5). A queued
take that still needs a frame older than the store leaves in the ring is charged, as R16 states, for every such frame below its stop,
and its next-needed frame moves past them; at its stop a CLOSING take has no more to draw, and its last buffer is sealed. Every other
queued take keeps its next-needed frame and its record. So no queued take waits for a frame that the ring has no place for. The order in
which the takes are charged is the model's choice (notes/assumptions/30), and shows only in the order of the writes that their stops
ask. -/
def Obligations.StoreChargesEveryTakeThatFellBehind : Prop :=
  ∀ (interval : Nat) (words : Vector (Option Sample) 16) (s u t : State), u = s.settleDue →
    u.intake.clock = .running → periodValid u.intake.rate interval = true → u.intake.position + 1 < 2 ^ 48 → u.QueueSound →
    exec (.frameStore interval words) s = .next t →
      (∀ e ∈ t.writer.queue, t.needsFrames e = true → t.intake.position ≤ e.next + ringSlots)
      ∧ ∀ e r oldest, u.port.Sound → e ∈ u.writer.queue → u.recordAt e.index = some r →
        oldest = u.intake.position + 1 - 524288 →
        (∀ upTo, e.next < oldest →
          (r.state = .opened ∧ upTo = oldest
            ∨ ∃ stop, r.state = .closing ∧ r.stop = some stop ∧ e.next < stop ∧ upTo = min oldest stop) →
          ∃ e' r', t.entryOf e.index = some e' ∧ t.recordAt e.index = some r'
            ∧ e' = { e with next := upTo, current := e'.current, sealedSegs := e'.sealedSegs, digest := e'.digest }
            ∧ r' = { r.charge (e.next - r.start) (upTo - e.next) with extents := r'.extents, durable := r'.durable }
            ∧ (r.state = .opened ∨ r.stop ≠ some upTo →
                r' = r.charge (e.next - r.start) (upTo - e.next) ∧ e'.current = e.current ∧ e'.sealedSegs = e.sealedSegs)
            ∧ (r.state = .closing → r.stop = some upTo → u.EndsDrawing e r upTo t r'))
        ∧ (oldest ≤ e.next ∨ (r.state = .closing ∧ ∀ stop, r.stop = some stop → stop ≤ e.next) →
          ∃ d, t.entryOf e.index = some { e with digest := d } ∧ t.recordAt e.index = some r)

/-- R16: what a charge of `k` lost frames at take-relative frame `q` does to a record. -/
def Obligations.ChargeCountsAndNotesLostFrames : Prop :=
  ∀ (r : Record) (q k : Nat),
    (r.charge q k).lost = r.lost + k
      ∧ (∀ before after f n, r.notes = before ++ DefectNote.gap f n :: after → after.all (fun x => !x.isGap) = true →
          f + n = q → (r.charge q k).notes = before ++ DefectNote.gap f (n + k) :: after ∧ (r.charge q k).flags = r.flags)
      ∧ ((∀ before after f n, r.notes = before ++ DefectNote.gap f n :: after → after.all (fun x => !x.isGap) = true →
            f + n ≠ q) →
          (r.notes.length < 16 → (r.charge q k).notes = r.notes ++ [.gap q k] ∧ (r.charge q k).flags = r.flags)
            ∧ (16 ≤ r.notes.length →
                (r.charge q k).notes = r.notes ∧ (r.charge q k).flags = setFlag .notesDropped r.flags))

/-- CLOCK_LOSS (R2, R11, R57). That an event which is no loss, and one while the clock counts below 64 in LOST, changes nothing is the
model's reading (notes/assumptions/4): R3 sets the count back by a period of its own, QUALIFYING_PERIOD. -/
def Obligations.ClockLossStopsIntakeAndCutsTheTake : Prop :=
  ∀ (why : ClockFault) (s : State), s.Coherent → s.port.Sound →
    (s.intake.clock = .running → faultIsLoss s.intake.rate why = true →
      ∃ t, exec (.clockLoss why) s = .next t
        ∧ t.intake.Quiet
        ∧ t.intake = { s.intake with
            clock := .lost, qualification := 0, lanes := t.intake.lanes, meters := t.intake.meters, windowCount := 0
            windowMax := t.intake.windowMax }
        ∧ t.engine = { s.engine with
            takeState := .offline, openTake := none, holders := t.engine.holders, pendingStop := none }
        ∧ (∀ n r, s.engine.openTake = some n → s.recordAt n = some r →
            t.engine.holders = []
              ∧ ∃ e, s.entryOf n = some e ∧ s.ClosesAt e (r.flag .clockLost) (max r.start s.intake.position) t)
        ∧ t.link = s.link.enqueueState t.stateContent
        ∧ t = { s with
            intake := t.intake, engine := t.engine, journal := t.journal, port := t.port, writer := t.writer, link := t.link })
    ∧ (s.intake.clock = .running → faultIsLoss s.intake.rate why = false → exec (.clockLoss why) s = .next s)
    ∧ (s.intake.clock = .lost → s.intake.qualification < 64 → exec (.clockLoss why) s = .next s)

/-- QUALIFYING_PERIOD (R3): the count rises, or falls back to 0. CLOCK_RETURN: at 64 the clock is RUNNING, and the station STANDBY when its
media is READY (R38, R7). METER_WINDOW_COMPLETE (R11): fs/10 frames make a window. That the clock stays LOST at a count of 64 until its
CLOCK_RETURN is taken is the model's choice (notes/assumptions/5), and that CLOCK_RETURN and METER_WINDOW_COMPLETE change nothing
before they are due is its reading (notes/assumptions/4). -/
def Obligations.ClockReturnsAndMeterWindowsComplete : Prop :=
  (∀ s : State, s.intake.clock = .lost →
      (∀ interval, s.intake.qualification < 64 → exec (.qualifyingPeriod interval) s = .next { s with intake := { s.intake with
          qualification := if periodValid s.intake.rate interval = true then s.intake.qualification + 1 else 0 } })
      ∧ (s.intake.qualification < 64 → exec .clockReturn s = .next s)
      ∧ (64 ≤ s.intake.qualification → s.engine.takeState = .offline →
          ∃ t, exec .clockReturn s = .next t
            ∧ t.engine = { s.engine with takeState := if s.media.state = .ready then .standby else .offline }
            ∧ t.intake = { s.intake with
                clock := .running
                armMask := if s.media.state = .ready then s.intake.nextArm.getD s.intake.armMask else s.intake.armMask
                nextArm := if s.media.state = .ready then none else s.intake.nextArm }
            ∧ t.link = s.link.enqueueState t.stateContent
            ∧ t = { s with intake := t.intake, engine := t.engine, link := t.link }))
    ∧ (∀ s : State,
        (s.intake.rate.hz / 10 ≤ s.intake.windowCount →
          ∃ t, exec .meterWindowComplete s = .next t
            ∧ (∀ k : Fin 18, t.intake.meters[k] = s.intake.windowMax[k] ∧ t.intake.windowMax[k] = 0) ∧ t.intake.windowCount = 0
            ∧ t = { s with intake := { s.intake with
                meters := t.intake.meters, windowMax := t.intake.windowMax, windowCount := 0 } })
        ∧ (s.intake.windowCount < s.intake.rate.hz / 10 → exec .meterWindowComplete s = .next s))

/-! ### Timecode unit -/

/-- R24 and R25: the label of an index, and the index of a label, each the other's inverse. -/
def Obligations.LabelsAndIndicesAreInverse : Prop :=
  (∀ (c : RateCode) (f : Nat), f < c.perDay →
      (∀ k, k = (if c = .df then
            f + (if f % 17982 < 2 then 18 * (f / 17982) else 18 * (f / 17982) + 2 * ((f % 17982 - 2) / 1798)) else f) →
          labelOf c f = { hh := k / c.nominal / 3600, mm := k / c.nominal / 60 % 60, ss := k / c.nominal % 60, ff := k % c.nominal })
        ∧ labelValid c (labelOf c f) = true ∧ indexOf c (labelOf c f) = f)
    ∧ (∀ (c : RateCode) (l : Label), labelValid c l = true →
        indexOf c l = (((l.hh * 60 + l.mm) * 60 + l.ss) * c.nominal + l.ff
            - if c = .df then 2 * ((60 * l.hh + l.mm) - (60 * l.hh + l.mm) / 10) else 0)
          ∧ indexOf c l < c.perDay ∧ labelOf c (indexOf c l) = l)

/-- From stamp to point, and from point to start, stop and marker position. R27: one step of a day brings the difference of two
indices into the window of half a day either way. R26, R28, R29: a stamp that is absent, of another rate code or invalid gives the
intake position, and an admitted one its own position unless that lies more than fs/2 ahead. R30: the start, no earlier than
480,000 frames before the intake position and than 0. R31: the stop, no earlier than the start. R32: the marker position. R33: the own
index of the position that an admitted stamp gives is the stamp's own index, and under DF the index before it when the difference is no
multiple of 5. -/
def Obligations.StampsBecomePositionsAndBack : Prop :=
  (∀ (c : RateCode) (f fa : Nat) (half d : Int), f < c.perDay → fa < c.perDay →
    half = (c.perDay : Int) / 2 → d = (f : Int) - (fa : Int) →
    -half ≤ wrapDifference c d ∧ wrapDifference c d < half
      ∧ (half ≤ d → wrapDifference c d = d - c.perDay) ∧ (d < -half → wrapDifference c d = d + c.perDay)
      ∧ (-half ≤ d → d < half → wrapDifference c d = d))
    ∧ (∀ (tc : Timecode) (r : SampleRate) (n : Nat) (st : Stamp),
      (st.label = none → convertStamp tc r n st = { position := n, rateMismatch := false, clamped := false })
      ∧ ∀ l, st.label = some l →
        (rateOfByte st.rate ≠ some tc.rate → convertStamp tc r n st = { position := n, rateMismatch := true, clamped := false })
        ∧ (rateOfByte st.rate = some tc.rate → labelValid tc.rate l = false →
            convertStamp tc r n st = { position := n, rateMismatch := false, clamped := false })
        ∧ ∀ d p : Int, rateOfByte st.rate = some tc.rate → labelValid tc.rate l = true →
            d = wrapDifference tc.rate ((indexOf tc.rate l : Int) - tc.anchorIndex) →
            p = tc.anchorPosition + (if tc.rate = .df then d * r.hz * 1001 / 30000 else d * r.hz / tc.rate.nominal) →
            (p ≤ n + (r.hz : Int) / 2 →
              convertStamp tc r n st = { position := p, rateMismatch := false, clamped := false })
            ∧ (n + (r.hz : Int) / 2 < p →
              convertStamp tc r n st = { position := n, rateMismatch := false, clamped := true }))
    ∧ (∀ (r : SampleRate) (preRoll n : Nat) (rollPoint earliest : Int), earliest = max 0 ((n : Int) - 480000) →
        ((takeStart r preRoll n rollPoint).1 : Int) = max earliest (rollPoint - preRoll * r.hz / 10)
          ∧ ((takeStart r preRoll n rollPoint).2 = true ↔ rollPoint - preRoll * r.hz / 10 < earliest))
    ∧ (∀ (r : SampleRate) (postRoll start : Nat) (cutPoint : Int),
        (takeStop r postRoll start cutPoint : Int) = max (start : Int) (cutPoint + postRoll * r.hz / 10))
    ∧ (∀ (start n : Nat) (markPoint : Int),
        (n < start → markerPosition start n markPoint = start)
          ∧ (start ≤ n → (markerPosition start n markPoint : Int) = min (n : Int) (max (start : Int) markPoint)))
    ∧ ∀ (tc : Timecode) (r : SampleRate) (n p : Nat) (st : Stamp) (l : Label) (d : Int),
      tc.anchorIndex < tc.rate.perDay → st.label = some l → rateOfByte st.rate = some tc.rate → labelValid tc.rate l = true →
      convertStamp tc r n st = { position := p, rateMismatch := false, clamped := false } →
      d = wrapDifference tc.rate ((indexOf tc.rate l : Int) - tc.anchorIndex) →
        (ownIndex tc r p : Int) =
          if tc.rate = .df ∧ d % 5 ≠ 0 then ((indexOf tc.rate l : Int) - 1) % tc.rate.perDay else indexOf tc.rate l

/-- JAM (R35, R36). -/
def Obligations.JamSetsTheAnchorOrIsIgnored : Prop :=
  ∀ (w : Wire) (s : State) (f : Frame) (l : Label), s.takenFrame .jam w = some f → l = labelAtOffset f.payload 0 →
    (s.link.jamen = true ∧ (s.engine.takeState = .offline ∨ s.engine.takeState = .standby)
        ∧ rateOfByte (BitVec.ofNat 8 (field f.payload 4 1)) = some s.timecode.rate ∧ labelValid s.timecode.rate l = true →
      exec (.jam w) s = .next { s.noteConflict f with timecode :=
        { rate := s.timecode.rate, anchorPosition := s.intake.position, anchorIndex := indexOf s.timecode.rate l
          jammed := true } })
    ∧ (s.link.jamen = false ∨ s.engine.takeState = .rolling ∨ s.engine.takeState = .tail
        ∨ rateOfByte (BitVec.ofNat 8 (field f.payload 4 1)) ≠ some s.timecode.rate ∨ labelValid s.timecode.rate l = false →
      exec (.jam w) s = .next (s.noteConflict f))

/-! ### Take engine -/

/-- ROLL, where no take opens (R40–R42): a stale one changes nothing, a fresh one of an origin that is not followed only its last-roll
entry, and one that would open a take is refused for the first reason that holds, which a STATE frame carries. -/
def Obligations.RollIsIgnoredOrRefused : Prop :=
  (∀ (w : Wire) (s : State) (f : Frame) (n : Word16), s.takenFrame .roll w = some f → n = rollNumber f.payload →
      (∀ m, s.engine.lastRollOf f.sender = some m → ¬ (1 ≤ (n - m).toNat ∧ (n - m).toNat ≤ 32767) →
          exec (.roll w) s = .next (s.noteConflict f))
      ∧ ((∀ m, s.engine.lastRollOf f.sender = some m → 1 ≤ (n - m).toNat ∧ (n - m).toNat ≤ 32767) →
          s.engine.followSet.getLsbD f.sender = false →
          exec (.roll w) s = .next { s.noteConflict f with engine := s.engine.setLastRoll f.sender n }))
    ∧ (∀ (w : Wire) (s : State) (f : Frame) (reason : RefusalReason), s.takenFrame .roll w = some f →
        s.engine.fresh f.sender (rollNumber f.payload) = true → s.engine.followSet.getLsbD f.sender = true →
        s.engine.openTake = none →
        (if s.engine.takeState = .offline ∨ s.verify.slot.blocksJournal = true then some RefusalReason.notReady
          else if 4096 < s.journal.nextIndex then some .journalFull
          else if 3 ≤ s.writer.queue.length then some .backlog else none) = some reason →
        ∃ t, exec (.roll w) s = .next t
          ∧ t.engine = { s.engine.setLastRoll f.sender (rollNumber f.payload) with refusal := some reason }
          ∧ t.link = (s.noteConflict f).link.enqueueState t.stateContent
          ∧ t = { s with engine := t.engine, link := t.link })

/-- ROLL that opens a take (R40–R43): from the roll point of its stamp. -/
def Obligations.RollOpensATake : Prop :=
  ∀ (w : Wire) (s : State) (f : Frame) (p : Profile) (key : TakeKey), s.takenFrame .roll w = some f →
    key = { origin := f.sender, roll := rollNumber f.payload } →
    s.Coherent → s.port.Sound → s.engine.fresh f.sender key.roll = true → s.engine.followSet.getLsbD f.sender = true →
    s.engine.takeState = .standby → s.verify.slot.blocksJournal = false → s.journal.nextIndex ≤ 4096 →
    s.writer.queue.length < 3 → s.media.profile = some p →
    ∃ t, exec (.roll w) s = .next t
      ∧ s.OpensTake p key (convertStamp s.timecode s.intake.rate s.intake.position (stampAt f.payload 2)) t
      ∧ t.engine = { s.engine.setLastRoll f.sender key.roll with
          takeState := .rolling, openTake := some s.journal.nextIndex, holders := [key], pendingStop := none }
      ∧ t.link = (s.noteConflict f).link.enqueueState t.stateContent

/-- ROLL that joins the open take (R44): it becomes a holder, in the place of a key of its origin that was one, a TAIL turns back to
ROLLING, and its key joins the take's keys while there is room. -/
def Obligations.RollJoinsTheOpenTake : Prop :=
  ∀ (w : Wire) (s : State) (f : Frame) (n : Nat) (r : Record) (key : TakeKey), s.takenFrame .roll w = some f →
    key = { origin := f.sender, roll := rollNumber f.payload } →
    s.engine.Sound → s.engine.fresh f.sender key.roll = true → s.engine.followSet.getLsbD f.sender = true →
    s.engine.openTake = some n → s.recordAt n = some r →
    ∃ t, exec (.roll w) s = .next t
      ∧ t.recordAt n = some { r with joined := if r.joined.length < 8 ∧ key ∉ r.joined then r.joined ++ [key] else r.joined }
      ∧ s.OtherSlotsKept n t
      ∧ (∀ h : TakeKey, h ∈ t.engine.holders ↔ h = key ∨ (h.origin ≠ f.sender ∧ h ∈ s.engine.holders))
      ∧ t.engine = { s.engine.setLastRoll f.sender key.roll with
          takeState := .rolling, holders := t.engine.holders, pendingStop := none }
      ∧ t.link = (if s.engine.takeState = .tail then (s.noteConflict f).link.enqueueState t.stateContent
          else (s.noteConflict f).link)
      ∧ t = { s with engine := t.engine, journal := t.journal, link := t.link }

/-- ROLL_LINE_RISE (R49, R50): the own roll number advances and a ROLL frame with the edge's own label is queued; then the local ROLL
opens a take at the edge, joins the open take, or is refused, as a peer's would. An edge where the level taken cannot have shown first
changes nothing, which is the model's reading (notes/assumptions/4 and 31). -/
def Obligations.RollLineRiseRollsLocally : Prop :=
  ∀ (edge : Nat) (s : State) (n : Word16) (key : TakeKey) (l : Link), n = s.engine.ownRoll + 1 →
    key = { origin := s.link.station, roll := n } →
    l = s.link.enqueueTransport (.roll n s.timecode.rate (s.labelAt edge)) →
    (s.engine.rollLine ≠ some false ∨ ¬ s.HeldFrom edge → exec (.rollLineRise edge) s = .next s)
    ∧ (s.engine.rollLine = some false → s.HeldFrom edge →
      (∀ p, s.Coherent → s.port.Sound → s.engine.takeState = .standby → s.verify.slot.blocksJournal = false →
        s.journal.nextIndex ≤ 4096 → s.writer.queue.length < 3 → s.media.profile = some p →
        ∃ t, exec (.rollLineRise edge) s = .next t
          ∧ s.OpensTake p key { position := edge, rateMismatch := false, clamped := false } t
          ∧ t.engine = { s.engine with
              ownRoll := n, rollLine := some true, rollRiseTaken := true
              takeState := .rolling, openTake := some s.journal.nextIndex, holders := [key], pendingStop := none }
          ∧ t.link = l.enqueueState t.stateContent)
      ∧ (∀ k r, s.engine.Sound → s.engine.openTake = some k → s.recordAt k = some r →
        ∃ t, exec (.rollLineRise edge) s = .next t
          ∧ (∀ h : TakeKey, h ∈ t.engine.holders ↔ h = key ∨ (h.origin ≠ s.link.station ∧ h ∈ s.engine.holders))
          ∧ t.recordAt k = some { r with joined := if r.joined.length < 8 ∧ key ∉ r.joined then r.joined ++ [key] else r.joined }
          ∧ s.OtherSlotsKept k t
          ∧ t.engine = { s.engine with
              ownRoll := n, rollLine := some true, rollRiseTaken := true
              takeState := .rolling, holders := t.engine.holders, pendingStop := none }
          ∧ t.link = (if s.engine.takeState = .tail then l.enqueueState t.stateContent else l)
          ∧ t = { s with engine := t.engine, journal := t.journal, link := t.link })
      ∧ (∀ reason, s.engine.openTake = none → s.refusalOf = some reason →
        ∃ t, exec (.rollLineRise edge) s = .next t
          ∧ t.engine = { s.engine with
              ownRoll := n, rollLine := some true, rollRiseTaken := true, refusal := some reason }
          ∧ t.link = l.enqueueState t.stateContent ∧ t = { s with engine := t.engine, link := t.link }))

/-- CUT (R45, R46) removes the holder that it names, and STATE (R48) a holder that reports STANDBY, OFFLINE or TAIL, as a cut at the
intake position; the last holder's departure ends the take. -/
def Obligations.HoldersLeaveByCutOrState : Prop :=
  (∀ (w : Wire) (s : State) (f : Frame) (key : TakeKey), s.takenFrame .cut w = some f →
      key = { origin := f.sender, roll := rollNumber f.payload } → s.engine.Sound → s.port.Sound →
      (s.engine.takeState ≠ .rolling ∨ key ∉ s.engine.holders → exec (.cut w) s = .next (s.noteConflict f))
      ∧ (∀ rest, s.engine.takeState = .rolling → key ∈ s.engine.holders →
          rest = s.engine.holders.filter (fun h => h.origin != f.sender) →
          (rest ≠ [] → exec (.cut w) s = .next { s.noteConflict f with engine := { s.engine with holders := rest } })
          ∧ (∀ n r e p, rest = [] → s.engine.openTake = some n → s.recordAt n = some r → s.entryOf n = some e →
              s.media.profile = some p →
              ∃ t, exec (.cut w) s = .next t
                ∧ (s.noteConflict f).LastHolderOut n r e p.postRoll
                    (convertStamp s.timecode s.intake.rate s.intake.position (stampAt f.payload 2)) t
                ∧ t.link = (s.noteConflict f).link.enqueueState t.stateContent)))
    ∧ (∀ (w : Wire) (s : State) (f : Frame), s.takenFrame .state w = some f → s.engine.Sound → s.port.Sound →
        (s.engine.takeState ≠ .rolling ∨ field f.payload 0 1 = 2 ∨ 3 < field f.payload 0 1
            ∨ (∀ h ∈ s.engine.holders, h.origin ≠ f.sender) → exec (.state w) s = .next (s.noteConflict f))
        ∧ (∀ rest, s.engine.takeState = .rolling → field f.payload 0 1 ∈ [0, 1, 3] →
            (∃ h ∈ s.engine.holders, h.origin = f.sender) → rest = s.engine.holders.filter (fun h => h.origin != f.sender) →
            (rest ≠ [] → exec (.state w) s = .next { s.noteConflict f with engine := { s.engine with holders := rest } })
            ∧ (∀ n r e p, rest = [] → s.engine.openTake = some n → s.recordAt n = some r → s.entryOf n = some e →
                s.media.profile = some p →
                ∃ t, exec (.state w) s = .next t
                  ∧ (s.noteConflict f).LastHolderOut n r e p.postRoll
                      { position := s.intake.position, rateMismatch := false, clamped := false } t
                  ∧ t.link = (s.noteConflict f).link.enqueueState t.stateContent)))

/-- ROLL_LINE_FALL (R49, R51): a CUT frame with the own roll number and the edge's own label is queued, and this station's own hold on
the open take ends at the edge. An edge where the level taken cannot have shown first changes nothing, which is the model's reading
(notes/assumptions/4 and 31). LINE_LEVEL_ADOPTED (R49): a first level is no edge. -/
def Obligations.RollLineFallCutsLocally : Prop :=
  ∀ (edge : Nat) (s s1 : State) (key : TakeKey),
    key = { origin := s.link.station, roll := s.engine.ownRoll } →
    s1 = { s with engine := { s.engine with rollLine := some false } } →
    (s.engine.rollLine ≠ some true ∨ ¬ s.HeldFrom edge → exec (.rollLineFall edge) s = .next s)
    ∧ (s.engine.rollLine = some true → s.HeldFrom edge → s.engine.rollRiseTaken = false →
        exec (.rollLineFall edge) s = .next s1)
    ∧ (∀ s2, s.engine.rollLine = some true → s.HeldFrom edge → s.engine.rollRiseTaken = true → s.engine.Sound → s.port.Sound →
        s2 = s1.queueTransport (.cut s.engine.ownRoll s.timecode.rate (s.labelAt edge)) →
        (s.engine.takeState ≠ .rolling ∨ key ∉ s.engine.holders → exec (.rollLineFall edge) s = .next s2)
        ∧ (∀ rest, s.engine.takeState = .rolling → key ∈ s.engine.holders →
            rest = s.engine.holders.filter (fun h => h.origin != s.link.station) → rest ≠ [] →
            exec (.rollLineFall edge) s = .next { s2 with engine := { s2.engine with holders := rest } })
        ∧ (∀ n r e p, s.engine.takeState = .rolling → key ∈ s.engine.holders →
            (∀ h ∈ s.engine.holders, h.origin = s.link.station) →
            s.engine.openTake = some n → s.recordAt n = some r → s.entryOf n = some e → s.media.profile = some p →
            ∃ t, exec (.rollLineFall edge) s = .next t
              ∧ s2.LastHolderOut n r e p.postRoll { position := edge, rateMismatch := false, clamped := false } t
              ∧ t.link = s2.link.enqueueState t.stateContent))
    ∧ (∀ level, exec (.lineLevelAdopted .roll level) s =
        .next (if s.engine.rollLine = none then { s with engine := { s.engine with rollLine := some level } } else s))
    ∧ (∀ level, exec (.lineLevelAdopted .mark level) s =
        .next (if s.engine.markLine = none then { s with engine := { s.engine with markLine := some level } } else s))

/-- TAIL_END (R47): the take stops at the pending stop, and the station returns to STANDBY (R7). That TAIL_END before the pending stop
changes nothing is the model's reading (notes/assumptions/4). -/
def Obligations.TailEndsAtThePendingStop : Prop :=
  ∀ (s : State) (n stop : Nat) (r : Record), s.port.Sound → s.engine.takeState = .tail → s.engine.openTake = some n →
    s.engine.pendingStop = some stop → s.recordAt n = some r →
    (stop ≤ s.intake.position →
      ∃ t, exec .tailEnd s = .next t
        ∧ t.engine = { s.engine with takeState := .standby, openTake := none, holders := [], pendingStop := none }
        ∧ t.intake = { s.intake with armMask := s.intake.nextArm.getD s.intake.armMask, nextArm := none }
        ∧ (∃ r', t.recordAt n = some r' ∧ r.ClosedAt stop r'
            ∧ ((∃ m ∈ r.markers, stop ≤ m.frame + r.start) → hasFlag r'.flags .markersDropped = true))
        ∧ (∀ e, s.entryOf n = some e → s.ClosesAt e r stop t)
        ∧ t.link = s.link.enqueueState t.stateContent
        ∧ t = { s with
            engine := t.engine, intake := t.intake, journal := t.journal, port := t.port, writer := t.writer, link := t.link })
    ∧ (s.intake.position < stop → exec .tailEnd s = .next s)

/-- LENGTH_SPLIT (R53, R55, R56, R78): at the maximum length the open take becomes CLOSING there, and a continuation follows it; with a
full queue or a full journal the station returns to STANDBY. That LENGTH_SPLIT before the maximum length changes nothing is the model's
reading (notes/assumptions/4). -/
def Obligations.TakeIsSplitAtItsMaximumLength : Prop :=
  ∀ (s : State) (n x : Nat) (r : Record) (p : Profile), s.Coherent → s.port.Sound → s.engine.openTake = some n →
    s.recordAt n = some r → s.media.profile = some p → x = r.start + p.maxLength * 60 * s.intake.rate.hz →
    (s.intake.position < x ∨ (∃ stop, s.engine.pendingStop = some stop ∧ stop ≤ x) → exec .lengthSplit s = .next s)
    ∧ ((s.engine.takeState = .rolling ∨ ∃ stop, s.engine.pendingStop = some stop ∧ x < stop) → x ≤ s.intake.position →
      (s.writer.queue.length < 3 → s.journal.nextIndex ≤ 4096 →
        ∃ t, exec .lengthSplit s = .next t
          ∧ t.engine = { s.engine with openTake := some s.journal.nextIndex }
          ∧ (∃ e, s.entryOf n = some e ∧ s.ClosesAt e r x t)
          ∧ t.recordAt s.journal.nextIndex = some { r with
              index := s.journal.nextIndex, generation := s.media.generation.getD 0, continues := some r.index, state := .opened
              flags := 0, start := x, stop := none, startLabel := s.labelAt x, labelRate := s.timecode.rate, recorded := 0, lost := 0
              durable := 0, digest := none, peaks := List.replicate (trackCount r.armed r.mixPresent) 0, clipCount := 0, notes := []
              extents := []
              markers := (r.markers.filter fun m => decide (x ≤ r.start + m.frame)).map fun m =>
                { m with frame := r.start + m.frame - x } }
          ∧ (∃ sl, t.slotAt s.journal.nextIndex = some sl
            ∧ sl.inFlight = !s.provisionalHeld s.journal.nextIndex ∧ sl.held = s.provisionalHeld s.journal.nextIndex
            ∧ sl.firstDone = false ∧ sl.keptBytes = none
            ∧ ((∀ o ∈ s.port.waiting ++ s.port.outstanding, o.kind ≠ .journalWrite s.journal.nextIndex) → sl.amend = false))
          ∧ (s.provisionalHeld s.journal.nextIndex = false → t.Asked (.journalWrite s.journal.nextIndex) 1)
          ∧ t.journal.nextIndex = s.journal.nextIndex + 1
          ∧ t.writer.queue.map (·.index) = s.writer.queue.map (·.index) ++ [s.journal.nextIndex]
          ∧ (t.entryOf s.journal.nextIndex).map (fun e => (e.next, e.current, e.sealedSegs, e.completed)) = some (x, none, 0, 0)
          ∧ t = { s with engine := t.engine, journal := t.journal, port := t.port, writer := t.writer })
      ∧ (3 ≤ s.writer.queue.length ∨ 4096 < s.journal.nextIndex →
        ∃ t, exec .lengthSplit s = .next t
          ∧ t.engine = { s.engine with takeState := .standby, openTake := none, holders := [], pendingStop := none }
          ∧ t.intake = { s.intake with armMask := s.intake.nextArm.getD s.intake.armMask, nextArm := none }
          ∧ (∃ e, s.entryOf n = some e ∧ s.ClosesAt e (r.flag .splitRefused) x t)
          ∧ t.link = s.link.enqueueState t.stateContent
          ∧ t = { s with engine := t.engine, intake := t.intake, journal := t.journal, port := t.port, writer := t.writer
                         link := t.link }))

/-! ### Slate unit -/

/-- MARK (R32, R73, R75, R76): a marker in the open take at the clamped mark point, after every marker at or before its frame, or
MARKERS DROPPED at a full list; the change is handed to the journal, and every other record stays. That a MARK at a full list with
MARKERS DROPPED set still sets its stamp's flags, and hands no change on, is the model's choice (notes/assumptions/25). -/
def Obligations.MarkPlacesAMarkerInTheOpenTake : Prop :=
  ∀ (w : Wire) (s : State) (f : Frame), s.takenFrame .mark w = some f → s.Coherent → s.port.Sound →
    (s.engine.openTake = none ∨ 15 < markKind f.payload → exec (.mark w) s = .next (s.noteConflict f))
    ∧ (∀ n r, s.engine.openTake = some n → s.recordAt n = some r → markKind f.payload ≤ 15 →
      (∀ k, markTarget f.payload = some k → k ∉ r.joined → k ∉ s.engine.holders →
        exec (.mark w) s = .next (s.noteConflict f))
      ∧ (∀ (pt : Point) (m : Marker),
        (∀ k, markTarget f.payload = some k → k ∈ r.joined ∨ k ∈ s.engine.holders) →
        pt = convertStamp s.timecode s.intake.rate s.intake.position (markStamp f.payload) →
        m = { frame := markerPosition r.start s.intake.position pt.position - r.start, kind := markKind f.payload
              origin := f.sender } →
        ∃ t r', exec (.mark w) s = .next t ∧ t.recordAt n = some r' ∧ s.OtherSlotsKept n t
          ∧ (r.markers.length < 16 → s.HandsOn n t)
          ∧ (16 ≤ r.markers.length → hasFlag r.flags .markersDropped = false → s.HandsOn n t)
          ∧ (16 ≤ r.markers.length → hasFlag r.flags .markersDropped = true →
              t.slotAt n = (s.slotAt n).map (fun sl => { sl with entry := .record r' }) ∧ t.port = s.port)
          ∧ (r.markers.length < 16 → ∃ a b, r.markers = a ++ b ∧ r'.markers = a ++ m :: b
              ∧ (∀ x ∈ a, x.frame ≤ m.frame) ∧ (∀ x ∈ b.head?, m.frame < x.frame))
          ∧ (16 ≤ r.markers.length → r'.markers = r.markers)
          ∧ r'.flags = setFlagIf (decide (16 ≤ r.markers.length)) .markersDropped
              (setFlagIf pt.clamped .stampClamped (setFlagIf pt.rateMismatch .rateMismatch r.flags))
          ∧ (r'.durable = r.durable ∨ r'.durable = durableFrames r (s.durableBytes n))
          ∧ r' = { r with markers := r'.markers, flags := r'.flags, durable := r'.durable }
          ∧ t = { s with journal := t.journal, port := t.port, link := (s.noteConflict f).link }))

/-- MARK_PULSE (R49, R52, R77): a MARK frame is queued with the open take's key, if there is one, and the pulse's own label; a
marker of kind 0 and of this station is placed in the open take, or MARKERS DROPPED set at a full list. That every pulse after the
first level was adopted is taken as a rising edge is the model's reading (notes/assumptions/14), and so is that one at a position
where the level taken cannot have shown first changes nothing (notes/assumptions/4 and 31). -/
def Obligations.MarkPulseQueuesAMarkAndPlacesIt : Prop :=
  ∀ (edge : Nat) (s s1 : State) (key : Option TakeKey), s.Coherent → s.port.Sound → key = s.openKey →
    s1 = ({ s with engine := { s.engine with markLine := some true } } : State).queueTransport
      (.mark key s.timecode.rate (s.labelAt edge) 0) →
    (s.engine.markLine = none ∨ ¬ s.HeldFrom edge → exec (.markPulse edge) s = .next s)
    ∧ (s.engine.markLine.isSome = true → s.HeldFrom edge →
      (s.engine.openTake = none → key = none ∧ exec (.markPulse edge) s = .next s1)
      ∧ ∀ n r, s.engine.openTake = some n → s.recordAt n = some r → key = some r.key
        ∧ ∃ t r', exec (.markPulse edge) s = .next t ∧ t.recordAt n = some r' ∧ s.OtherSlotsKept n t
          ∧ (r.markers.length < 16 → s.HandsOn n t ∧ r' = { r with
              durable := r'.durable
              markers := insertMarker
                { frame := markerPosition r.start s.intake.position edge - r.start, kind := 0, origin := s.link.station }
                r.markers })
          ∧ (16 ≤ r.markers.length →
              r' = { r with durable := r'.durable, flags := setFlag .markersDropped r.flags }
                ∧ (hasFlag r.flags .markersDropped = false → s.HandsOn n t))
          ∧ t = { s1 with journal := t.journal, port := t.port })

/-- NOTE (R64, R67–R69, R73, R74): each field present and in range replaces the field of the pending slate, or of the slate of the
take found, whose stamp its own is greater than, and leaves every other as it was. A changed record is handed to the journal, or marked
UNSAVED on a card that takes no writes; that of a CLOSING take asks no write of its own, and is noted as an amendment only while its
final write is outstanding (R87). LAST finds the open take, or else the record below the next take index, and a key the highest
record that holds it. A payload that R195 leaves out changes nothing. -/
def Obligations.NoteMergesIntoTheSlateItNames : Prop :=
  (∀ (w : Wire) (s : State) (f : Frame), s.takenFrame .note w = some f →
      (decodeNote f.payload = none → exec (.note w) s = .next (s.noteConflict f))
      ∧ ∀ (note : Note) (st : SlateStamp), decodeNote f.payload = some note → note.target = .next →
        st = { revision := note.revision, station := f.sender } →
        ∃ t, exec (.note w) s = .next t
          ∧ s.slate.Merged st note.fields t.slate
          ∧ t = { s.noteConflict f with slate := t.slate })
    ∧ (∀ (w : Wire) (s : State) (f : Frame) (note : Note), s.takenFrame .note w = some f → s.port.Sound →
        decodeNote f.payload = some note → note.target ≠ .next → s.engine.Sound →
        (∀ found, (match note.target with | .key k => s.KeyedTakeIs k found | .last => s.LastTakeIs found | .next => False) →
          (found = none → exec (.note w) s = .next (s.noteConflict f))
          ∧ ∀ n r merged, found = some n → s.recordAt n = some r →
            r.slate.Merged { revision := note.revision, station := f.sender } note.fields merged →
            (merged = r.slate → exec (.note w) s = .next (s.noteConflict f))
            ∧ (merged ≠ r.slate →
              ∃ t r', exec (.note w) s = .next t ∧ t.recordAt n = some r' ∧ s.OtherSlotsKept n t
                ∧ r' = { r with slate := merged, flags := r'.flags, durable := r'.durable }
                ∧ (r'.durable = r.durable ∨ r'.durable = durableFrames r (s.durableBytes n))
                ∧ (s.canWriteJournal = true → r.state ≠ .closing → s.HandsOn n t)
                ∧ (s.canWriteJournal = true → r.state = .closing → t.port = s.port
                    ∧ ∀ sl, s.slotAt n = some sl → ∃ sl', t.slotAt n = some sl'
                      ∧ sl' = { sl with entry := .record { r with slate := merged }, amend := sl'.amend }
                      ∧ ((∀ op ∈ s.port.outstanding ++ s.port.waiting, op.kind = .journalWrite n → op.block.isSome = true →
                          op.isFinal = false) → sl'.amend = sl.amend)
                      ∧ ((∃ op ∈ s.port.outstanding ++ s.port.waiting, op.kind = .journalWrite n ∧ op.block.isSome = true) →
                          (∀ op ∈ s.port.outstanding ++ s.port.waiting, op.kind = .journalWrite n → op.block.isSome = true →
                            op.isFinal = true) → sl'.amend = true))
                ∧ (s.canWriteJournal = false → t.port = s.port)
                ∧ r'.flags = (if s.canWriteJournal = true then r.flags else setFlag .unsaved r.flags)
                ∧ t = { s with journal := t.journal, port := t.port, link := (s.noteConflict f).link })))

/-- The merge of a NOTE into a slate is that of R69, field by field, and the merge of two NOTEs of different stamps does not depend on
their order (R63, R69), so that all stations come to hold the same slate. -/
def Obligations.SlateMergesCommute : Prop :=
  (∀ (st : SlateStamp) (fs : NoteFields) (sl now : Slate), sl.Merged st fs now ↔ now = mergeSlate st fs sl)
    ∧ ∀ (a b : SlateStamp) (fa fb : NoteFields) (sl : Slate), a ≠ b →
      mergeSlate b fb (mergeSlate a fa sl) = mergeSlate a fa (mergeSlate b fb sl)

/-! ### Segment writer -/

/-- FRAME_DRAW into the current buffer (R12, R13, R124, R125, R130): the next-needed frame of the take being filled is accounted to the
take, its tracks' bytes follow the frame before, and w moves on. With the last frame of a CLOSING take (R125, R131–R133) its buffer is
sealed as LAST or ONLY, and the blocks that the segment does not use leave the extent list. A dropout lengthens the lane's most recent
note when that ends just before the frame, and otherwise joins the notes, or sets NOTES DROPPED (R13); the order of several lanes is
the model's choice (notes/assumptions/24). While a condition of R124 fails nothing is drawn. -/
def Obligations.FrameDrawPlacesTheNextNeededFrame : Prop :=
  (∀ (s : State) (e : QueueEntry) (r : Record) (f : RingFrame) (b : Nat) (phase : BufferPhase) (seg : Segment),
    s.port.Sound → s.MayDraw e r f → e.current = some b → s.buffer b = .used phase seg →
    seg.data.length + r.frameBytes ≤ seg.run.count * 4096 →
    (r.GoesOn e.next →
      ∃ t r', exec .frameDraw s = .next t
        ∧ t.writer.queue = s.writer.queue.map (fun x => if x.index = e.index then { x with next := x.next + 1 } else x)
        ∧ t.buffer b = .used phase { seg with data := seg.data ++ r.trackBytes f }
        ∧ (∀ c, c ≠ b → t.buffer c = s.buffer c)
        ∧ t.slotAt e.index = (s.slotAt e.index).map (fun sl => { sl with entry := .record r' })
        ∧ s.OtherSlotsKept e.index t
        ∧ r.Accounts f e.next r' ∧ r'.extents = r.extents
        ∧ (r.armed &&& f.invalid = 0 → r'.notes = r.notes ∧ r'.flags = r.flags)
        ∧ t = { s with journal := t.journal, writer := t.writer })
    ∧ (∀ (front : List Extent) (x : Extent) (used : Nat), r.state = .closing → r.stop = some (e.next + 1) →
        seg.take = e.index → e.completed ≤ e.sealedSegs → seg.data ++ r.trackBytes f ≠ [] →
        used = ((seg.data ++ r.trackBytes f).length + 4095) / 4096 →
        r.extents = front ++ [x] → seg.run.count ≤ x.count →
      ∃ t r' d, exec .frameDraw s = .next t
        ∧ t.entryOf e.index = some { e with next := e.next + 1, current := none, sealedSegs := e.sealedSegs + 1, digest := d }
        ∧ (∀ k, k ≠ e.index → t.entryOf k = s.entryOf k)
        ∧ t.Sealed b seg (r.trackBytes f) (e.sealedSegs + 1) (if e.sealedSegs = 0 then .only else .last)
        ∧ (∀ c, c ≠ b → t.buffer c = s.buffer c)
        ∧ t.recordAt e.index = some r' ∧ s.OtherSlotsKept e.index t
        ∧ r.Accounts f e.next r'
        ∧ r'.extents = (if used < seg.run.count then front ++ [{ first := x.first, count := x.count - (seg.run.count - used) }]
            else r.extents)
        ∧ t = { s with journal := t.journal, writer := t.writer, port := t.port }))
    ∧ (∀ (r : Record) (q lane : Nat),
        (∀ before after f n, r.notes = before ++ DefectNote.dropout lane f n :: after →
            after.all (fun x => !x.isDropout lane) = true → f + n = q →
            r.dropout q lane = { r with notes := before ++ DefectNote.dropout lane f (n + 1) :: after })
        ∧ ((∀ before after f n, r.notes = before ++ DefectNote.dropout lane f n :: after →
              after.all (fun x => !x.isDropout lane) = true → f + n ≠ q) →
            (r.notes.length < 16 → r.dropout q lane = { r with notes := r.notes ++ [.dropout lane q 1] })
              ∧ (16 ≤ r.notes.length → r.dropout q lane = { r with flags := setFlag .notesDropped r.flags })))
    ∧ ∀ s : State, s.port.Sound →
      (s.filling = none → exec .frameDraw s = .next s)
      ∧ ∀ e r, s.filling = some e → s.recordAt e.index = some r →
        (s.intake.position ≤ e.next ∨ e.next < s.intake.oldestHeld → exec .frameDraw s = .next s)
        ∧ (r.state = .opened → s.intake.position ≤ e.next + s.intake.rate.hz / 2 → exec .frameDraw s = .next s)
        ∧ (∀ stop, r.state = .opened → s.engine.takeState = .tail → s.engine.pendingStop = some stop → stop ≤ e.next →
            exec .frameDraw s = .next s)
        ∧ (s.room e < r.frameBytes → (∀ b, b < 8 → s.buffer b ≠ .free) → exec .frameDraw s = .next s)

/-- FRAME_DRAW that opens a buffer (R112, R128, R130). The take's first buffer: a run of up to 32 blocks, or of what a CLOSING take still
needs, joins the extent list, the cursor moves past it, and the frame's bytes begin the buffer. A later one: the frame fills the room
left, the full buffer is sealed as FIRST or MIDDLE, and the rest of the bytes begin the new buffer. The last frame of a CLOSING take
that needs a buffer of its own has it sealed in the same step, as LAST, or as ONLY when it is the take's first (R125, R131). R129: at 48
extents the open take is split at w, or cut there when a split is refused. R142: with no run left the card is FULL, or was so before,
the take is cut at w, and the takes behind it are abandoned. R141: a CLOSING take whose 65th extent it would be is abandoned. That the
lowest-numbered free buffer is opened is the model's choice (notes/assumptions/26). -/
def Obligations.FrameDrawOpensABuffer : Prop :=
  (∀ (s s' : State) (e : QueueEntry) (r : Record) (f : RingFrame) (b want : Nat) (run : Extent), s.port.Sound →
    s.MayDraw e r f → e.current = none → s.freeBuffer = some b →
    s.engine.openTake ≠ some e.index ∨ r.extents.length < 48 → r.extents.length < 64 →
    want = (if r.state = .opened then 32 else min 32 (((r.stop.getD 0 - e.next) * r.frameBytes + 4095) / 4096)) →
    s.allocate want = some (run, s') →
    (r.GoesOn e.next →
      ∃ t r', exec .frameDraw s = .next t
        ∧ t.entryOf e.index = some { e with next := e.next + 1, current := some b }
        ∧ t.buffer b = .used .filling (Segment.opened e.index run 0 (r.trackBytes f))
        ∧ (∀ c, c ≠ b → t.buffer c = s.buffer c)
        ∧ t.recordAt e.index = some r' ∧ s.OtherSlotsKept e.index t ∧ r.Accounts f e.next r'
        ∧ r'.extents = withRun run r.extents
        ∧ t = { s with
            journal := t.journal, writer := t.writer, media := { s.media with cursor := some (run.first + run.count) } })
    ∧ (r.state = .closing → r.stop = some (e.next + 1) → (r.trackBytes f).length = r.frameBytes → 0 < r.frameBytes →
        e.completed ≤ e.sealedSegs →
      ∃ t r' d, exec .frameDraw s = .next t
        ∧ t.entryOf e.index = some { e with next := e.next + 1, current := none, sealedSegs := e.sealedSegs + 1, digest := d }
        ∧ t.Sealed b (Segment.opened e.index run 0 (r.trackBytes f)) [] (e.sealedSegs + 1)
            (if e.sealedSegs = 0 then .only else .last)
        ∧ (∀ c, c ≠ b → t.buffer c = s.buffer c)
        ∧ t.recordAt e.index = some r' ∧ s.OtherSlotsKept e.index t ∧ r.Accounts f e.next r'
        ∧ r'.extents = withRun run r.extents
        ∧ t = { s with
            journal := t.journal, writer := t.writer, port := t.port
            media := { s.media with cursor := some (run.first + run.count) } }))
    ∧ (∀ (s s' : State) (e : QueueEntry) (r : Record) (f : RingFrame) (b c room want : Nat) (run : Extent) (phase : BufferPhase)
        (seg new : Segment), s.port.Sound → s.MayDraw e r f → e.current = some c → s.buffer c = .used phase seg →
      seg.take = e.index → seg.data.length + room = seg.run.count * 4096 → room < (r.trackBytes f).length →
      (r.trackBytes f).length = r.frameBytes → s.freeBuffer = some b →
      s.engine.openTake ≠ some e.index ∨ r.extents.length < 48 → r.extents.length < 64 →
      want = (if r.state = .opened then 32 else min 32 (((r.stop.getD 0 - e.next) * r.frameBytes - room + 4095) / 4096)) →
      s.allocate want = some (run, s') →
      new = Segment.opened e.index run (seg.offset + seg.run.count * 4096) ((r.trackBytes f).drop room) →
      (r.GoesOn e.next ∨ (r.state = .closing ∧ r.stop = some (e.next + 1) ∧ e.completed ≤ e.sealedSegs)) →
      ∃ t r' e', exec .frameDraw s = .next t
        ∧ t.entryOf e.index = some e'
        ∧ t.Sealed c seg ((r.trackBytes f).take room) (e.sealedSegs + 1) (if e.sealedSegs = 0 then .first else .middle)
        ∧ (r.GoesOn e.next →
            e' = { e with next := e.next + 1, current := some b, sealedSegs := e.sealedSegs + 1, digest := e'.digest }
            ∧ t.buffer b = .used .filling new)
        ∧ (¬ r.GoesOn e.next →
            e' = { e with next := e.next + 1, current := none, sealedSegs := e.sealedSegs + 2, digest := e'.digest }
            ∧ t.Sealed b new [] (e.sealedSegs + 2) .last)
        ∧ t.recordAt e.index = some r' ∧ s.OtherSlotsKept e.index t ∧ r.Accounts f e.next r'
        ∧ r'.extents = withRun run r.extents
        ∧ t = { s with
            journal := t.journal, writer := t.writer, port := t.port
            media := { s.media with cursor := some (run.first + run.count) } })
    ∧ (∀ (s : State) (e : QueueEntry) (r : Record) (f : RingFrame) (b c k : Nat) (phase : BufferPhase) (seg : Segment), s.Coherent →
      s.port.Sound → s.MayDraw e r f → e.current = some c → s.buffer c = .used phase seg → seg.take = e.index →
      s.room e < r.frameBytes → s.freeBuffer = some b → s.engine.openTake = some e.index → 48 ≤ r.extents.length →
      e.completed ≤ e.sealedSegs → k = s.journal.nextIndex →
      (∀ run s', s.writer.queue.length < 3 → k ≤ 4096 → s.allocate 32 = some (run, s') →
        ∃ t rk, exec .frameDraw s = .next t
          ∧ t.engine = { s.engine with openTake := some k }
          ∧ s.ClosesAt e r e.next t
          ∧ t.Sealed c seg [] (e.sealedSegs + 1) (if e.sealedSegs = 0 then .only else .last)
          ∧ t.journal.nextIndex = k + 1 ∧ t.recordAt k = some rk
          ∧ rk.index = k ∧ rk.key = r.key ∧ rk.continues = some r.index ∧ rk.state = .opened ∧ rk.start = e.next ∧ rk.recorded = 1
          ∧ rk.lost = 0 ∧ rk.extents = [run] ∧ rk.armed = r.armed ∧ rk.mixPresent = r.mixPresent ∧ rk.slate = r.slate
          ∧ (t.entryOf k).map (fun x => (x.next, x.current, x.sealedSegs)) = some (e.next + 1, some b, 0)
          ∧ t.buffer b = .used .filling (Segment.opened k run 0 (r.trackBytes f))
          ∧ t = { s with
              engine := t.engine, journal := t.journal, port := t.port, writer := t.writer
              media := { s.media with cursor := some (run.first + run.count) } })
      ∧ (3 ≤ s.writer.queue.length ∨ 4096 < k →
        ∃ t, exec .frameDraw s = .next t
          ∧ t.engine = { s.engine with takeState := .standby, openTake := none, holders := [], pendingStop := none }
          ∧ t.intake = { s.intake with armMask := s.intake.nextArm.getD s.intake.armMask, nextArm := none }
          ∧ s.ClosesAt e (r.flag .splitRefused) e.next t
          ∧ t.Sealed c seg [] (e.sealedSegs + 1) (if e.sealedSegs = 0 then .only else .last)
          ∧ (∀ a, a ≠ c → t.buffer a = s.buffer a)
          ∧ t.link = s.link.enqueueState t.stateContent
          ∧ t = { s with engine := t.engine, intake := t.intake, journal := t.journal, port := t.port, writer := t.writer
                         link := t.link }))
    ∧ (∀ (s : State) (e : QueueEntry) (r : Record) (f : RingFrame) (want : Nat), s.Coherent → s.port.Sound → s.MayDraw e r f →
      s.room e < r.frameBytes → (∃ b, s.freeBuffer = some b) →
      want = (if r.state = .opened then 32 else min 32 (((r.stop.getD 0 - e.next) * r.frameBytes - s.room e + 4095) / 4096)) →
      (s.engine.openTake ≠ some e.index ∨ r.extents.length < 48 → s.allocate want = none →
        ∃ t, exec .frameDraw s = .next t
          ∧ t.media = { s.media with state := .full }
          ∧ t.engine.takeState = .offline ∧ t.engine.openTake = none ∧ t.engine.pendingStop = none
          ∧ (s.engine.openTake ≠ none → t.engine.holders = [])
          ∧ s.ClosesAt e (r.flag .mediaFull) e.next t
          ∧ (∀ x rx, x ∈ s.writer.queue → e.index < x.index → s.recordAt x.index = some rx →
              t.entryOf x.index = none ∧ ∃ rx', t.recordAt x.index = some rx' ∧ rx'.state = .interrupted
                ∧ hasFlag rx'.flags .mediaFull = true ∧ rx'.recorded = x.durBytes / rx.frameBytes
                ∧ rx'.lost = rx.lost + (rx.recorded - rx'.recorded))
          ∧ (s.media.state = .ready → t.link = s.link.enqueueState t.stateContent)
          ∧ (s.media.state = .full → t.engine = s.engine ∧ t.link = s.link)
          ∧ t.intake = s.intake ∧ t.slate = s.slate)
      ∧ (∀ run s', r.state = .closing → 64 ≤ r.extents.length → s.allocate want = some (run, s') →
        (∀ x ∈ r.extents.getLast?, x.first + x.count ≠ run.first) →
        ∃ t r', exec .frameDraw s = .next t
          ∧ t.media = { s.media with cursor := some (run.first + run.count) }
          ∧ t.entryOf e.index = none ∧ t.recordAt e.index = some r' ∧ r'.state = .interrupted ∧ r'.stop = none
          ∧ hasFlag r'.flags .extentOverflow = true ∧ r'.extents = r.extents ∧ r'.recorded = e.durBytes / r.frameBytes
          ∧ r'.lost = r.lost + (r.recorded - r'.recorded)
          ∧ t.engine = s.engine ∧ t.link = s.link ∧ t.intake = s.intake))

/-- R112: a run begins at the lowest good block from the cursor on, holds no defect, and is as long as asked unless a defect or the
end of the card stops it; there is none exactly when no good block is left. -/
def Obligations.AllocationGivesTheLowestGoodRun : Prop :=
  ∀ (s : State) (n cursor capacity : Nat), 1 ≤ n → s.media.cursor = some cursor → s.media.capacity = some capacity →
    s.media.state ≠ .full →
    (∀ run s', s.allocate n = some (run, s') →
      cursor ≤ run.first ∧ 1 ≤ run.count ∧ run.count ≤ n ∧ run.first + run.count ≤ capacity
        ∧ (∀ b, cursor ≤ b → b < run.first → ∃ d ∈ s.media.defects, d.block = b)
        ∧ (∀ b, run.first ≤ b → b < run.first + run.count → ∀ d ∈ s.media.defects, d.block ≠ b)
        ∧ (run.count = n ∨ run.first + run.count = capacity ∨ ∃ d ∈ s.media.defects, d.block = run.first + run.count)
        ∧ s' = { s with media := { s.media with cursor := some (run.first + run.count) } })
    ∧ (s.allocate n = none ↔ ∀ b, cursor ≤ b → b < capacity → ∃ d ∈ s.media.defects, d.block = b)

/-- SEGMENT_WRITE_COMPLETE, success (R89, R90, R135, R136): the segment's last write frees its buffer, the take's completed count rises,
and the durable prefix grows over the segment, when it is the next of the prefix, and over every completed segment that follows it,
and stands when an earlier one is still missing. At a multiple of 16 a checkpoint is asked, and the final write when it becomes due.
While another write of the segment waits or is outstanding, only the write itself is completed; that the buffer is then IN FLIGHT while
one is outstanding and FAILED when none is, is the model's reading (DEDUCED from R126, notes/assumptions/16). The end of a write of an abandoned
take's segment, a success or a failure, counts toward nothing, its failure count included, and the last one frees the buffer (R143). The freed slot may be granted
to a waiting operation. -/
def Obligations.CompletedSegmentExtendsTheDurablePrefix : Prop :=
  ∀ (s : State) (id b i : Nat) (op : Op) (phase : BufferPhase) (seg : Segment) (p : Piece),
    s.outstandingOp id OpKind.isSegmentWrite = some op → op.kind = .segmentWrite b i → s.buffer b = .used phase seg →
    seg.writes[i]? = some p →
    (∀ (k : Nat) (e : QueueEntry), seg.orphan = false →
      (∀ j q, seg.writes[j]? = some q → j ≠ i → q.state = .completed ∨ q.state = .failed) →
      s.entryOf seg.take = some e → seg.sequence = some k →
      ∃ t e', exec (.segmentWriteComplete id none) s = .next t
        ∧ t.buffer b = .free ∧ t.entryOf seg.take = some e' ∧ e'.completed = e.completed + 1
        ∧ (k = e.durSegs + 1 → e.above = [] → e'.durSegs = e.durSegs + 1 ∧ e'.durBytes = e.durBytes + seg.data.length)
        ∧ (∀ (m : Nat) (next rest : List (Nat × Nat)), k = e.durSegs + 1 → e.above.Perm (next ++ rest) →
            next.map (·.1) = (List.range m).map (k + 1 + ·) → (∀ x ∈ rest, k + 1 + m < x.1) →
            e'.durSegs = k + m ∧ e'.durBytes = e.durBytes + seg.data.length + (next.map (·.2)).sum ∧ e'.above.Perm rest)
        ∧ (k ≠ e.durSegs + 1 → (∀ x ∈ e.above, x.1 ≠ e.durSegs + 1) →
            e'.durSegs = e.durSegs ∧ e'.durBytes = e.durBytes)
        ∧ (∀ sl r final, s.slotAt seg.take = some sl → sl.entry = .record r → sl.held = false →
            final = (decide (r.state = .closing) && decide (r.stop.getD 0 ≤ e.next) && e.current.isNone
              && decide (e.sealedSegs = e.completed + 1)) →
            ∃ sl', t.slotAt seg.take = some sl'
              ∧ (final = true ∨ ((e.completed + 1) % 16 = 0 ∧ s.canWriteJournal = true) →
                  sl'.inFlight = true ∧ (sl.inFlight = false → t.Asked (.journalWrite seg.take) 1)
                  ∧ ((∃ o ∈ s.port.outstanding, o.id ≠ id ∧ o.kind = .journalWrite seg.take ∧ o.block.isSome = true) →
                      sl.inFlight = true → sl'.amend = true))
              ∧ (final = false → (e.completed + 1) % 16 ≠ 0 ∨ s.canWriteJournal = false →
                  sl'.inFlight = sl.inFlight ∧ sl'.amend = sl.amend))
        ∧ t = { s with journal := t.journal, port := t.port, writer := t.writer, verify := t.verify })
    ∧ (seg.orphan = false → (∃ j q, j ≠ i ∧ seg.writes[j]? = some q ∧ (q.state = .waiting ∨ q.state = .outstanding)) →
      (∀ o ∈ s.port.waiting, o.kind ≠ .segmentWrite b i) →
      ∃ t phase' seg', exec (.segmentWriteComplete id none) s = .next t ∧ t.buffer b = .used phase' seg'
        ∧ seg' = { seg with writes := seg'.writes, tapped := seg'.tapped } ∧ seg'.writes.length = seg.writes.length
        ∧ seg'.writes[i]? = some { p with state := .completed }
        ∧ (∀ j q, j ≠ i → seg.writes[j]? = some q →
            seg'.writes[j]? = some q ∨ (seg'.writes[j]? = some { q with state := .outstanding } ∧ phase' = .inFlight))
        ∧ (∀ j q, j ≠ i → seg.writes[j]? = some q → q.state = .outstanding → phase' = .inFlight)
        ∧ ((∀ j q, j ≠ i → seg.writes[j]? = some q → q.state ≠ .outstanding) → s.port.waiting = [] → phase' = .failed)
        ∧ s.GrantsBeside b t)
    ∧ (∀ outcome : Option Nat, seg.orphan = true → (∀ bad ∈ outcome, p.first ≤ bad ∧ bad < p.first + p.count) →
      ∃ t, exec (.segmentWriteComplete id outcome) s = .next t
        ∧ ((∀ j q, j ≠ i → seg.writes[j]? = some q → q.state ≠ .outstanding) → t.buffer b = .free)
        ∧ ((∃ j q, j ≠ i ∧ seg.writes[j]? = some q ∧ q.state = .outstanding) →
            ∃ phase' seg', t.buffer b = .used phase' seg' ∧ seg' = { seg with writes := seg'.writes, tapped := seg'.tapped })
        ∧ s.GrantsBeside b t)

/-- SEGMENT_WRITE_COMPLETE, a failure below the fourth (R110, R111, R137–R143). The bad block joins the defect list as GROWN, or sets
DEFECTS OVERFLOWED when that holds 480, and a header rewrite is asked when this changed either. The blocks from it to the write's last
leave the extent that held them, and runs are asked for them one after another. When runs cover them they stand in their place, and for
each in its turn a piece that rewrites its blocks from the staging buffer is asked. When the answer is FULL, the take is abandoned, its
list keeping the runs answered before (notes/assumptions/16); a READY card is then FULL, the take being filled is cut at its w when it
is another, and the takes behind it are abandoned. When the list has no place for the tail or for another run, the take is abandoned
with EXTENT OVERFLOW and its list takes none of these runs (notes/assumptions/16). -/
def Obligations.FailedSegmentIsRemapped : Prop :=
  ∀ (s g after_ : State) (id b i bad last left : Nat) (op : Op) (phase : BufferPhase) (seg : Segment) (p : Piece) (r : Record)
    (before after head tail runs : List Extent) (x : Extent),
    s.outstandingOp id OpKind.isSegmentWrite = some op → op.kind = .segmentWrite b i → b < 8 → s.buffer b = .used phase seg →
    seg.orphan = false → seg.failures < 3 → seg.writes[i]? = some p → p.first ≤ bad → last + 1 = p.first + p.count → bad ≤ last →
    s.media.state = .ready ∨ s.media.state = .full → last + 1 - bad ≤ 32 →
    s.recordAt seg.take = some r → r.extents = before ++ x :: after → (∀ y ∈ before, y.holds bad = false) →
    x.first ≤ bad → last < x.first + x.count →
    head = (if x.first < bad then [{ first := x.first, count := bad - x.first }] else []) →
    tail = (if last + 1 < x.first + x.count then [{ first := last + 1, count := x.first + x.count - 1 - last }] else []) →
    g = s.grown bad → State.AnswersRuns (last + 1 - bad) runs left after_ g →
    (∃ t, exec (.segmentWriteComplete id (some bad)) s = .next t
      ∧ t.media.defects = g.media.defects ∧ t.media.overflowed = g.media.overflowed
      ∧ (∀ below above, s.media.defects = below ++ above → (∀ d ∈ below, d.block < bad) → (∀ d ∈ above, bad < d.block) →
          s.media.defects.length < 480 → t.media.defects = below ++ { block := bad, grown := true } :: above)
      ∧ (s.port.Sound → s.canWriteJournal = true → (∀ d ∈ s.media.defects, d.block ≠ bad) →
          s.media.defects.length < 480 ∨ s.media.overflowed = false → s.RewritesHeader t)
      ∧ (s.canWriteJournal = false ∨ (480 ≤ s.media.defects.length ∧ s.media.overflowed = true) →
          t.media.headerInFlight = s.media.headerInFlight ∧ t.media.headerPending = s.media.headerPending))
    ∧ (left = 0 → (before ++ head ++ runs ++ tail ++ after).length ≤ 64 →
      ∃ t r' phase' seg' base, exec (.segmentWriteComplete id (some bad)) s = .next t
        ∧ t.media.cursor = after_.media.cursor ∧ t.media.state = s.media.state
        ∧ t.recordAt seg.take = some r'
        ∧ r' = { r with extents := before ++ head ++ runs ++ tail ++ after, durable := r'.durable }
        ∧ t.buffer b = .used phase' seg' ∧ seg'.failures = seg.failures + 1 ∧ seg'.data = seg.data
        ∧ seg'.writes.length = seg.writes.length + runs.length
        ∧ (∀ j run, runs[j]? = some run →
            (∃ p', seg'.writes[seg.writes.length + j]? = some p' ∧ p'.first = run.first ∧ p'.count = run.count
              ∧ p'.segBlock = p.segBlock + (bad - p.first) + ((runs.take j).map (·.count)).sum)
            ∧ ∃ o ∈ t.port.waiting ++ t.port.outstanding, o.kind = .segmentWrite b (seg.writes.length + j) ∧ o.attempt = 1
              ∧ o.id = base + j)
        ∧ t.engine = s.engine ∧ t.intake = s.intake ∧ t.link = s.link ∧ t.slate = s.slate)
    ∧ ∀ e, s.Coherent → s.entryOf seg.take = some e →
      (0 < left → after_.allocate left = none → (before ++ head ++ runs ++ tail ++ after).length ≤ 64 →
        ∃ t r', exec (.segmentWriteComplete id (some bad)) s = .next t
          ∧ t.media.state = .full ∧ t.media.cursor = after_.media.cursor
          ∧ t.entryOf seg.take = none ∧ t.recordAt seg.take = some r' ∧ r.AbandonedAs .mediaFull e r'
          ∧ r'.extents = before ++ head ++ runs ++ tail ++ after
          ∧ t.engine.takeState = .offline ∧ t.engine.openTake = none
          ∧ (s.media.state = .ready →
              t.link = s.link.enqueueState t.stateContent
              ∧ ∀ w rw, s.filling = some w → s.recordAt w.index = some rw →
                (w.index ≠ seg.take → s.ClosesAt w (rw.flag .mediaFull) w.next t)
                ∧ ∀ y ry, y ∈ s.writer.queue → w.index < y.index → s.recordAt y.index = some ry →
                    t.entryOf y.index = none ∧ ∃ ry', t.recordAt y.index = some ry' ∧ ry.AbandonedAs .mediaFull y ry')
          ∧ (s.media.state = .full → t.engine = s.engine ∧ t.link = s.link)
          ∧ t.intake = s.intake ∧ t.slate = s.slate)
      ∧ (∀ cursor kept,
          (64 < (before ++ head ++ tail ++ after).length ∧ cursor = s.media.cursor ∧ kept = before ++ head ++ after
            ∨ 0 < left ∧ (before ++ head ++ runs ++ tail ++ after).length = 64 ∧ kept = before ++ head ++ tail ++ after
              ∧ ∃ run s', after_.allocate left = some (run, s') ∧ cursor = some (run.first + run.count)) →
        ∃ t r', exec (.segmentWriteComplete id (some bad)) s = .next t
          ∧ t.media.state = s.media.state ∧ t.media.cursor = cursor
          ∧ t.entryOf seg.take = none ∧ t.recordAt seg.take = some r' ∧ r.AbandonedAs .extentOverflow e r' ∧ r'.extents = kept
          ∧ (s.engine.openTake ≠ some seg.take → t.engine = s.engine ∧ t.link = s.link ∧ t.intake = s.intake)
          ∧ (s.engine.openTake = some seg.take →
              t.engine = { s.engine with takeState := .standby, openTake := none, holders := [], pendingStop := none }
              ∧ t.intake = { s.intake with armMask := s.intake.nextArm.getD s.intake.armMask, nextArm := none }
              ∧ t.link = s.link.enqueueState t.stateContent)
          ∧ t.slate = s.slate)

/-! ### Journal -/

/-- JOURNAL_WRITE_COMPLETE (R86, R87, R90): at success the slot's flags clear, a final write closes its take, which leaves the writer queue
with its digest, and a change made meanwhile is written in turn, or marked UNSAVED on a card that takes no writes; a failure is written
again, the same block, up to 4 times in all. DEFERRED_PROVISIONAL_WRITE (R88): a provisional write held back is asked once the slot
below has had its first write. That this is a step of its own and not part of that completion, that the lowest slot comes first, and
that on a card which takes no writes it is dropped with UNSAVED, are the model's choice (notes/assumptions/9). A grant (R120): the first
waiting operation of the lowest class that holds one. A journal write is composed at its first grant (R85), and a segment's bytes enter
the digest at the grant of its first write (R134). -/
def Obligations.JournalWriteCompletesAndTheNextIsAsked : Prop :=
  (∀ (s : State) (id n : Nat) (op : Op) (sl : MirrorSlot) (r : Record),
      s.outstandingOp id OpKind.isJournalWrite = some op → op.kind = .journalWrite n → s.slotAt n = some sl →
      sl.entry = .record r →
      (sl.amend = false →
        ∃ t sl' r', exec (.journalWriteComplete id true) s = .next t ∧ t.slotAt n = some sl' ∧ sl'.inFlight = false
          ∧ sl'.amend = false ∧ sl'.firstDone = true ∧ sl'.held = sl.held ∧ sl'.entry = .record r'
          ∧ (op.isFinal = true → r.state = .closing →
              r'.state = .closed ∧ r'.digest = some (heldDigest (s.entryOf n)) ∧ t.entryOf n = none)
          ∧ (op.isFinal = false → r.SameButDurable r' ∧ t.writer.queue.map (·.index) = s.writer.queue.map (·.index))
          ∧ t = { s with journal := t.journal, port := t.port, writer := t.writer, verify := t.verify })
      ∧ (sl.amend = true → sl.held = false → s.canWriteJournal = true →
        ∃ t sl', exec (.journalWriteComplete id true) s = .next t ∧ t.slotAt n = some sl' ∧ sl'.inFlight = true
          ∧ sl'.firstDone = true ∧ t.Asked (.journalWrite n) 1
          ∧ (op.isFinal = true → r.state = .closing → t.entryOf n = none ∧ ∃ r', sl'.entry = .record r'
              ∧ r'.state = .closed ∧ r'.digest = some (heldDigest (s.entryOf n)) ∧ r'.flags = r.flags)
          ∧ t = { s with journal := t.journal, port := t.port, writer := t.writer, verify := t.verify })
      ∧ (sl.amend = true → s.canWriteJournal = false →
        ∃ t sl' r', exec (.journalWriteComplete id true) s = .next t ∧ t.slotAt n = some sl' ∧ sl'.inFlight = false
          ∧ sl'.amend = false ∧ sl'.firstDone = true ∧ sl'.entry = .record r' ∧ r'.flags = setFlag .unsaved r.flags
          ∧ t = { s with journal := t.journal, port := t.port, writer := t.writer, verify := t.verify }))
    ∧ (∀ (s : State) (id n : Nat) (op : Op), s.outstandingOp id OpKind.isJournalWrite = some op → op.kind = .journalWrite n →
        s.media.state ≠ .faulted → op.attempt < 4 → op.block.isSome = true →
        ∃ t o, exec (.journalWriteComplete id false) s = .next t ∧ o ∈ t.port.waiting ++ t.port.outstanding
          ∧ o.kind = op.kind ∧ o.attempt = op.attempt + 1 ∧ o.block = op.block ∧ o.isFinal = op.isFinal
          ∧ t = { s with journal := t.journal, port := t.port, writer := t.writer, verify := t.verify })
    ∧ (∀ s : State,
        ((∀ n sl, s.slotAt n = some sl → sl.held = true → s.provisionalHeld n = true) →
          exec .deferredProvisionalWrite s = .next s)
        ∧ ∀ (n : Nat) (sl : MirrorSlot) (r : Record), s.slotAt n = some sl → sl.held = true → sl.inFlight = false →
          sl.entry = .record r → s.provisionalHeld n = false →
          (∀ m slm, m < n → s.slotAt m = some slm → slm.held = true → s.provisionalHeld m = true) →
          ∃ t sl', exec .deferredProvisionalWrite s = .next t ∧ t.slotAt n = some sl' ∧ sl'.held = false
            ∧ (s.canWriteJournal = true → sl'.inFlight = true ∧ t.Asked (.journalWrite n) 1)
            ∧ (s.canWriteJournal = false → ∃ r', sl'.entry = .record r' ∧ hasFlag r'.flags .unsaved = true))
    ∧ (∀ s : State, (4 ≤ s.port.outstanding.length ∨ s.port.waiting = [] → s.grantOne = s)
      ∧ ∀ (before after : List Op) (op : Op), s.port.outstanding.length < 4 → s.port.waiting = before ++ op :: after →
        (s.port.waiting.map (·.id)).Nodup → (∀ x ∈ before, op.kind.priority < x.kind.priority) →
        (∀ x ∈ after, op.kind.priority ≤ x.kind.priority) →
        s.grantOne.port.waiting = before ++ after
          ∧ ∃ o, s.grantOne.port.outstanding = s.port.outstanding ++ [o] ∧ o.id = op.id ∧ o.kind = op.kind ∧ o.attempt = op.attempt
            ∧ (∀ block, op.block = some block → o = op)
            ∧ (∀ n r c held bytes final settled, op.kind = .journalWrite n → op.block = none → s.recordAt n = some r →
                bytes = s.durableBytes n → held = heldDigest (s.entryOf n) → final = s.finalDue n →
                settled = (final || r.state == .closed || r.state == .verified || r.state == .damaged) →
                c = { r with
                  state := if final then .closed else if r.state = .closing then .opened else r.state
                  stop := if settled then r.stop else none
                  digest := if final then some held else if settled then r.digest else none
                  extents := durableExtents r bytes
                  durable := durableFrames r bytes } →
                o.block = some (recordBlock c) ∧ o.isFinal = final
                  ∧ s.grantOne.recordAt n = some { r with durable := durableFrames r bytes })
            ∧ (∀ b i phase seg e, op.kind = .segmentWrite b i → b < 8 → s.buffer b = .used phase seg → s.entryOf seg.take = some e →
                (∃ seg', s.grantOne.buffer b = .used .inFlight seg' ∧ seg'.tapped = true ∧ seg'.data = seg.data)
                ∧ (seg.tapped = true → s.grantOne.entryOf seg.take = some e)
                ∧ (∀ crc d, seg.tapped = false →
                    crc = crc32Feed (if seg.tag = some .first ∨ seg.tag = some .only then crc32Init else e.digest.register) seg.data →
                    d = (if seg.tag = some .last ∨ seg.tag = some .only then WriteDigest.finished (crc32Finish crc)
                      else WriteDigest.running crc) →
                    s.grantOne.entryOf seg.take = some { e with digest := d })))
    ∧ ∀ (r : Record) (bytes : Nat), durableFrames r (some bytes) = bytes / r.frameBytes
      ∧ blocksOf (durableExtents r (some bytes)) = (blocksOf r.extents).take ((bytes + 4095) / 4096)

/-- The fourth failure of a segment's writes (R137, R114, R144), at a block that does not join the defect list, and of a journal write
(R86, R92, R114): the media faults, with its STATE frame and, for a preparation or a release, its ABORTED report (R147). -/
def Obligations.FourthWriteFailureFaultsTheMedia : Prop :=
  ∀ (s : State) (id : Nat) (op : Op), s.Coherent → s.media.state ≠ .faulted →
    (∀ (b i bad : Nat) (phase : BufferPhase) (seg : Segment) (p : Piece),
      s.outstandingOp id OpKind.isSegmentWrite = some op → op.kind = .segmentWrite b i → s.buffer b = .used phase seg →
      seg.orphan = false → 3 ≤ seg.failures → seg.writes[i]? = some p → p.first ≤ bad → bad < p.first + p.count →
      ∃ t, exec (.segmentWriteComplete id (some bad)) s = .next t ∧ s.FaultsMedia t)
    ∧ (∀ n : Nat, s.outstandingOp id OpKind.isJournalWrite = some op → op.kind = .journalWrite n → 4 ≤ op.attempt →
      ∃ t, exec (.journalWriteComplete id false) s = .next t ∧ s.FaultsMedia t)

/-! ### Media manager -/

/-- CARD_INSERTION (R103, R107): only an ABSENT card is inserted; the media is MOUNTING with the level of WPROT, and the size read is asked.
CARD_REMOVAL (R58, R93, R100, R115, R145, R157): nothing of the card is left but the profile in use, the station is OFFLINE, and a
long operation ends MEDIA CHANGED after the STATE frame. That the verify unit's counts, marks and extent list stay as they stood is the
model's choice (notes/assumptions/18). -/
def Obligations.CardInsertionAndRemoval : Prop :=
  (∀ (wprot : Bool) (s : State),
      (s.media.state ≠ .absent → exec (.cardInsertion wprot) s = .next s)
      ∧ (s.media.state = .absent →
        ∃ t, exec (.cardInsertion wprot) s = .next t
          ∧ t.media = { s.media with state := .mounting, protectMark := wprot, mount := .sizing }
          ∧ t.Asked .sizeRead 1 ∧ t.link = s.link.enqueueState t.stateContent
          ∧ t.engine = s.engine ∧ t.intake = s.intake ∧ t.slate = s.slate ∧ t.timecode = s.timecode))
    ∧ (∀ s : State,
        (s.media.state = .absent → exec .cardRemoval s = .next s)
        ∧ (s.media.state ≠ .absent →
          ∃ t, exec .cardRemoval s = .next t
            ∧ t.media = { State.reset.media with profile := s.media.profile }
            ∧ t.journal = { mirror := [], nextIndex := 1 } ∧ t.port = { waiting := [], outstanding := [], nextOp := s.port.nextOp }
            ∧ t.writer.queue = [] ∧ (∀ i : Fin 8, t.writer.buffers[i] = .free)
            ∧ t.verify = { s.verify with slot := .idle, window := [], digest := none }
            ∧ t.engine = { s.engine with takeState := .offline, openTake := none, holders := [], pendingStop := none }
            ∧ (∀ l, l = s.link.enqueueState t.stateContent →
                t.link = (match s.verify.slot with
                  | .idle => l
                  | .verifying who n => l.enqueueReport (who.report .verifyTake .mediaChanged .none (le 2 n))
                  | .preparing who _ => l.enqueueReport (who.report .prepareMedia .mediaChanged .none [])
                  | .releasing who => l.enqueueReport (who.report .releaseMedia .mediaChanged .none [])))
            ∧ t.intake = s.intake ∧ t.timecode = s.timecode ∧ t.slate = s.slate))

/-- SIZE_READ_COMPLETE (R104, R107, R108). -/
def Obligations.SizeReadSetsTheCapacity : Prop :=
  ∀ (s : State) (id : Nat) (op : Op), s.Coherent → s.outstandingOp id OpKind.isSizeRead = some op → op.kind = .sizeRead →
    s.media.mount = .sizing →
    (∀ blocks, 5121 ≤ blocks →
      ∃ t, exec (.sizeReadComplete id (some blocks)) s = .next t
        ∧ t.media = { s.media with capacity := some (min blocks (2 ^ 32)), mount := .header } ∧ t.Asked .headerRead 1
        ∧ t = { s with media := t.media, port := t.port, verify := t.verify })
    ∧ (∀ blocks, blocks < 5121 →
      ∃ t, exec (.sizeReadComplete id (some blocks)) s = .next t
        ∧ t.media = { s.media with capacity := some blocks, mount := .none, state := .unprepared }
        ∧ t.link = s.link.enqueueState t.stateContent
        ∧ t = { s with media := t.media, port := t.port, verify := t.verify, link := t.link })
    ∧ (op.attempt < 4 →
      ∃ t, exec (.sizeReadComplete id none) s = .next t ∧ t.Asked .sizeRead (op.attempt + 1)
        ∧ t = { s with port := t.port, verify := t.verify })
    ∧ (4 ≤ op.attempt →
      ∃ t, exec (.sizeReadComplete id none) s = .next t
        ∧ t.media = { s.media with capacity := some 0, mount := .none, state := .unprepared }
        ∧ t.link = s.link.enqueueState t.stateContent)

/-- HEADER_READ_COMPLETE (R4, R6, R22, R105–R108): a valid header loads its profile and begins the scan of slots 1 to 32; a header that
is not, or that cannot be read, leaves the card UNPREPARED. A clock that the new rate stops is announced by one STATE frame (R4). -/
def Obligations.HeaderReadLoadsTheProfile : Prop :=
  ∀ (s : State) (id : Nat) (op : Op), s.Coherent → s.outstandingOp id OpKind.isHeaderRead = some op → op.kind = .headerRead →
    s.media.mount = .header →
    (∀ block h, decodeHeader (s.media.capacity.getD 0) block = some h →
      ∃ t, exec (.headerReadComplete id (some block)) s = .next t
        ∧ s.LoadsProfile h.profile t
        ∧ t.media = { s.media with
            generation := some h.generation, headerProfile := some h.profile, defects := h.defects, overflowed := h.overflowed
            profile := t.media.profile, mount := .scan 1 32 0 [] }
        ∧ (∀ k, 1 ≤ k → k ≤ 32 → t.Asked (.slotRead k) 1)
        ∧ t.engine = { s.engine with followSet := t.engine.followSet }
        ∧ t.link = (if s.intake.clock = .running ∧ s.intake.rate ≠ h.profile.rate then s.link.enqueueState t.stateContent else s.link)
        ∧ t = { s with
            media := t.media, intake := t.intake, engine := t.engine, timecode := t.timecode, port := t.port, verify := t.verify
            link := t.link })
    ∧ (∀ block, (block = none ∧ 4 ≤ op.attempt)
          ∨ (∃ bs, block = some bs ∧ decodeHeader (s.media.capacity.getD 0) bs = none) →
      ∃ t, exec (.headerReadComplete id block) s = .next t
        ∧ t.media = { s.media with mount := .none, state := .unprepared } ∧ t.link = s.link.enqueueState t.stateContent
        ∧ t = { s with media := t.media, port := t.port, verify := t.verify, link := t.link })
    ∧ (op.attempt < 4 →
      ∃ t, exec (.headerReadComplete id none) s = .next t ∧ t.Asked .headerRead (op.attempt + 1)
        ∧ t = { s with port := t.port, verify := t.verify })

/-- SLOT_READ_COMPLETE (R95–R99, R107). Slots are examined in ascending order. A record of this generation enters the mirror, and an
unreadable slot as UNREADABLE; after the last slot of a batch the next 32 are asked. A blank slot or a record of another generation
ends the scan, and so does the eighth UNREADABLE entry of a run, whose entries are removed, and slot 4,096 once it is examined. A
failed read is asked again and is unreadable after its fourth failure; a result of a later slot waits until its turn. That a failed
read of a slot beyond the end of the scan is not asked again is the model's reading (notes/assumptions/19). -/
def Obligations.SlotReadGoesOnOrEndsTheScan : Prop :=
  (∀ (s : State) (id next last run : Nat) (op : Op) (block : Option (List Byte)) (results : List (Nat × Option (List Byte)))
    (c : SlotClass),
    s.Coherent → s.outstandingOp id OpKind.isSlotRead = some op → op.kind = .slotRead next →
    s.media.mount = .scan next last run results → (∀ x ∈ results, x.1 ≠ next) → (block = none → 4 ≤ op.attempt) →
    c = classifySlot (s.media.capacity.getD 0) (s.media.generation.getD 0) next block →
    (∀ run' entry, (∃ r, c = .record r ∧ entry = .record r ∧ run' = 0)
          ∨ (c = .unreadable ∧ entry = .unreadable ∧ run' = run + 1 ∧ run' < 8) →
      (next < last → last ≤ 4096 → (∀ x ∈ results, x.1 ≠ next + 1) →
        ∃ t, exec (.slotReadComplete id block) s = .next t
          ∧ t.journal = { s.journal with mirror := s.journal.mirror ++
              [{ entry := entry, inFlight := false, amend := false, firstDone := true, held := false, keptBytes := none }] }
          ∧ t.media = { s.media with mount := .scan (next + 1) last run' results }
          ∧ t = { s with journal := t.journal, media := t.media, port := t.port, verify := t.verify })
      ∧ (∀ content r2, next + 1 < last → last ≤ 4096 → results = [(next + 1, content)] →
        classifySlot (s.media.capacity.getD 0) (s.media.generation.getD 0) (next + 1) content = .record r2 →
        ∃ t, exec (.slotReadComplete id block) s = .next t
          ∧ t.journal.mirror.map (·.entry) = s.journal.mirror.map (·.entry) ++ [entry, .record r2]
          ∧ t.media = { s.media with mount := .scan (next + 2) last 0 [] })
      ∧ (next = last → last < 4096 → results = [] →
        ∃ t, exec (.slotReadComplete id block) s = .next t
          ∧ t.journal.mirror.map (·.entry) = s.journal.mirror.map (·.entry) ++ [entry]
          ∧ t.media = { s.media with mount := .scan (next + 1) (last + 32) run' [] }
          ∧ (∀ k, last < k → k ≤ last + 32 → t.Asked (.slotRead k) 1))
      ∧ (next = 4096 → results = [] →
        ∃ t, exec (.slotReadComplete id block) s = .next t
          ∧ s.EndsScan (s.journal.mirror ++
              [{ entry := entry, inFlight := false, amend := false, firstDone := true, held := false, keptBytes := none }]) t))
    ∧ (c = .unreadable → run = 7 →
      ∃ t, exec (.slotReadComplete id block) s = .next t
        ∧ s.EndsScan (s.journal.mirror.take (s.journal.mirror.length - 7)) t)
    ∧ (c = .blank ∨ c = .otherGeneration →
      ∃ t, exec (.slotReadComplete id block) s = .next t ∧ s.EndsScan s.journal.mirror t
        ∧ t.media = { s.media with
            mount := .none, state := if s.media.protectMark then .writeProtected else .ready, cursor := t.media.cursor }
        ∧ t.journal.nextIndex = next ∧ t.journal.mirror.length + 1 = next
        ∧ (∃ cursor, t.media.cursor = some cursor ∧ 4097 ≤ cursor
            ∧ ∀ n r x, s.recordAt n = some r → x ∈ r.extents → x.first + x.count ≤ cursor)
        ∧ (∀ n r, s.recordAt n = some r → r.state ≠ .opened → t.recordAt n = some r)
        ∧ (∀ n r, s.recordAt n = some r → r.state = .opened → ∃ r', t.recordAt n = some r'
            ∧ r' = { r with
                state := .interrupted, stop := none, digest := none, recorded := r.durable, flags := r'.flags }
            ∧ hasFlag r'.flags .recovered = true ∧ (hasFlag r.flags .unsaved = false →
                (hasFlag r'.flags .unsaved = true ↔ s.media.protectMark = true))
            ∧ (∀ sl, s.media.protectMark = false → s.slotAt n = some sl → sl.held = false → sl.inFlight = false →
                t.Asked (.journalWrite n) 1))
        ∧ t.link = s.link.enqueueState t.stateContent))
    ∧ (∀ (s : State) (id k next last run : Nat) (op : Op) (block : Option (List Byte)) (results : List (Nat × Option (List Byte))),
      s.Coherent → s.outstandingOp id OpKind.isSlotRead = some op → op.kind = .slotRead k →
      s.media.mount = .scan next last run results →
      (block = none → op.attempt < 4 →
        ∃ t, exec (.slotReadComplete id block) s = .next t ∧ t.Asked (.slotRead k) (op.attempt + 1)
          ∧ t = { s with port := t.port, verify := t.verify })
      ∧ (k ≠ next → (block = none → 4 ≤ op.attempt) → (∀ x ∈ results, x.1 ≠ next) →
        ∃ t, exec (.slotReadComplete id block) s = .next t
          ∧ t.media = { s.media with mount := .scan next last run (results ++ [(k, block)]) }
          ∧ t = { s with media := t.media, port := t.port, verify := t.verify }))
    ∧ ∀ (s : State) (id : Nat) (op : Op) (block : Option (List Byte)), s.media.mount = .none →
      s.outstandingOp id OpKind.isSlotRead = some op → s.port.waiting = [] →
        exec (.slotReadComplete id block) s = .next (s.release id)

/-- HEADER_WRITE_COMPLETE (R111, R114): at success a rewrite that is pending is asked, or given up on a card whose header takes no
rewrite, and a failed rewrite is written again, up to 4 times. That a rewrite which is given up at its fourth failure also clears the
pending flag is the model's choice (notes/assumptions/17). -/
def Obligations.HeaderWriteCompletesOrIsRetried : Prop :=
  ∀ (s : State) (id : Nat) (op : Op), s.Coherent → s.outstandingOp id OpKind.isHeaderWrite = some op → op.kind = .headerWrite →
    (s.media.headerPending = false →
      ∃ t, exec (.headerWriteComplete id true) s = .next t
        ∧ t.media = { s.media with headerInFlight := false, headerPending := false }
        ∧ t = { s with
            media := t.media, journal := t.journal, port := t.port, writer := t.writer, verify := t.verify })
    ∧ (s.media.headerPending = true → s.canWriteJournal = true →
      ∃ t, exec (.headerWriteComplete id true) s = .next t
        ∧ t.media = { s.media with headerInFlight := true, headerPending := false } ∧ t.Asked .headerWrite 1)
    ∧ (s.media.headerPending = true → s.canWriteJournal = false →
      ∃ t, exec (.headerWriteComplete id true) s = .next t
        ∧ t.media = { s.media with headerInFlight := false, headerPending := false } ∧ t.port.nextOp = s.port.nextOp
        ∧ t = { s with
            media := t.media, journal := t.journal, port := t.port, writer := t.writer, verify := t.verify })
    ∧ (s.media.state ≠ .faulted → op.attempt < 4 →
      ∃ t, exec (.headerWriteComplete id false) s = .next t ∧ t.media = s.media ∧ t.Asked .headerWrite (op.attempt + 1))
    ∧ (s.media.state ≠ .faulted → 4 ≤ op.attempt →
      ∃ t, exec (.headerWriteComplete id false) s = .next t ∧ s.FaultsMedia t
        ∧ t.media.headerInFlight = false ∧ t.media.headerPending = false)

/-- OPERATION_TIMEOUT (R121): an outstanding operation ends as a failure of its kind, a segment write at its first block; one that is
not outstanding has no timeout. -/
def Obligations.TimeoutIsAFailureOfTheOperation : Prop :=
  ∀ (s : State) (id : Nat) (op : Op), s.port.Sound →
    ((∀ o ∈ s.port.outstanding, o.id ≠ id) → exec (.operationTimeout id) s = .next s)
    ∧ (op ∈ s.port.outstanding → op.id = id →
      ∃ t, exec (.operationTimeout id) s = .next t ∧ (∀ o ∈ t.port.outstanding, o.id ≠ id)
        ∧ (match op.kind with
          | .sizeRead => exec (.sizeReadComplete id none) s = .next t
          | .headerRead => exec (.headerReadComplete id none) s = .next t
          | .slotRead _ => exec (.slotReadComplete id none) s = .next t
          | .verifyRead _ _ => exec (.verifyReadComplete id none) s = .next t
          | .journalWrite _ => exec (.journalWriteComplete id false) s = .next t
          | .headerWrite => exec (.headerWriteComplete id false) s = .next t
          | .prepareHeader => exec (.prepareHeaderWriteComplete id false) s = .next t
          | .prepareZero => exec (.prepareZeroWriteComplete id false) s = .next t
          | .segmentWrite b i => s.blockInWrite b i (s.firstBlockOf b i) = true →
              exec (.segmentWriteComplete id (some (s.firstBlockOf b i))) s = .next t))

/-- PREPARE_HEADER_WRITE_ASK and PREPARE_HEADER_WRITE_COMPLETE (R118): the new header is written once the writes before it have
drained, and then slot 1 is zeroed. -/
def Obligations.PreparationWritesTheHeaderThenSlotOne : Prop :=
  ∀ (s : State) (who : Requester) (plan : PreparePlan), s.Coherent → s.port.Sound → s.verify.slot = .preparing who plan →
    (plan.phase = .waiting → s.writesPending = true → exec .prepareHeaderWriteAsk s = .next s)
    ∧ (plan.phase = .waiting → s.writesPending = false →
      ∃ t o, exec .prepareHeaderWriteAsk s = .next t
        ∧ t.verify = { s.verify with slot := .preparing who { plan with phase := .header }, window := t.verify.window }
        ∧ o ∈ t.port.waiting ++ t.port.outstanding ∧ o.kind = .prepareHeader ∧ o.attempt = 1
        ∧ o.block = some (headerBlock
            { generation := plan.generation, profile := plan.profile, overflowed := false, defects := plan.defects })
        ∧ t = { s with verify := t.verify, port := t.port })
    ∧ (∀ id op, plan.phase = .header → s.outstandingOp id OpKind.isPrepareHeader = some op → op.kind = .prepareHeader →
      (∃ t o, exec (.prepareHeaderWriteComplete id true) s = .next t
        ∧ t.verify.slot = .preparing who { plan with phase := .zero }
        ∧ o ∈ t.port.waiting ++ t.port.outstanding ∧ o.kind = .prepareZero ∧ o.attempt = 1
        ∧ o.block = some (List.replicate 4096 0) ∧ t.media = s.media ∧ t.link = s.link)
      ∧ (op.attempt < 4 → ∃ t, exec (.prepareHeaderWriteComplete id false) s = .next t
        ∧ t.verify.slot = s.verify.slot ∧ t.Asked .prepareHeader (op.attempt + 1) ∧ t.media = s.media)
      ∧ (4 ≤ op.attempt → s.media.state ≠ .faulted →
        ∃ t, exec (.prepareHeaderWriteComplete id false) s = .next t ∧ s.FaultsMedia t
          ∧ t.link = (s.link.enqueueState t.stateContent).enqueueReport
              (who.report .prepareMedia .aborted .none [MediaState.faulted.code])))

/-- PREPARE_ZERO_WRITE_COMPLETE (R118): PREPARE MEDIA completes with an empty journal of the new generation on a READY card, with the
new profile loaded (R4, R6, R22, R38, R106).
RELEASE_COMPLETE (R119, R147): once no journal, header or preparation write is left, the media is RELEASED; the fourth failure of a
write that it waits for ends it ABORTED, also on a card that was FAULTED before. The 2 bytes of the defect count in the DONE report
(notes/assumptions/12) and the flags that such a failure clears (notes/assumptions/17) are the model's choice. -/
def Obligations.PreparationAndReleaseComplete : Prop :=
  (∀ (s : State) (who : Requester) (plan : PreparePlan) (id : Nat) (op : Op), s.Coherent →
      s.verify.slot = .preparing who plan → plan.phase = .zero →
      s.outstandingOp id OpKind.isPrepareZero = some op → op.kind = .prepareZero →
      (∃ t, exec (.prepareZeroWriteComplete id true) s = .next t
        ∧ s.LoadsProfile plan.profile t
        ∧ t.journal = { mirror := [], nextIndex := 1 }
        ∧ t.media = { s.media with
            state := .ready, generation := some plan.generation, defects := plan.defects, overflowed := false
            headerInFlight := false, headerPending := false, cursor := some 4097, headerProfile := some plan.profile
            profile := t.media.profile }
        ∧ t.verify = { s.verify with slot := .idle, window := t.verify.window }
        ∧ t.engine = { s.engine with
            followSet := t.engine.followSet
            takeState := if s.intake.clock = .running ∧ s.intake.rate = plan.profile.rate then .standby else .offline }
        ∧ (∀ l, l = (if s.media.state = .ready ∧ (s.intake.clock = .lost ∨ s.intake.rate = plan.profile.rate) then s.link
              else s.link.enqueueState t.stateContent) →
            t.link = l.enqueueReport (who.report .prepareMedia .done .none
              (le 2 plan.generation ++ le 2 plan.defects.length ++ [MediaState.ready.code])))
        ∧ t = { s with
            journal := t.journal, media := t.media, intake := t.intake, timecode := t.timecode, engine := t.engine, port := t.port
            writer := { s.writer with buffers := t.writer.buffers }, verify := t.verify, link := t.link })
      ∧ (op.attempt < 4 → ∃ t, exec (.prepareZeroWriteComplete id false) s = .next t
        ∧ t.verify.slot = s.verify.slot ∧ t.Asked .prepareZero (op.attempt + 1) ∧ t.media = s.media)
      ∧ (4 ≤ op.attempt → s.media.state ≠ .faulted →
        ∃ t, exec (.prepareZeroWriteComplete id false) s = .next t ∧ s.FaultsMedia t))
    ∧ (∀ (s : State) (who : Requester), s.Coherent → s.verify.slot = .releasing who →
      (s.writesPending = true → exec .releaseComplete s = .next s)
      ∧ (s.writesPending = false → s.media.state ≠ .released →
        ∃ t, exec .releaseComplete s = .next t
          ∧ t.media = { s.media with state := .released } ∧ t.verify = { s.verify with slot := .idle }
          ∧ t.engine = { s.engine with takeState := .offline }
          ∧ t.link = (s.link.enqueueState t.stateContent).enqueueReport
              (who.report .releaseMedia .done .none [MediaState.released.code])
          ∧ t = { s with media := t.media, verify := t.verify, engine := t.engine, link := t.link })
      ∧ (∀ c, ((∃ id op n, c = .journalWriteComplete id false ∧ s.outstandingOp id OpKind.isJournalWrite = some op
              ∧ op.kind = .journalWrite n ∧ 4 ≤ op.attempt)
            ∨ (∃ id op, c = .headerWriteComplete id false ∧ s.outstandingOp id OpKind.isHeaderWrite = some op
              ∧ op.kind = .headerWrite ∧ 4 ≤ op.attempt)) →
        ∃ t, exec c s = .next t ∧ t.media.state = .faulted ∧ t.verify.slot = .idle
          ∧ t.link = (if s.media.state = .faulted then s.link else s.link.enqueueState t.stateContent).enqueueReport
              (who.report .releaseMedia .aborted .none [MediaState.faulted.code])))

/-! ### Verify unit -/

/-- VERIFY_READ_COMPLETE (R150–R152) of the position at the cursor, where the read order goes on: a block read is digested as far as its
data goes, the cursor runs on over every position that is held or given up, and the first read of every position that comes into the
window is asked; the fourth failure of a read counts a bad block that is digested as zeros. A position read out of order is held until
the cursor reaches it. A failed read below the fourth is asked again, wherever in the window its position stands. The completion of a
read that no window entry names, or that comes while no verify runs, frees its slot and does nothing else (R156). The freed slot may be
granted to a waiting operation. -/
def Obligations.VerifyReadMovesTheWindow : Prop :=
  (∀ (s : State) (who : Requester) (n id a : Nat) (op : Op) (rest : List WindowEntry),
    s.verify.Sound → s.port.Sound → s.verify.slot = .verifying who n → s.outstandingOp id OpKind.isVerifyRead = some op →
    (∃ k b, op.kind = .verifyRead k b) →
    (∀ more, s.verify.window = .outstanding id a :: (more ++ rest) → (∀ x ∈ more, x.ended = true) →
      (∀ x ∈ rest, x.reads id = false) → (∀ x ∈ rest.head?, x.ended = false) →
      s.verify.cursor + 1 + more.length < s.verify.positions →
      ∀ block, block ≠ none ∨ 4 ≤ op.attempt → ∃ t, exec (.verifyReadComplete id block) s = .next t
        ∧ t.verify = { s.verify with
            cursor := s.verify.cursor + 1 + more.length, window := t.verify.window
            readOk := s.verify.readOk + (if block = none then 0 else 1)
            badBlocks := s.verify.badBlocks + (if block = none then 1 else 0)
            digest := some (s.verify.takingAll s.verify.cursor (WindowEntry.after op.attempt block :: more)
              (s.verify.digest.getD crc32Init)) }
        ∧ t.verify.window.length = min 4 (s.verify.positions - (s.verify.cursor + 1 + more.length))
        ∧ WindowStands rest t.verify.window
        ∧ (∀ i k b, rest.length ≤ i → i < t.verify.window.length → k = s.verify.cursor + 1 + more.length + i →
            orderBlock s.verify.extents k = some b → t.ReadAsked i k b 1 ∧ t.Asked (.verifyRead k b) 1)
        ∧ t = { s with verify := t.verify, port := t.port, journal := t.journal, writer := t.writer })
    ∧ (∀ before k b, s.verify.window = before ++ .outstanding id a :: rest → (∀ x ∈ before ++ rest, x.reads id = false) →
      op.kind = .verifyRead k b → op.attempt < 4 → ∃ t, exec (.verifyReadComplete id none) s = .next t
        ∧ t.verify = { s.verify with window := t.verify.window } ∧ t.verify.window.length = s.verify.window.length
        ∧ WindowStands before t.verify.window ∧ WindowStands rest (t.verify.window.drop (before.length + 1))
        ∧ t.ReadAsked before.length k b (op.attempt + 1) ∧ t.Asked op.kind (op.attempt + 1)
        ∧ t = { s with verify := t.verify, port := t.port, journal := t.journal, writer := t.writer })
    ∧ ∀ first before, s.verify.window = first :: (before ++ .outstanding id a :: rest) → first.ended = false →
      (∀ x ∈ first :: before ++ rest, x.reads id = false) →
      ∀ block, block ≠ none ∨ 4 ≤ op.attempt → ∃ t window, exec (.verifyReadComplete id block) s = .next t
        ∧ window = first :: (before ++ WindowEntry.after op.attempt block :: rest)
        ∧ t.verify = { s.verify with
            window := t.verify.window
            readOk := s.verify.readOk + (if block = none then 0 else 1)
            badBlocks := s.verify.badBlocks + (if block = none then 1 else 0) }
        ∧ t.verify.window.map (·.ended) = window.map (·.ended) ∧ WindowStands window t.verify.window
        ∧ t.verify.window[before.length + 1]? = some (WindowEntry.after op.attempt block)
        ∧ t.port.nextOp = s.port.nextOp
        ∧ t = { s with verify := t.verify, port := t.port, journal := t.journal, writer := t.writer })
    ∧ ∀ (s : State) (id : Nat) (op : Op) (block : Option (List Byte)), s.port.Sound →
      s.outstandingOp id OpKind.isVerifyRead = some op →
      s.verify.slot.isVerifying = false ∨ (∀ x ∈ s.verify.window, x.reads id = false) →
      ∃ t, exec (.verifyReadComplete id block) s = .next t
        ∧ (∀ o ∈ t.port.waiting ++ t.port.outstanding, o.id ≠ id ∧ ∃ p ∈ s.port.waiting ++ s.port.outstanding, p.id = o.id)
        ∧ t.port.nextOp = s.port.nextOp ∧ (s.port.waiting = [] → t = s.release id)
        ∧ t.verify = { s.verify with window := t.verify.window } ∧ t.verify.window.length = s.verify.window.length
        ∧ WindowStands s.verify.window t.verify.window
        ∧ t = { s with verify := t.verify, port := t.port, journal := t.journal, writer := t.writer }

/-- VERIFY_READ_COMPLETE that brings the cursor to the end of the read order (R151–R154, R192), by a block read or by the fourth failure of
its read: VERIFIED exactly when every block was read, none was missing and the digest is the recorded one, else DAMAGED; the outcome
is reported, the slot is IDLE, and an amendment of the record is asked, or UNSAVED set on a card that takes no writes. Two points are
the model's choice (DESIGN CHOICE, notes/assumptions/18): the hand-on, or UNSAVED, also for an outcome that leaves the record's state as
it was; and at a shortfall, which bytes of the last position read are digested: all 4,096, as it is not the last of the stream. -/
def Obligations.LastVerifyReadDecidesTheOutcome : Prop :=
  ∀ (s : State) (who : Requester) (n id a bad good : Nat) (op : Op) (more : List WindowEntry) (r : Record)
    (block : Option (List Byte)) (d : Word32) (ok : Bool),
    s.verify.slot = .verifying who n → s.outstandingOp id OpKind.isVerifyRead = some op →
    (∃ k b, op.kind = .verifyRead k b) → s.verify.window = .outstanding id a :: more → (∀ x ∈ more, x.ended = true) →
    more.length ≤ 3 → s.verify.cursor + 1 + more.length = s.verify.positions → s.recordAt n = some r → r.state ≠ .opened →
    r.state ≠ .closing → block ≠ none ∨ 4 ≤ op.attempt →
    bad = s.verify.badBlocks + (if block = none then 1 else 0) → good = s.verify.readOk + (if block = none then 0 else 1) →
    d = crc32Finish (s.verify.takingAll s.verify.cursor (WindowEntry.after op.attempt block :: more)
      (s.verify.digest.getD crc32Init)) →
    ok = (decide (bad = 0) && !s.verify.shortfall && decide (r.digest = some d)) →
    ∃ t r' detail, exec (.verifyReadComplete id block) s = .next t ∧ t.recordAt n = some r'
      ∧ r' = { r with state := if ok then .verified else .damaged, flags := r'.flags, durable := r'.durable }
      ∧ r'.flags = (if s.canWriteJournal = true then r.flags else setFlag .unsaved r.flags)
      ∧ (s.canWriteJournal = true → s.port.Sound → s.HandsOn n t)
      ∧ t.verify.slot = .idle ∧ t.verify.window = [] ∧ t.verify.digest = none
      ∧ detail = (if 0 < bad then Detail.readErrors else if ok then .none else .digestMismatch)
      ∧ t.link = s.link.enqueueReport (who.report .verifyTake .done detail
          (le 2 n ++ [r'.state.code] ++ le 4 bad ++ le 4 good ++ le 4 d.toNat))
      ∧ t = { s with verify := t.verify, journal := t.journal, port := t.port, writer := t.writer, link := t.link }

/-! ### Cart link -/

/-- RECEIVE_FILTER_DISCARD, REPORT_RECEIVED and every other received frame (R163–R165): what fails a check of the filter, is not for
this station, or comes while the station itself is sending (notes/assumptions/28), has no effect, and a REPORT taken has none but
STATION CONFLICT when it bears the own number. R164: a frame is for this station when its destination is 0 and it is no REQUEST, or its
destination is the own number, whatever its kind; so a LISTEN-ONLY station takes the frames for all, and no REQUEST. Every request
(R176 step 1, R196): a REQUEST of a form that its kind does not have is REFUSED with BAD ARGUMENT; on a card that is being scanned every
kind but QUERY STATUS is REFUSED with NO MEDIA (R177, R116, R148). -/
def Obligations.UntakenFramesAndBadRequestsChangeNothing : Prop :=
  (∀ (w : Wire) (s : State),
      exec (.receiveFilterDiscard w) s = .next s
      ∧ (∀ f, s.takenFrame .report w = some f →
          exec (.reportReceived w) s = .next { s with link := { s.link with
            conflict := s.link.conflict || decide (f.sender = s.link.station) } })
      ∧ ((acceptFrame w = none ∨ s.link.driving.isSome = true ∨ ∃ f, acceptFrame w = some f ∧ takenBy s.link.station f = false) →
          ∀ c ∈ [Instr.roll w, .cut w, .state w, .mark w, .note w, .jam w, .reportReceived w, .unknownRequest w, .queryStatus w,
              .queryMeters w, .queryTake w, .searchJournal w, .arm w, .mix w, .verifyTake w, .prepareMedia w, .releaseMedia w,
              .abort w], exec c s = .next s))
    ∧ (∀ (own : Nat) (f : Frame), takenBy own f = true ↔ (f.dest = 0 ∧ f.kind ≠ .request) ∨ (f.dest ≠ 0 ∧ f.dest = own))
    ∧ (∀ (s : State) (k : FrameKind) (w : Wire) (f : Frame), s.takenFrame k w = some f ↔
        s.link.driving = none ∧ acceptFrame w = some f ∧ f.kind = k
          ∧ ((f.dest = 0 ∧ k ≠ .request) ∨ (f.dest ≠ 0 ∧ f.dest = s.link.station)))
    ∧ (∀ (s : State) (k : FrameKind) (w : Wire), s.link.station = 0 ∨ s.link.station = 31 →
        s.takenFrame .request w = none ∧ ∀ f, s.takenFrame k w = some f → f.dest = 0)
    ∧ (∀ (k : RequestKind) (w : Wire) (s : State) (f : Frame) (q : Request), s.TakesRequest k w f q →
        (formOk k q.args = false →
          exec (k.command w) s = .next { s with link := (s.noteConflict f).link.enqueueReport (q.report .refused .badArgument []) })
        ∧ (formOk k q.args = true → s.media.state = .mounting → k ≠ .queryStatus → s.port.Sound →
          exec (k.command w) s = .next { s with link := (s.noteConflict f).link.enqueueReport (q.report .refused .noMedia []) }))

/-- R161–R163, R194: what a station sends as a frame, each byte most significant bit first, is what the filter takes, and the filter
takes nothing else. -/
def Obligations.FilterTakesExactlyTheFrames : Prop :=
  ∀ (w : Wire) (f : Frame),
    acceptFrame w = some f ↔
      1 ≤ f.sender ∧ f.sender ≤ 30 ∧ f.dest ≤ 30 ∧ f.payload.length ≤ 240
        ∧ (∀ n, (f.kind, n) ∈ [(FrameKind.roll, 8), (.cut, 8), (.mark, 11), (.jam, 5), (.state, 9)] → f.payload.length = n)
        ∧ w.bits = (frameBytes f.sender f.dest f.kind f.payload).flatMap fun b => [7, 6, 5, 4, 3, 2, 1, 0].map fun i => b.getLsbD i

/-- R39, R172: what a STATE frame carries of the state at the moment when it is queued. R160, R170, R171: where a frame to be queued is
placed in the transmit queue. -/
def Obligations.TransmitQueuePlacesFrames : Prop :=
  (∀ (s : State) (c : StateContent), c = s.stateContent →
      c.take = s.engine.takeState ∧ c.media = s.media.state ∧ c.clock = s.intake.clock ∧ c.reason = s.engine.refusal
        ∧ c.flags = { jammed := s.timecode.jammed, linkTrouble := s.link.linkTrouble, conflict := s.link.conflict }
        ∧ (∀ n r, (s.engine.takeState = .rolling ∨ s.engine.takeState = .tail) → s.engine.openTake = some n →
            s.recordAt n = some r → c.key = some r.key)
        ∧ (s.engine.takeState = .offline ∨ s.engine.takeState = .standby → c.key = none))
    ∧ ∀ (l : Link) (c : StateContent) (b : TxBody) (rep : Report),
    (l.station = 0 ∨ 31 ≤ l.station → l.enqueueState c = l ∧ l.enqueueTransport b = l ∧ l.enqueueReport rep = l)
    ∧ (1 ≤ l.station → l.station ≤ 30 →
      (∀ before x after, l.queue = before ++ x :: after → x.waitingState = true → (∀ y ∈ before, y.waitingState = false) →
        l.enqueueState c = { l with queue := before ++ after ++ [TxFrame.fresh (.state c)] })
      ∧ ((∀ y ∈ l.queue, y.waitingState = false) → l.queue.length < 8 →
        l.enqueueState c = { l with queue := l.queue ++ [TxFrame.fresh (.state c)] })
      ∧ (l.queue.length < 8 → l.enqueueTransport b = { l with queue := l.queue ++ [TxFrame.fresh b] }
          ∧ l.enqueueReport rep = { l with queue := l.queue ++ [TxFrame.fresh (.report rep)] })
      ∧ (8 ≤ l.queue.length → l.enqueueReport rep = l
        ∧ (∀ before x after, l.queue = before ++ x :: after → x.waitingReport = true →
            (∀ y ∈ before, y.waitingReport = false) →
            l.enqueueTransport b = { l with queue := before ++ after ++ [TxFrame.fresh b] }
              ∧ ((∀ y ∈ l.queue, y.waitingState = false) →
                  l.enqueueState c = { l with queue := before ++ after ++ [TxFrame.fresh (.state c)] }))
        ∧ ((∀ y ∈ l.queue, y.waitingReport = false) →
            l.enqueueTransport b = { l with linkTrouble := true }
              ∧ ((∀ y ∈ l.queue, y.waitingState = false) → l.enqueueState c = { l with owed := true }))))

/-- INITIAL_STATE (R172) and the attempts of the head of the transmit queue (R42, R166–R170). TRANSMIT_ATTEMPT_START: an attempt is
numbered one more than the last, its bits are sent, each byte most significant bit first (R161), and the refusal notice is cleared at
the first attempt of a STATE that carries it. TRANSMIT_COMPLETE, when every bit read back as sent: the frame leaves and LINK TROUBLE is
cleared. COLLISION, at the first bit that read back as 0 where 1 was sent: an attempt `a` below the eighth waits (a × 32 + s) idle slots,
which BACKOFF_COMPLETE ends, and the eighth drops the frame and sets LINK TROUBLE. An owed STATE is queued when a frame leaves;
that it carries LINK TROUBLE as this step leaves the flag is the model's choice (notes/assumptions/29).
That a command of this group out of its phase changes nothing, as one that ends an attempt which has not begun, and INITIAL_STATE after
the first moment, is the model's reading (notes/assumptions/4).
Which of the two commands ends an attempt is what the bits read back give. What is sent (11.2, R169, R194): kind and destination of each
frame, and its payload; the target byte of an own MARK with a key, and the key bytes of one without, are the model's choice
(notes/assumptions/27). -/
def Obligations.HeadFrameIsSentByAttempts : Prop :=
  (∀ s : State,
      (s.link.initialDue = false → exec .initialState s = .next s)
      ∧ (s.link.initialDue = true →
        exec .initialState s = .next { s with link := ({ s.link with initialDue := false } : Link).enqueueState s.stateContent })
      ∧ (s.link.queue = [] → exec .transmitAttemptStart s = .next s)
      ∧ ∀ f rest, s.link.queue = f :: rest →
        (f.phase ≠ .idle → exec .transmitAttemptStart s = .next s)
        ∧ (f.phase = .idle →
          ∃ t, exec .transmitAttemptStart s = .next t
            ∧ t.link = { s.link with
                queue := { f with attempts := f.attempts + 1, phase := .attempting } :: rest
                driving := some ((frameBytes s.link.station f.body.dest f.body.kind f.body.payload).flatMap fun b =>
                  [7, 6, 5, 4, 3, 2, 1, 0].map fun i => b.getLsbD i) }
            ∧ t.engine = { s.engine with refusal :=
                (match f.body with
                  | .state c => if f.attempts = 0 ∧ c.reason ≠ none ∧ c.reason = s.engine.refusal then none else s.engine.refusal
                  | _ => s.engine.refusal) }
            ∧ t = { s with link := t.link, engine := t.engine }))
    ∧ (∀ (s : State) (f : TxFrame) (rest : List TxFrame), s.link.queue = f :: rest →
        (f.phase ≠ .attempting → exec .transmitComplete s = .next s ∧ exec .collision s = .next s)
        ∧ ((∀ slots, f.phase ≠ .backoff slots) → exec .backoffComplete s = .next s)
        ∧ (∀ slots, f.phase = .backoff slots →
          exec .backoffComplete s = .next { s with link := { s.link with queue := { f with phase := .idle } :: rest } })
        ∧ (f.phase = .attempting →
          (f.attempts < 8 →
            exec .collision s = .next { s with link := { s.link with
              queue := { f with phase := .backoff (f.attempts * 32 + s.link.station) } :: rest, driving := none } })
          ∧ (s.link.owed = false →
            exec .transmitComplete s = .next { s with link := { s.link with queue := rest, linkTrouble := false, driving := none } }
            ∧ (8 ≤ f.attempts →
              exec .collision s = .next { s with link := { s.link with queue := rest, linkTrouble := true, driving := none } }))
          ∧ (s.link.owed = true →
            (∃ t, exec .transmitComplete s = .next t
              ∧ t.link = ({ s.link with queue := rest, linkTrouble := false, driving := none, owed := false } : Link).enqueueState
                  t.stateContent
              ∧ t = { s with link := t.link })
            ∧ (8 ≤ f.attempts →
              ∃ t, exec .collision s = .next t
                ∧ t.link = ({ s.link with queue := rest, linkTrouble := true, driving := none, owed := false } : Link).enqueueState
                    t.stateContent
                ∧ t = { s with link := t.link }))))
    ∧ (∀ (n : Word16) (c : RateCode) (l : Label) (stamp : List Byte),
        stamp = le 1 c.number ++ [1] ++ (le 1 l.hh ++ le 1 l.mm ++ le 1 l.ss ++ le 1 l.ff) →
        (∀ b ∈ [TxBody.roll n c l, .cut n c l], b.dest = 0 ∧ b.payload = le 2 n.toNat ++ stamp)
          ∧ (TxBody.roll n c l).kind.code = 1 ∧ (TxBody.cut n c l).kind.code = 2
          ∧ (∀ kind, (TxBody.mark none c l kind).payload = [0, 0, 0, 0] ++ stamp ++ le 1 kind)
          ∧ (∀ (k : TakeKey) kind,
              (TxBody.mark (some k) c l kind).payload = [1] ++ (le 1 k.origin ++ le 2 k.roll.toNat) ++ stamp ++ le 1 kind)
          ∧ ∀ target kind, (TxBody.mark target c l kind).dest = 0 ∧ (TxBody.mark target c l kind).kind.code = 3)
    ∧ (∀ (c : StateContent) (a m k r : Nat),
        (c.take, a) ∈ [(TakeState.offline, 0), (.standby, 1), (.rolling, 2), (.tail, 3)] →
        (c.media, m) ∈ [(MediaState.absent, 0), (.mounting, 1), (.unprepared, 2), (.ready, 3), (.writeProtected, 4), (.full, 5),
          (.faulted, 6), (.released, 7)] →
        (c.clock, k) ∈ [(ClockState.lost, 0), (.running, 1)] →
        (c.reason, r) ∈ [(none, 0), (some RefusalReason.notReady, 1), (some .journalFull, 2), (some .backlog, 3)] →
        (TxBody.state c).dest = 0 ∧ (TxBody.state c).kind.code = 6
          ∧ (TxBody.state c).payload = le 1 a ++ le 1 m ++ le 1 k
              ++ le 1 ((if c.flags.jammed then 1 else 0) + (if c.flags.linkTrouble then 2 else 0)
                + (if c.flags.conflict then 4 else 0))
              ++ (match c.key with | none => [0, 0, 0, 0] | some key => 1 :: (le 1 key.origin ++ le 2 key.roll.toNat))
              ++ le 1 r)
    ∧ (∀ (rep : Report) (o d : Nat),
        (rep.outcome, o) ∈ [(OutcomeClass.done, 0), (.accepted, 1), (.busy, 2), (.refused, 3), (.aborted, 4),
          (.mediaChanged, 5)] →
        (rep.detail, d) ∈ [(Detail.none, 0), (.unknownRequest, 1), (.badArgument, 2), (.noMedia, 3), (.notPrepared, 4),
          (.writeProtected, 5), (.noSuchTake, 6), (.takeOpen, 7), (.deferred, 8), (.readErrors, 9), (.digestMismatch, 10)] →
        (TxBody.report rep).dest = rep.dest ∧ (TxBody.report rep).kind.code = 8
          ∧ (TxBody.report rep).payload = le 2 rep.tag.toNat ++ [rep.kind] ++ le 1 o ++ le 1 d ++ rep.reply)
    ∧ ∀ (l : Link) (bits : List Bool), l.driving = some bits →
      l.attemptEnd bits = some .transmitComplete
        ∧ (∀ before after, bits = before ++ true :: after → l.attemptEnd (before ++ [false]) = some .collision)
        ∧ ∀ readBack c, l.attemptEnd readBack = some c → (c = .transmitComplete ∧ readBack = bits)
            ∨ (c = .collision ∧ ∃ before after, bits = before ++ true :: after ∧ readBack = before ++ [false])

/-! ### Requests -/

/-- QUERY_STATUS (every group of R179), QUERY_METERS and QUERY_TAKE (R177, R179–R184): the answer is one REPORT of the state as it stands,
and nothing else changes. A take's index and section are judged in order, an UNREADABLE entry answers its state code alone, and the
pending slate needs no card; every other QUERY TAKE is REFUSED with NO MEDIA without a scanned card, and with NOT PREPARED on an
UNPREPARED one. The reply bytes follow 11.1 and 11.3, with the model's choices of notes/assumptions/12. -/
def Obligations.QueriesReportTheStateAsItStands : Prop :=
  (∀ (w : Wire) (s : State) (f : Frame) (q : Request),
      (s.TakesRequest .queryStatus w f q → q.args = [] →
        ∃ (reply : List Byte) (depth free : Nat) (shown : Nat → List Byte), exec (.queryStatus w) s =
            .next { s with link := (s.noteConflict f).link.enqueueReport (q.report .done .none reply) }
          ∧ ((∀ e ∈ s.writer.queue, s.needsFrames e = true → s.intake.position - e.next ≤ depth)
            ∧ (depth = 0 ∨ ∃ e ∈ s.writer.queue, s.needsFrames e = true ∧ depth = s.intake.position - e.next))
          ∧ free = (match s.media.cursor, s.media.capacity with
            | some cursor, some capacity => capacity - cursor
                - (s.media.defects.filter fun d => decide (cursor ≤ d.block) && decide (d.block < capacity)).length
            | _, _ => 0)
          ∧ (∀ x, shown x = if s.verify.slot.isVerifying = true then 1 :: le 4 x else [0, 0, 0, 0, 0])
          ∧ reply = le 1 s.link.station ++ [s.link.role.code, boolByte s.link.listenOnly] ++ le 1 s.link.queue.length
              ++ [s.engine.takeState.code, s.media.state.code, s.intake.clock.code, s.verify.slot.code]
              ++ (le 6 s.intake.position ++ labelBytes (s.labelAt s.intake.position) ++ [s.timecode.rate.byte]
                ++ le 6 s.timecode.anchorPosition ++ le 4 s.timecode.anchorIndex ++ le 4 s.intake.rate.hz
                ++ [boolByte s.timecode.jammed])
              ++ (s.intake.lanes.toList.map LaneState.code ++ le 2 s.intake.armMask.toNat
                ++ (match s.intake.nextArm with | none => [0, 0, 0] | some m => 1 :: le 2 m.toNat))
              ++ (le 4 depth ++ le 2 (s.engine.openTake.getD 0)
                ++ (match s.openKey with | none => [0, 0, 0, 0] | some k => 1 :: keyBytes k) ++ le 1 s.writer.queue.length)
              ++ le 2 s.journal.nextIndex
              ++ (le 4 free ++ (match s.media.generation with | none => [0, 0, 0] | some g => 1 :: le 2 g)
                ++ (match s.media.profile with | none => List.replicate 16 0 | some p => 1 :: profileBytes p))
              ++ (le 2 (s.verify.slot.index.getD 0) ++ shown s.verify.cursor ++ shown s.verify.blockCount
                ++ shown s.verify.badBlocks)
              ++ [BitVec.ofNat 8 ((if s.timecode.jammed then 1 else 0)
                + (if (s.noteConflict f).link.linkTrouble then 2 else 0) + (if (s.noteConflict f).link.conflict then 4 else 0)
                + (if s.media.overflowed then 8 else 0))])
      ∧ (s.TakesRequest .queryMeters w f q → q.args = [] → s.media.state ≠ .mounting →
        exec (.queryMeters w) s = .next { s with link := (s.noteConflict f).link.enqueueReport (q.report .done .none
          (s.intake.meters.toList.flatMap (le 3) ++ [s.intake.clock.code] ++ le 4 s.intake.rate.hz)) }))
    ∧ (∀ (w : Wire) (s : State) (f : Frame) (q : Request) (n section_ entry : Nat) (answer : OutcomeClass → Detail → List Byte → State),
        s.TakesRequest .queryTake w f q → q.args.length = 4 → n = field q.args 0 2 → section_ = field q.args 2 1 →
        entry = field q.args 3 1 →
        (∀ o d reply, answer o d reply = { s with link := (s.noteConflict f).link.enqueueReport (q.report o d reply) }) →
        (n = 0 → section_ = 1 → s.media.state ≠ .mounting →
            exec (.queryTake w) s = .next (answer .done .none s.slate.fieldsReply))
        ∧ (∀ d, ¬ (n = 0 ∧ section_ = 1) →
            ((s.media.state = .absent ∨ s.media.state = .mounting) ∧ d = .noMedia
              ∨ s.media.state = .unprepared ∧ d = .notPrepared) →
            exec (.queryTake w) s = .next (answer .refused d []))
        ∧ ((s.media.state = .ready ∨ s.media.state = .writeProtected ∨ s.media.state = .full ∨ s.media.state = .faulted
              ∨ s.media.state = .released) →
          (4 < section_ ∨ 4096 < n ∨ (n = 0 ∧ section_ ≠ 1) ∨ (section_ = 4 ∧ (entry = 0 ∨ 64 < entry)) →
              exec (.queryTake w) s = .next (answer .refused .badArgument []))
          ∧ (1 ≤ n → n ≤ 4096 → section_ ≤ 4 → (section_ = 4 → 1 ≤ entry ∧ entry ≤ 64) →
              (s.journal.nextIndex ≤ n → exec (.queryTake w) s = .next (answer .refused .noSuchTake []))
              ∧ (n < s.journal.nextIndex → s.recordAt n = none → exec (.queryTake w) s = .next (answer .done .none [7]))
              ∧ ∀ r, n < s.journal.nextIndex → s.recordAt n = some r →
                  ∃ reply, exec (.queryTake w) s = .next (answer .done .none reply) ∧ s.TakeReply r section_ entry reply)))

/-- SEARCH_JOURNAL (R177, R185–R187). It is REFUSED with NO MEDIA without a scanned card, with NOT PREPARED on an UNPREPARED one, and
with BAD ARGUMENT when an argument is out of range. Otherwise the indices found are those of the records that match from the start index
on, in ascending order, as many as the count asks, and the resume index lets the next search go on where this one stopped. The reply
bytes follow 11.1 and 11.3 (notes/assumptions/12). -/
def Obligations.SearchFindsMatchesInOrder : Prop :=
  ∀ (w : Wire) (s : State) (f : Frame) (q : Request) (fieldCode relation start count limit : Nat) (key : List Byte),
    s.TakesRequest .searchJournal w f q → formOk .searchJournal q.args = true →
    fieldCode = field q.args 0 1 → relation = field q.args 1 1 → start = field q.args 2 2 → count = field q.args 4 1 →
    key = q.args.drop 6 → limit = (if count = 0 then 16 else count) →
    (∀ d, (s.media.state = .absent ∨ s.media.state = .mounting) ∧ d = .noMedia
          ∨ s.media.state = .unprepared ∧ d = .notPrepared →
        exec (.searchJournal w) s =
          .next { s with link := (s.noteConflict f).link.enqueueReport (q.report .refused d []) })
    ∧ ((s.media.state = .ready ∨ s.media.state = .writeProtected ∨ s.media.state = .full ∨ s.media.state = .faulted
          ∨ s.media.state = .released) →
      (SearchOutOfRange fieldCode relation start count key → exec (.searchJournal w) s =
          .next { s with link := (s.noteConflict f).link.enqueueReport (q.report .refused .badArgument []) })
      ∧ (¬ SearchOutOfRange fieldCode relation start count key → ∃ (found : List Nat) (resume : Nat),
        exec (.searchJournal w) s =
            .next { s with link := (s.noteConflict f).link.enqueueReport (q.report .done .none
              (le 1 found.length ++ found.flatMap (le 2) ++ le 2 resume)) }
          ∧ found.Pairwise (· < ·) ∧ found.length ≤ limit
          ∧ (∀ n ∈ found, start ≤ n ∧ n < s.journal.nextIndex
              ∧ ∃ r, s.recordAt n = some r ∧ r.Matches fieldCode relation key)
          ∧ (∀ n r, start ≤ n → n < s.journal.nextIndex → s.recordAt n = some r → r.Matches fieldCode relation key →
              n ∉ found → resume ≠ 0 ∧ resume ≤ n)
          ∧ (resume ≠ 0 → found.length = limit ∧ resume < s.journal.nextIndex ∧ found.getLast? = some (resume - 1))
          ∧ (∀ n, found.length = limit → found.getLast? = some n → n + 1 < s.journal.nextIndex → resume = n + 1)))

/-- ARM (R6, R7, R188): with no open take the mask is replaced at once, and with one it becomes the next-arm mask; an empty set is REFUSED.
MIX (R9, R188): one entry out of range refuses them all; otherwise each lane ends with the last entry that names it, and the reply
carries the routing and gain of every lane, whose layout is the model's choice (notes/assumptions/12). -/
def Obligations.ArmAndMixAreApplied : Prop :=
  (∀ (w : Wire) (s : State) (f : Frame) (q : Request) (m : Word16), s.TakesRequest .arm w f q → q.args.length = 2 →
      m = BitVec.ofNat 16 (field q.args 0 2) → s.media.state ≠ .mounting → s.engine.Sound →
      (m = 0 → exec (.arm w) s =
        .next { s with link := (s.noteConflict f).link.enqueueReport (q.report .refused .badArgument []) })
      ∧ (m ≠ 0 → s.engine.openTake = none → exec (.arm w) s =
        .next { s with
          intake := { s.intake with armMask := m, nextArm := none }
          link := (s.noteConflict f).link.enqueueReport (q.report .done .none (le 2 m.toNat ++ [0, 0, 0])) })
      ∧ (m ≠ 0 → s.engine.openTake ≠ none → exec (.arm w) s =
        .next { s with
          intake := { s.intake with nextArm := some m }
          link := (s.noteConflict f).link.enqueueReport (q.report .done .deferred
            (le 2 s.intake.armMask.toNat ++ [1] ++ le 2 m.toNat)) }))
    ∧ (∀ (w : Wire) (s : State) (f : Frame) (q : Request) (n : Nat), s.TakesRequest .mix w f q → formOk .mix q.args = true →
        n = field q.args 0 1 → s.media.state ≠ .mounting →
        (n = 0 ∨ 16 < n ∨ (∃ i < n, 15 < field q.args (1 + 3 * i) 1 ∨ 3 < field q.args (2 + 3 * i) 1) → exec (.mix w) s =
          .next { s with link := (s.noteConflict f).link.enqueueReport (q.report .refused .badArgument []) })
        ∧ (1 ≤ n → n ≤ 16 → (∀ i < n, field q.args (1 + 3 * i) 1 ≤ 15 ∧ field q.args (2 + 3 * i) 1 ≤ 3) →
          ∃ t, exec (.mix w) s = .next t
            ∧ (∀ (lane : Fin 16) i, i < n → field q.args (1 + 3 * i) 1 = lane →
                (∀ j, i < j → j < n → field q.args (1 + 3 * j) 1 ≠ lane) →
                some t.intake.routing[lane] = routingOfCode (field q.args (2 + 3 * i) 1)
                  ∧ t.intake.gain[lane] = BitVec.ofNat 8 (field q.args (3 + 3 * i) 1))
            ∧ (∀ lane : Fin 16, (∀ i < n, field q.args (1 + 3 * i) 1 ≠ lane) →
                t.intake.routing[lane] = s.intake.routing[lane] ∧ t.intake.gain[lane] = s.intake.gain[lane])
            ∧ t.intake = { s.intake with routing := t.intake.routing, gain := t.intake.gain }
            ∧ t.link = (s.noteConflict f).link.enqueueReport (q.report .done .none t.intake.mixPayload)
            ∧ t = { s with intake := t.intake, link := t.link }))

/-- VERIFY_TAKE (R147–R150, R153, R154, R189): refused by the first test that fails, BUSY while another long operation runs, and otherwise
started with the reads of its first positions. A take without data reads nothing: its verify ends in the same step, VERIFIED when its
record's digest is 0, the CRC of no bytes, with the ACCEPTED and then the final REPORT. A take whose data has no extent is a shortfall
that ends in the same step too, which, like the counts and marks that stay, is the model's reading (notes/assumptions/18). That the
outcome is handed to the journal, or sets UNSAVED, also when it leaves the record's state as it was, is the model's choice (DESIGN
CHOICE, notes/assumptions/18). -/
def Obligations.VerifyTakeStartsAVerify : Prop :=
  ∀ (w : Wire) (s : State) (f : Frame) (q : Request) (n : Nat), s.TakesRequest .verifyTake w f q → q.args.length = 2 →
    n = field q.args 0 2 → s.port.Sound →
    (∀ d, ((s.media.state = .absent ∨ s.media.state = .mounting) ∧ d = .noMedia
          ∨ s.media.state = .unprepared ∧ d = .notPrepared
          ∨ s.media.state ∉ [.absent, .mounting, .unprepared] ∧
            ((n = 0 ∨ 4096 < n) ∧ d = .badArgument
              ∨ 1 ≤ n ∧ n ≤ 4096 ∧ (s.journal.nextIndex ≤ n ∨ s.recordAt n = none) ∧ d = .noSuchTake
              ∨ 1 ≤ n ∧ n ≤ 4096 ∧ n < s.journal.nextIndex ∧ ∃ r, s.recordAt n = some r
                ∧ ((r.state = .opened ∨ r.state = .closing) ∧ d = .takeOpen ∨ r.state = .interrupted ∧ d = .badArgument))) →
        exec (.verifyTake w) s = .next { s with link := (s.noteConflict f).link.enqueueReport (q.report .refused d []) })
    ∧ (∀ r, s.media.state ∉ [.absent, .mounting, .unprepared] → 1 ≤ n → n ≤ 4096 → n < s.journal.nextIndex →
        s.recordAt n = some r → r.state = .closed ∨ r.state = .verified ∨ r.state = .damaged →
        (s.verify.slot ≠ .idle → exec (.verifyTake w) s =
          .next { s with link := (s.noteConflict f).link.enqueueReport (q.report .busy .none s.busyPayload) })
        ∧ (∀ blocks held, s.verify.slot = .idle → blocks = (r.recorded * r.frameBytes + 4095) / 4096 →
            held = (r.extents.map (·.count)).sum → 0 < min blocks held →
          ∃ t, exec (.verifyTake w) s = .next t
            ∧ t.verify = {
                slot := .verifying { station := q.sender, tag := q.tag } n, cursor := 0, blockCount := blocks
                positions := min blocks held, length := r.recorded * r.frameBytes, extents := r.extents, badBlocks := 0
                readOk := 0, shortfall := decide (held < blocks), window := t.verify.window, digest := some crc32Init }
            ∧ t.verify.window.length = min 4 (min blocks held)
            ∧ (∀ k b, k < min 4 (min blocks held) → orderBlock r.extents k = some b → t.Asked (.verifyRead k b) 1)
            ∧ t.link = (s.noteConflict f).link.enqueueReport (q.report .accepted .none (le 2 n ++ le 4 blocks))
            ∧ t = { s with verify := t.verify, port := t.port, link := t.link })
        ∧ (∀ blocks held ok, s.verify.slot = .idle → blocks = (r.recorded * r.frameBytes + 4095) / 4096 →
            held = (r.extents.map (·.count)).sum → min blocks held = 0 →
            ok = (decide (blocks = 0) && decide (r.digest = some 0)) →
          ∃ t r', exec (.verifyTake w) s = .next t ∧ t.recordAt n = some r'
            ∧ r' = { r with state := if ok then .verified else .damaged, flags := r'.flags, durable := r'.durable }
            ∧ r'.flags = (if s.canWriteJournal = true then r.flags else setFlag .unsaved r.flags)
            ∧ (s.canWriteJournal = true → s.HandsOn n t)
            ∧ t.verify = {
                slot := .idle, cursor := 0, blockCount := blocks, positions := 0, length := r.recorded * r.frameBytes
                extents := r.extents, badBlocks := 0, readOk := 0, shortfall := decide (held < blocks), window := [], digest := none }
            ∧ t.link = ((s.noteConflict f).link.enqueueReport (q.report .accepted .none (le 2 n ++ le 4 blocks))).enqueueReport
                (q.report .done (if ok then .none else .digestMismatch)
                  (le 2 n ++ [r'.state.code] ++ le 4 0 ++ le 4 0 ++ le 4 0))
            ∧ t = { s with verify := t.verify, journal := t.journal, port := t.port, writer := t.writer, link := t.link }))

/-- PREPARE_MEDIA (R104, R105, R116, R117, R147, R190) and RELEASE_MEDIA (R116, R119, R147, R190). The arguments pass when every profile
value lies in its range, the blocks named ascend strictly within the audio region, and the merged list has room. That list is the request's blocks and
the GROWN ones of the current list, each GROWN exactly when it was. The 2 bytes of the defect count in the ACCEPTED report and the
empty reply of a RELEASE MEDIA that is DONE at once are the model's choice (notes/assumptions/12). -/
def Obligations.PrepareAndReleaseStartOrAreTurnedAway : Prop :=
  (∀ (w : Wire) (s : State) (f : Frame) (q : Request), s.TakesRequest .prepareMedia w f q →
      formOk .prepareMedia q.args = true →
      (∀ d, (s.media.state = .absent ∨ s.media.state = .mounting) ∧ d = .noMedia
            ∨ s.media.state = .writeProtected ∧ d = .writeProtected
            ∨ (s.media.state = .unprepared ∨ s.media.state = .released) ∧ s.media.capacity.getD 0 < 5121 ∧ d = .notPrepared →
          exec (.prepareMedia w) s = .next { s with link := (s.noteConflict f).link.enqueueReport (q.report .refused d []) })
      ∧ (s.media.state ∈ [.unprepared, .ready, .full, .faulted, .released] → 5121 ≤ s.media.capacity.getD 0 →
        (s.verify.slot ≠ .idle ∨ s.media.state ∈ [.ready, .full, .faulted] ∧ (s.writer.queue ≠ [] ∨ s.engine.openTake ≠ none)
            ∨ s.media.state = .ready ∧ s.engine.takeState ≠ .standby →
          s.engine.Sound → exec (.prepareMedia w) s =
            .next { s with link := (s.noteConflict f).link.enqueueReport (q.report .busy .none s.busyPayload) })
        ∧ (s.verify.slot = .idle → s.writer.queue = [] → s.engine.openTake = none →
            (s.media.state = .ready → s.engine.takeState = .standby) →
          (s.preparePlan q.args = none → exec (.prepareMedia w) s =
            .next { s with link := (s.noteConflict f).link.enqueueReport (q.report .refused .badArgument []) })
          ∧ (s.DefectsSound → ((s.preparePlan q.args).isSome = true ↔
              (∃ p, ProfileAsked q.args p) ∧ s.DefectsAdmitted (prepareBlocks q.args)))
          ∧ (prepareBlocks q.args).length = field q.args 15 2
          ∧ (∀ i, i < field q.args 15 2 → (prepareBlocks q.args)[i]? = some (field q.args (17 + 4 * i) 4))
          ∧ ∀ plan, s.preparePlan q.args = some plan →
            ProfileAsked q.args plan.profile ∧ plan.generation = (match s.media.generation with | none => 1 | some g => if g = 65535 then 1 else g + 1)
            ∧ (∀ d ∈ s.media.defects, d.grown = true → ∃ x ∈ plan.defects, x.block = d.block)
            ∧ (∀ b ∈ prepareBlocks q.args, ∃ x ∈ plan.defects, x.block = b)
            ∧ (s.DefectsSound → ∀ x, x ∈ plan.defects ↔
                if x.grown = true then x ∈ s.media.defects
                else x.block ∈ prepareBlocks q.args ∧ ∀ d ∈ s.media.defects, d.grown = true → d.block ≠ x.block)
            ∧ plan.defects.length ≤ 480 ∧ profileAtOffset q.args 0 = some plan.profile ∧ plan.phase = .waiting
            ∧ exec (.prepareMedia w) s = .next { s with
                verify := { s.verify with slot := .preparing { station := q.sender, tag := q.tag } plan }
                link := (s.noteConflict f).link.enqueueReport (q.report .accepted .none
                  (le 2 plan.generation ++ le 2 plan.defects.length)) })))
    ∧ (∀ (w : Wire) (s : State) (f : Frame) (q : Request), s.TakesRequest .releaseMedia w f q → q.args = [] →
        ((s.media.state = .absent ∨ s.media.state = .mounting) → exec (.releaseMedia w) s =
          .next { s with link := (s.noteConflict f).link.enqueueReport (q.report .refused .noMedia []) })
        ∧ (s.media.state = .released → exec (.releaseMedia w) s =
          .next { s with link := (s.noteConflict f).link.enqueueReport (q.report .done .none []) })
        ∧ (s.media.state ∈ [.unprepared, .writeProtected, .ready, .full, .faulted] →
          (s.verify.slot ≠ .idle ∨ s.media.state ∈ [.ready, .full, .faulted] ∧ (s.writer.queue ≠ [] ∨ s.engine.openTake ≠ none)
              ∨ s.media.state = .ready ∧ s.engine.takeState ≠ .standby →
            s.engine.Sound → exec (.releaseMedia w) s =
              .next { s with link := (s.noteConflict f).link.enqueueReport (q.report .busy .none s.busyPayload) })
          ∧ (s.verify.slot = .idle → s.writer.queue = [] → s.engine.openTake = none →
              (s.media.state = .ready → s.engine.takeState = .standby) →
            (s.writesPending = true → exec (.releaseMedia w) s = .next { s with
                verify := { s.verify with slot := .releasing { station := q.sender, tag := q.tag } }
                link := (s.noteConflict f).link.enqueueReport (q.report .accepted .none []) })
            ∧ (s.writesPending = false → s.Coherent →
              ∃ t, exec (.releaseMedia w) s = .next t ∧ t.media = { s.media with state := .released }
                ∧ t.verify = { s.verify with slot := .idle } ∧ t.engine = { s.engine with takeState := .offline }
                ∧ t = { s with media := t.media, verify := t.verify, engine := t.engine, link := t.link }
                ∧ t.link = (((s.noteConflict f).link.enqueueReport (q.report .accepted .none [])).enqueueState
                    t.stateContent).enqueueReport (q.report .done .none [MediaState.released.code])))))

/-- ABORT (R156, R177, R191) and UNKNOWN_REQUEST (R174). That the verify unit's counts, marks and extent list stay as they stood
(notes/assumptions/18), and the reply bytes of ABORT, the state code and with a verify its index (notes/assumptions/12), are the
model's choice. -/
def Obligations.AbortEndsAVerifyOnly : Prop :=
  ∀ (w : Wire) (s : State) (f : Frame) (q : Request) (l : Link), l = (s.noteConflict f).link →
    (s.TakesRequest .abort w f q → q.args = [] → s.media.state ≠ .mounting →
      (s.verify.slot = .idle → exec (.abort w) s =
        .next { s with link := l.enqueueReport (q.report .done .none [0]) })
      ∧ (∀ who n, s.verify.slot = .verifying who n → exec (.abort w) s = .next { s with
          verify := { s.verify with slot := .idle, window := [], digest := none }
          port := { s.port with waiting := s.port.waiting.filter fun op => !op.kind.isVerifyRead }
          link := (l.enqueueReport (who.report .verifyTake .aborted .none
            (le 2 n ++ le 4 s.verify.badBlocks ++ le 4 s.verify.readOk))).enqueueReport
              (q.report .done .none (1 :: le 2 n)) })
      ∧ (s.verify.slot.blocksJournal = true → exec (.abort w) s =
        .next { s with link := l.enqueueReport (q.report .busy .none s.busyPayload) }))
    ∧ (s.takenFrame .request w = some f → f.payload.length < 3 → exec (.unknownRequest w) s = .next { s with link := l })
    ∧ (s.takenFrame .request w = some f → decodeRequest f.sender f.payload = some q → (q.code = 0 ∨ 10 < q.code.toNat) →
      exec (.unknownRequest w) s = .next { s with link := l.enqueueReport (q.report .refused .unknownRequest []) })

/-! ### What the card carries -/

/-- R105, R197: a header that is written is the header that a mount reads back. -/
def Obligations.HeaderBlockReadsBack : Prop :=
  ∀ (capacity : Nat) (h : Header), capacity ≤ 2 ^ 32 → h.Valid capacity →
    (headerBlock h).length = 4096 ∧ decodeHeader capacity (headerBlock h) = some h

/-- R95, R198: a record that is written is the record that a scan reads back from its slot. -/
def Obligations.RecordBlockReadsBack : Prop :=
  ∀ (capacity : Nat) (r : Record), capacity ≤ 2 ^ 32 → r.Valid capacity →
    (recordBlock r).length = 4096
      ∧ classifySlot capacity r.generation r.index (some (recordBlock r)) = .record r

/-! ### What holds between any two commands -/

/-- R160, R166–R171. -/
def Obligations.StepKeepsTheTransmitQueueSound : Prop :=
  ∀ s t : State, s.link.Sound → step s = .next t → t.link.Sound

/-- R120. -/
def Obligations.StepKeepsThePortSound : Prop :=
  ∀ s t : State, s.port.Sound → step s = .next t → t.port.Sound

/-- R150, R152, R153. -/
def Obligations.StepKeepsTheVerifyWindowSound : Prop :=
  ∀ s t : State, s.verify.Sound → step s = .next t → t.verify.Sound

/-- R37, R38, R80, R83, R84, R95, R97, R107, R116, R123, R145, R148. -/
def Obligations.StepKeepsTheBlocksCoherent : Prop :=
  ∀ s t : State, s.Coherent → step s = .next t →
    t.Coherent ∧ (s.HoldersSound → t.HoldersSound) ∧ (s.MirrorSound → t.MirrorSound)

/-- R1–R3, R5, R6, R11, R13, R14, R16, R21, R44, R63, R76, R109, R117, R123, R141. R82: a flag once set on a record stays set while the
mirror holds the record. -/
def Obligations.StepKeepsEveryBlockWithinItsLimits : Prop :=
  (∀ s t : State, step s = .next t →
      (s.intake.Sound → t.intake.Sound) ∧ (ringCanonical s.intake.ring → ringCanonical t.intake.ring)
        ∧ (s.AnchorSound → t.AnchorSound))
    ∧ (∀ s t : State, step s = .next t →
        (s.RecordsFit → t.RecordsFit) ∧ (s.DefectsSound → t.DefectsSound) ∧ (s.writer.Sound → t.writer.Sound))
    ∧ ∀ s t : State, step s = .next t → ∀ (n : Nat) (r r' : Record) (f : TakeFlag),
        s.recordAt n = some r → t.recordAt n = some r' → hasFlag r.flags f = true → hasFlag r'.flags f = true

/-- R90: recorded and lost frames of a CLOSED, VERIFIED or DAMAGED record together are stop minus start, and its durable frames are its
recorded frames. What bears it: the frames of every queued take add up to its next-needed frame (R15, R16, R125), and its recorded bytes
are those of its durable prefix, its completed segments and its buffers (R127, R131, R135, R136), whose failure counts stay within 4
(R137). Past the top of the 48-bit position the position is a free value (notes/assumptions/2), so a step that passes it is left out. -/
def Obligations.StepKeepsTheAccountsOfEveryTake : Prop :=
  (∀ s t : State, s.Coherent → s.HoldersSound → s.port.Sound → s.FramesSound → s.SegmentsSound → s.intake.position + 1 < 2 ^ 48 →
      step s = .next t → t.FramesSound ∧ t.SegmentsSound)
    ∧ ∀ (s : State) (n : Nat) (r : Record), s.FramesSound → s.recordAt n = some r →
        r.state = .closed ∨ r.state = .verified ∨ r.state = .damaged →
        ∃ stop, r.stop = some stop ∧ r.start ≤ stop ∧ r.recorded + r.lost = stop - r.start ∧ r.durable = r.recorded

/-- The state after reset has every invariant. -/
def Obligations.ResetStateIsSound : Prop :=
  State.reset.Coherent ∧ State.reset.link.Sound ∧ State.reset.port.Sound ∧ State.reset.verify.Sound ∧ State.reset.intake.Sound
    ∧ ringCanonical State.reset.intake.ring ∧ State.reset.AnchorSound ∧ State.reset.RecordsFit ∧ State.reset.DefectsSound
    ∧ State.reset.writer.Sound ∧ State.reset.HoldersSound ∧ State.reset.MirrorSound ∧ State.reset.FramesSound
    ∧ State.reset.SegmentsSound
end

