-- ==== Sys2Proof/Laws/Formats.lean ====
section
/-! SUPPORT. Numbers in bytes, flags in a set, and the check value of a block. -/

namespace Sys2Proof.Machine

@[simp] theorem length_le (n v : Nat) : (le n v).length = n := by
  induction n generalizing v with
  | zero => rfl
  | succ n ih => simp [le, ih]

/-- A number that fits its bytes is read back from them. -/
theorem fromLe_le (n v : Nat) (h : v < 256 ^ n) : fromLe (le n v) = v := by
  induction n generalizing v with
  | zero => simp at h; simp [le, fromLe, h]
  | succ n ih =>
    have hd : v / 256 < 256 ^ n := by
      rw [Nat.div_lt_iff_lt_mul (by decide)]
      rwa [pow_succ] at h
    simp only [le, fromLe, ih _ hd, BitVec.toNat_ofNat]
    omega

/-- Bytes come back from the bits in which they are sent. -/
@[simp] theorem bytesOf_bitsOf (bs : List Byte) : bytesOf (bitsOf bs) = some bs := by
  induction bs with
  | nil => rfl
  | cons b bs ih =>
    have hb : ∀ x : Byte, BitVec.ofNat 8 (bitsValue (bitsMsb x)) = x := by decide
    have h : bytesOf (bitsOf (b :: bs)) = (bytesOf (bitsOf bs)).map (BitVec.ofNat 8 (bitsValue (bitsMsb b)) :: ·) := rfl
    rw [h, ih, hb]
    rfl

@[simp] theorem length_padTo (n : Nat) (bs : List Byte) (h : bs.length ≤ n) : (padTo n bs).length = n := by
  simp [padTo]; omega

/-- A block with its check value has the length of a block. -/
theorem length_withCheck (body : List Byte) (h : body.length ≤ blockBytes - 4) : (withCheck body).length = blockBytes := by
  have hp := length_padTo _ _ h
  simp only [withCheck, List.length_append, hp, length_le]
  decide

/-- A block as written carries a check value that matches. -/
theorem checkMatches_withCheck (body : List Byte) (h : body.length ≤ blockBytes - 4) : checkMatches (withCheck body) = true := by
  have hp := length_padTo _ _ h
  have ht : (withCheck body).take (blockBytes - 4) = padTo (blockBytes - 4) body := by
    exact List.take_left' hp
  have hd : (withCheck body).drop (blockBytes - 4) = le 4 (crc32 (padTo (blockBytes - 4) body)).toNat := by
    exact List.drop_left' hp
  have hb := (crc32 (padTo (blockBytes - 4) body)).isLt
  simp only [checkMatches, field, slice, ht, hd]
  rw [List.take_of_length_le (by simp), fromLe_le _ _ (by simpa using hb)]
  simp

/-- Setting a flag sets it. -/
@[simp] theorem hasFlag_setFlag_same (f : TakeFlag) (fl : TakeFlags) : hasFlag (setFlag f fl) f = true := by
  cases f <;> simp [hasFlag, setFlag, TakeFlag.bit]

/-- Setting a flag leaves every other as it was. -/
theorem hasFlag_setFlag_other {f g : TakeFlag} (h : f ≠ g) (fl : TakeFlags) : hasFlag (setFlag f fl) g = hasFlag fl g := by
  cases f <;> cases g <;> first | exact absurd rfl h | simp [hasFlag, setFlag, TakeFlag.bit]

/-- A flag once set stays set. -/
theorem hasFlag_setFlag (f g : TakeFlag) (fl : TakeFlags) (h : hasFlag fl g = true) : hasFlag (setFlag f fl) g = true := by
  by_cases hfg : f = g
  · subst hfg; simp
  · rw [hasFlag_setFlag_other hfg, h]

end Sys2Proof.Machine
end

