-- ==== Sys2Proof/Laws/State.lean ====
section
/-! SUPPORT. One lemma per field for each plain update of the state, so that no proof unfolds a record update. -/

namespace Sys2Proof.Machine

variable (s : State)

@[simp] theorem State.withPending_intake (l : List Instr) : (s.withPending l).intake = s.intake := rfl
@[simp] theorem State.withPending_timecode (l : List Instr) : (s.withPending l).timecode = s.timecode := rfl
@[simp] theorem State.withPending_engine (l : List Instr) : (s.withPending l).engine = s.engine := rfl
@[simp] theorem State.withPending_slate (l : List Instr) : (s.withPending l).slate = s.slate := rfl
@[simp] theorem State.withPending_journal (l : List Instr) : (s.withPending l).journal = s.journal := rfl
@[simp] theorem State.withPending_media (l : List Instr) : (s.withPending l).media = s.media := rfl
@[simp] theorem State.withPending_port (l : List Instr) : (s.withPending l).port = s.port := rfl
@[simp] theorem State.withPending_writer (l : List Instr) : (s.withPending l).writer = s.writer := rfl
@[simp] theorem State.withPending_verify (l : List Instr) : (s.withPending l).verify = s.verify := rfl
@[simp] theorem State.withPending_link (l : List Instr) : (s.withPending l).link = s.link := rfl
@[simp] theorem State.withPending_freeDraws (l : List Instr) : (s.withPending l).freeDraws = s.freeDraws := rfl
@[simp] theorem State.withPending_pending (l : List Instr) : (s.withPending l).pending = l := rfl

@[simp] theorem State.setQueue_intake (q : List QueueEntry) : (s.setQueue q).intake = s.intake := rfl
@[simp] theorem State.setQueue_timecode (q : List QueueEntry) : (s.setQueue q).timecode = s.timecode := rfl
@[simp] theorem State.setQueue_engine (q : List QueueEntry) : (s.setQueue q).engine = s.engine := rfl
@[simp] theorem State.setQueue_slate (q : List QueueEntry) : (s.setQueue q).slate = s.slate := rfl
@[simp] theorem State.setQueue_journal (q : List QueueEntry) : (s.setQueue q).journal = s.journal := rfl
@[simp] theorem State.setQueue_media (q : List QueueEntry) : (s.setQueue q).media = s.media := rfl
@[simp] theorem State.setQueue_port (q : List QueueEntry) : (s.setQueue q).port = s.port := rfl
@[simp] theorem State.setQueue_writer (q : List QueueEntry) :
    (s.setQueue q).writer = { s.writer with queue := q } := rfl
@[simp] theorem State.setQueue_verify (q : List QueueEntry) : (s.setQueue q).verify = s.verify := rfl
@[simp] theorem State.setQueue_link (q : List QueueEntry) : (s.setQueue q).link = s.link := rfl
@[simp] theorem State.setQueue_freeDraws (q : List QueueEntry) : (s.setQueue q).freeDraws = s.freeDraws := rfl
@[simp] theorem State.setQueue_pending (q : List QueueEntry) : (s.setQueue q).pending = s.pending := rfl

@[simp] theorem State.setBuffer_intake (b : Nat) (x : Buffer) : (s.setBuffer b x).intake = s.intake := rfl
@[simp] theorem State.setBuffer_timecode (b : Nat) (x : Buffer) : (s.setBuffer b x).timecode = s.timecode := rfl
@[simp] theorem State.setBuffer_engine (b : Nat) (x : Buffer) : (s.setBuffer b x).engine = s.engine := rfl
@[simp] theorem State.setBuffer_slate (b : Nat) (x : Buffer) : (s.setBuffer b x).slate = s.slate := rfl
@[simp] theorem State.setBuffer_journal (b : Nat) (x : Buffer) : (s.setBuffer b x).journal = s.journal := rfl
@[simp] theorem State.setBuffer_media (b : Nat) (x : Buffer) : (s.setBuffer b x).media = s.media := rfl
@[simp] theorem State.setBuffer_port (b : Nat) (x : Buffer) : (s.setBuffer b x).port = s.port := rfl
@[simp] theorem State.setBuffer_verify (b : Nat) (x : Buffer) : (s.setBuffer b x).verify = s.verify := rfl
@[simp] theorem State.setBuffer_link (b : Nat) (x : Buffer) : (s.setBuffer b x).link = s.link := rfl
@[simp] theorem State.setBuffer_freeDraws (b : Nat) (x : Buffer) : (s.setBuffer b x).freeDraws = s.freeDraws := rfl
@[simp] theorem State.setBuffer_pending (b : Nat) (x : Buffer) : (s.setBuffer b x).pending = s.pending := rfl

@[simp] theorem State.modifyEntry_intake (n : Nat) (f : QueueEntry → QueueEntry) :
    (s.modifyEntry n f).intake = s.intake := rfl
@[simp] theorem State.modifyEntry_timecode (n : Nat) (f : QueueEntry → QueueEntry) :
    (s.modifyEntry n f).timecode = s.timecode := rfl
@[simp] theorem State.modifyEntry_engine (n : Nat) (f : QueueEntry → QueueEntry) :
    (s.modifyEntry n f).engine = s.engine := rfl
@[simp] theorem State.modifyEntry_slate (n : Nat) (f : QueueEntry → QueueEntry) :
    (s.modifyEntry n f).slate = s.slate := rfl
@[simp] theorem State.modifyEntry_journal (n : Nat) (f : QueueEntry → QueueEntry) :
    (s.modifyEntry n f).journal = s.journal := rfl
@[simp] theorem State.modifyEntry_media (n : Nat) (f : QueueEntry → QueueEntry) :
    (s.modifyEntry n f).media = s.media := rfl
@[simp] theorem State.modifyEntry_port (n : Nat) (f : QueueEntry → QueueEntry) :
    (s.modifyEntry n f).port = s.port := rfl
@[simp] theorem State.modifyEntry_verify (n : Nat) (f : QueueEntry → QueueEntry) :
    (s.modifyEntry n f).verify = s.verify := rfl
@[simp] theorem State.modifyEntry_link (n : Nat) (f : QueueEntry → QueueEntry) :
    (s.modifyEntry n f).link = s.link := rfl
@[simp] theorem State.modifyEntry_freeDraws (n : Nat) (f : QueueEntry → QueueEntry) :
    (s.modifyEntry n f).freeDraws = s.freeDraws := rfl
@[simp] theorem State.modifyEntry_pending (n : Nat) (f : QueueEntry → QueueEntry) :
    (s.modifyEntry n f).pending = s.pending := rfl

@[simp] theorem State.dropEntry_intake (n : Nat) : (s.dropEntry n).intake = s.intake := rfl
@[simp] theorem State.dropEntry_timecode (n : Nat) : (s.dropEntry n).timecode = s.timecode := rfl
@[simp] theorem State.dropEntry_engine (n : Nat) : (s.dropEntry n).engine = s.engine := rfl
@[simp] theorem State.dropEntry_slate (n : Nat) : (s.dropEntry n).slate = s.slate := rfl
@[simp] theorem State.dropEntry_journal (n : Nat) : (s.dropEntry n).journal = s.journal := rfl
@[simp] theorem State.dropEntry_media (n : Nat) : (s.dropEntry n).media = s.media := rfl
@[simp] theorem State.dropEntry_port (n : Nat) : (s.dropEntry n).port = s.port := rfl
@[simp] theorem State.dropEntry_verify (n : Nat) : (s.dropEntry n).verify = s.verify := rfl
@[simp] theorem State.dropEntry_link (n : Nat) : (s.dropEntry n).link = s.link := rfl
@[simp] theorem State.dropEntry_freeDraws (n : Nat) : (s.dropEntry n).freeDraws = s.freeDraws := rfl
@[simp] theorem State.dropEntry_pending (n : Nat) : (s.dropEntry n).pending = s.pending := rfl

@[simp] theorem State.queueState_intake : s.queueState.intake = s.intake := rfl
@[simp] theorem State.queueState_timecode : s.queueState.timecode = s.timecode := rfl
@[simp] theorem State.queueState_engine : s.queueState.engine = s.engine := rfl
@[simp] theorem State.queueState_slate : s.queueState.slate = s.slate := rfl
@[simp] theorem State.queueState_journal : s.queueState.journal = s.journal := rfl
@[simp] theorem State.queueState_media : s.queueState.media = s.media := rfl
@[simp] theorem State.queueState_port : s.queueState.port = s.port := rfl
@[simp] theorem State.queueState_writer : s.queueState.writer = s.writer := rfl
@[simp] theorem State.queueState_verify : s.queueState.verify = s.verify := rfl
@[simp] theorem State.queueState_link : s.queueState.link = s.link.enqueueState s.stateContent := rfl
@[simp] theorem State.queueState_freeDraws : s.queueState.freeDraws = s.freeDraws := rfl
@[simp] theorem State.queueState_pending : s.queueState.pending = s.pending := rfl

@[simp] theorem State.queueTransport_intake (b : TxBody) : (s.queueTransport b).intake = s.intake := rfl
@[simp] theorem State.queueTransport_timecode (b : TxBody) : (s.queueTransport b).timecode = s.timecode := rfl
@[simp] theorem State.queueTransport_engine (b : TxBody) : (s.queueTransport b).engine = s.engine := rfl
@[simp] theorem State.queueTransport_slate (b : TxBody) : (s.queueTransport b).slate = s.slate := rfl
@[simp] theorem State.queueTransport_journal (b : TxBody) : (s.queueTransport b).journal = s.journal := rfl
@[simp] theorem State.queueTransport_media (b : TxBody) : (s.queueTransport b).media = s.media := rfl
@[simp] theorem State.queueTransport_port (b : TxBody) : (s.queueTransport b).port = s.port := rfl
@[simp] theorem State.queueTransport_writer (b : TxBody) : (s.queueTransport b).writer = s.writer := rfl
@[simp] theorem State.queueTransport_verify (b : TxBody) : (s.queueTransport b).verify = s.verify := rfl
@[simp] theorem State.queueTransport_link (b : TxBody) : (s.queueTransport b).link = s.link.enqueueTransport b := rfl
@[simp] theorem State.queueTransport_freeDraws (b : TxBody) : (s.queueTransport b).freeDraws = s.freeDraws := rfl
@[simp] theorem State.queueTransport_pending (b : TxBody) : (s.queueTransport b).pending = s.pending := rfl

@[simp] theorem State.queueReport_intake (r : Report) : (s.queueReport r).intake = s.intake := rfl
@[simp] theorem State.queueReport_timecode (r : Report) : (s.queueReport r).timecode = s.timecode := rfl
@[simp] theorem State.queueReport_engine (r : Report) : (s.queueReport r).engine = s.engine := rfl
@[simp] theorem State.queueReport_slate (r : Report) : (s.queueReport r).slate = s.slate := rfl
@[simp] theorem State.queueReport_journal (r : Report) : (s.queueReport r).journal = s.journal := rfl
@[simp] theorem State.queueReport_media (r : Report) : (s.queueReport r).media = s.media := rfl
@[simp] theorem State.queueReport_port (r : Report) : (s.queueReport r).port = s.port := rfl
@[simp] theorem State.queueReport_writer (r : Report) : (s.queueReport r).writer = s.writer := rfl
@[simp] theorem State.queueReport_verify (r : Report) : (s.queueReport r).verify = s.verify := rfl
@[simp] theorem State.queueReport_link (r : Report) : (s.queueReport r).link = s.link.enqueueReport r := rfl
@[simp] theorem State.queueReport_freeDraws (r : Report) : (s.queueReport r).freeDraws = s.freeDraws := rfl
@[simp] theorem State.queueReport_pending (r : Report) : (s.queueReport r).pending = s.pending := rfl

@[simp] theorem State.setTake_intake (t : TakeState) : (s.setTake t).intake = s.intake := rfl
@[simp] theorem State.setTake_timecode (t : TakeState) : (s.setTake t).timecode = s.timecode := rfl
@[simp] theorem State.setTake_engine (t : TakeState) : (s.setTake t).engine = { s.engine with takeState := t } := rfl
@[simp] theorem State.setTake_slate (t : TakeState) : (s.setTake t).slate = s.slate := rfl
@[simp] theorem State.setTake_journal (t : TakeState) : (s.setTake t).journal = s.journal := rfl
@[simp] theorem State.setTake_media (t : TakeState) : (s.setTake t).media = s.media := rfl
@[simp] theorem State.setTake_port (t : TakeState) : (s.setTake t).port = s.port := rfl
@[simp] theorem State.setTake_writer (t : TakeState) : (s.setTake t).writer = s.writer := rfl
@[simp] theorem State.setTake_verify (t : TakeState) : (s.setTake t).verify = s.verify := rfl
@[simp] theorem State.setTake_link (t : TakeState) : (s.setTake t).link = s.link := rfl
@[simp] theorem State.setTake_freeDraws (t : TakeState) : (s.setTake t).freeDraws = s.freeDraws := rfl
@[simp] theorem State.setTake_pending (t : TakeState) : (s.setTake t).pending = s.pending := rfl

@[simp] theorem State.enterStandby_intake :
    s.enterStandby.intake = { s.intake with armMask := s.intake.nextArm.getD s.intake.armMask, nextArm := none } := rfl
@[simp] theorem State.enterStandby_timecode : s.enterStandby.timecode = s.timecode := rfl
@[simp] theorem State.enterStandby_engine : s.enterStandby.engine = { s.engine with takeState := .standby } := rfl
@[simp] theorem State.enterStandby_slate : s.enterStandby.slate = s.slate := rfl
@[simp] theorem State.enterStandby_journal : s.enterStandby.journal = s.journal := rfl
@[simp] theorem State.enterStandby_media : s.enterStandby.media = s.media := rfl
@[simp] theorem State.enterStandby_port : s.enterStandby.port = s.port := rfl
@[simp] theorem State.enterStandby_writer : s.enterStandby.writer = s.writer := rfl
@[simp] theorem State.enterStandby_verify : s.enterStandby.verify = s.verify := rfl
@[simp] theorem State.enterStandby_link : s.enterStandby.link = s.link := rfl
@[simp] theorem State.enterStandby_freeDraws : s.enterStandby.freeDraws = s.freeDraws := rfl
@[simp] theorem State.enterStandby_pending : s.enterStandby.pending = s.pending := rfl

@[simp] theorem State.clearOpen_intake : s.clearOpen.intake = s.intake := rfl
@[simp] theorem State.clearOpen_timecode : s.clearOpen.timecode = s.timecode := rfl
@[simp] theorem State.clearOpen_engine :
    s.clearOpen.engine = { s.engine with openTake := none, holders := [], pendingStop := none } := rfl
@[simp] theorem State.clearOpen_slate : s.clearOpen.slate = s.slate := rfl
@[simp] theorem State.clearOpen_journal : s.clearOpen.journal = s.journal := rfl
@[simp] theorem State.clearOpen_media : s.clearOpen.media = s.media := rfl
@[simp] theorem State.clearOpen_port : s.clearOpen.port = s.port := rfl
@[simp] theorem State.clearOpen_writer : s.clearOpen.writer = s.writer := rfl
@[simp] theorem State.clearOpen_verify : s.clearOpen.verify = s.verify := rfl
@[simp] theorem State.clearOpen_link : s.clearOpen.link = s.link := rfl
@[simp] theorem State.clearOpen_freeDraws : s.clearOpen.freeDraws = s.freeDraws := rfl
@[simp] theorem State.clearOpen_pending : s.clearOpen.pending = s.pending := rfl

@[simp] theorem State.ask_intake (k : OpKind) (a : Nat) (b : Option (List Byte)) (f : Bool) :
    (s.ask k a b f).intake = s.intake := rfl
@[simp] theorem State.ask_timecode (k : OpKind) (a : Nat) (b : Option (List Byte)) (f : Bool) :
    (s.ask k a b f).timecode = s.timecode := rfl
@[simp] theorem State.ask_engine (k : OpKind) (a : Nat) (b : Option (List Byte)) (f : Bool) :
    (s.ask k a b f).engine = s.engine := rfl
@[simp] theorem State.ask_slate (k : OpKind) (a : Nat) (b : Option (List Byte)) (f : Bool) :
    (s.ask k a b f).slate = s.slate := rfl
@[simp] theorem State.ask_journal (k : OpKind) (a : Nat) (b : Option (List Byte)) (f : Bool) :
    (s.ask k a b f).journal = s.journal := rfl
@[simp] theorem State.ask_media (k : OpKind) (a : Nat) (b : Option (List Byte)) (f : Bool) :
    (s.ask k a b f).media = s.media := rfl
@[simp] theorem State.ask_port (k : OpKind) (a : Nat) (b : Option (List Byte)) (f : Bool) :
    (s.ask k a b f).port = { s.port with waiting := s.port.waiting ++ [{ id := s.port.nextOp, kind := k, attempt := a, block := b, isFinal := f }], nextOp := s.port.nextOp + 1 } := rfl
@[simp] theorem State.ask_writer (k : OpKind) (a : Nat) (b : Option (List Byte)) (f : Bool) :
    (s.ask k a b f).writer = s.writer := rfl
@[simp] theorem State.ask_verify (k : OpKind) (a : Nat) (b : Option (List Byte)) (f : Bool) :
    (s.ask k a b f).verify = s.verify := rfl
@[simp] theorem State.ask_link (k : OpKind) (a : Nat) (b : Option (List Byte)) (f : Bool) :
    (s.ask k a b f).link = s.link := rfl
@[simp] theorem State.ask_freeDraws (k : OpKind) (a : Nat) (b : Option (List Byte)) (f : Bool) :
    (s.ask k a b f).freeDraws = s.freeDraws := rfl
@[simp] theorem State.ask_pending (k : OpKind) (a : Nat) (b : Option (List Byte)) (f : Bool) :
    (s.ask k a b f).pending = s.pending := rfl

@[simp] theorem State.askNew_intake (k : OpKind) : (s.askNew k).intake = s.intake := rfl
@[simp] theorem State.askNew_timecode (k : OpKind) : (s.askNew k).timecode = s.timecode := rfl
@[simp] theorem State.askNew_engine (k : OpKind) : (s.askNew k).engine = s.engine := rfl
@[simp] theorem State.askNew_slate (k : OpKind) : (s.askNew k).slate = s.slate := rfl
@[simp] theorem State.askNew_journal (k : OpKind) : (s.askNew k).journal = s.journal := rfl
@[simp] theorem State.askNew_media (k : OpKind) : (s.askNew k).media = s.media := rfl
@[simp] theorem State.askNew_port (k : OpKind) :
    (s.askNew k).port = { s.port with waiting := s.port.waiting ++ [{ id := s.port.nextOp, kind := k, attempt := 1, block := none, isFinal := false }], nextOp := s.port.nextOp + 1 } := rfl
@[simp] theorem State.askNew_writer (k : OpKind) : (s.askNew k).writer = s.writer := rfl
@[simp] theorem State.askNew_verify (k : OpKind) : (s.askNew k).verify = s.verify := rfl
@[simp] theorem State.askNew_link (k : OpKind) : (s.askNew k).link = s.link := rfl
@[simp] theorem State.askNew_freeDraws (k : OpKind) : (s.askNew k).freeDraws = s.freeDraws := rfl
@[simp] theorem State.askNew_pending (k : OpKind) : (s.askNew k).pending = s.pending := rfl

@[simp] theorem State.retry_intake (op : Op) : (s.retry op).intake = s.intake := rfl
@[simp] theorem State.retry_timecode (op : Op) : (s.retry op).timecode = s.timecode := rfl
@[simp] theorem State.retry_engine (op : Op) : (s.retry op).engine = s.engine := rfl
@[simp] theorem State.retry_slate (op : Op) : (s.retry op).slate = s.slate := rfl
@[simp] theorem State.retry_journal (op : Op) : (s.retry op).journal = s.journal := rfl
@[simp] theorem State.retry_media (op : Op) : (s.retry op).media = s.media := rfl
@[simp] theorem State.retry_port (op : Op) :
    (s.retry op).port = { s.port with waiting := s.port.waiting ++ [{ id := s.port.nextOp, kind := op.kind, attempt := op.attempt + 1, block := op.block, isFinal := op.isFinal }], nextOp := s.port.nextOp + 1 } := rfl
@[simp] theorem State.retry_writer (op : Op) : (s.retry op).writer = s.writer := rfl
@[simp] theorem State.retry_verify (op : Op) : (s.retry op).verify = s.verify := rfl
@[simp] theorem State.retry_link (op : Op) : (s.retry op).link = s.link := rfl
@[simp] theorem State.retry_freeDraws (op : Op) : (s.retry op).freeDraws = s.freeDraws := rfl
@[simp] theorem State.retry_pending (op : Op) : (s.retry op).pending = s.pending := rfl

@[simp] theorem State.release_intake (id : Nat) : (s.release id).intake = s.intake := rfl
@[simp] theorem State.release_timecode (id : Nat) : (s.release id).timecode = s.timecode := rfl
@[simp] theorem State.release_engine (id : Nat) : (s.release id).engine = s.engine := rfl
@[simp] theorem State.release_slate (id : Nat) : (s.release id).slate = s.slate := rfl
@[simp] theorem State.release_journal (id : Nat) : (s.release id).journal = s.journal := rfl
@[simp] theorem State.release_media (id : Nat) : (s.release id).media = s.media := rfl
@[simp] theorem State.release_port (id : Nat) :
    (s.release id).port = { s.port with outstanding := s.port.outstanding.filter fun op => op.id != id } := rfl
@[simp] theorem State.release_writer (id : Nat) : (s.release id).writer = s.writer := rfl
@[simp] theorem State.release_verify (id : Nat) : (s.release id).verify = s.verify := rfl
@[simp] theorem State.release_link (id : Nat) : (s.release id).link = s.link := rfl
@[simp] theorem State.release_freeDraws (id : Nat) : (s.release id).freeDraws = s.freeDraws := rfl
@[simp] theorem State.release_pending (id : Nat) : (s.release id).pending = s.pending := rfl

@[simp] theorem State.withdraw_intake (p : Op → Bool) : (s.withdraw p).intake = s.intake := rfl
@[simp] theorem State.withdraw_timecode (p : Op → Bool) : (s.withdraw p).timecode = s.timecode := rfl
@[simp] theorem State.withdraw_engine (p : Op → Bool) : (s.withdraw p).engine = s.engine := rfl
@[simp] theorem State.withdraw_slate (p : Op → Bool) : (s.withdraw p).slate = s.slate := rfl
@[simp] theorem State.withdraw_journal (p : Op → Bool) : (s.withdraw p).journal = s.journal := rfl
@[simp] theorem State.withdraw_media (p : Op → Bool) : (s.withdraw p).media = s.media := rfl
@[simp] theorem State.withdraw_port (p : Op → Bool) :
    (s.withdraw p).port = { s.port with waiting := s.port.waiting.filter fun op => !p op } := rfl
@[simp] theorem State.withdraw_writer (p : Op → Bool) : (s.withdraw p).writer = s.writer := rfl
@[simp] theorem State.withdraw_verify (p : Op → Bool) : (s.withdraw p).verify = s.verify := rfl
@[simp] theorem State.withdraw_link (p : Op → Bool) : (s.withdraw p).link = s.link := rfl
@[simp] theorem State.withdraw_freeDraws (p : Op → Bool) : (s.withdraw p).freeDraws = s.freeDraws := rfl
@[simp] theorem State.withdraw_pending (p : Op → Bool) : (s.withdraw p).pending = s.pending := rfl

@[simp] theorem State.occupy_intake (op : Op) : (s.occupy op).intake = s.intake := rfl
@[simp] theorem State.occupy_timecode (op : Op) : (s.occupy op).timecode = s.timecode := rfl
@[simp] theorem State.occupy_engine (op : Op) : (s.occupy op).engine = s.engine := rfl
@[simp] theorem State.occupy_slate (op : Op) : (s.occupy op).slate = s.slate := rfl
@[simp] theorem State.occupy_journal (op : Op) : (s.occupy op).journal = s.journal := rfl
@[simp] theorem State.occupy_media (op : Op) : (s.occupy op).media = s.media := rfl
@[simp] theorem State.occupy_port (op : Op) :
    (s.occupy op).port = { s.port with outstanding := s.port.outstanding ++ [op] } := rfl
@[simp] theorem State.occupy_writer (op : Op) : (s.occupy op).writer = s.writer := rfl
@[simp] theorem State.occupy_verify (op : Op) : (s.occupy op).verify = s.verify := rfl
@[simp] theorem State.occupy_link (op : Op) : (s.occupy op).link = s.link := rfl
@[simp] theorem State.occupy_freeDraws (op : Op) : (s.occupy op).freeDraws = s.freeDraws := rfl
@[simp] theorem State.occupy_pending (op : Op) : (s.occupy op).pending = s.pending := rfl

@[simp] theorem State.idleSlot_intake : s.idleSlot.intake = s.intake := rfl
@[simp] theorem State.idleSlot_timecode : s.idleSlot.timecode = s.timecode := rfl
@[simp] theorem State.idleSlot_engine : s.idleSlot.engine = s.engine := rfl
@[simp] theorem State.idleSlot_slate : s.idleSlot.slate = s.slate := rfl
@[simp] theorem State.idleSlot_journal : s.idleSlot.journal = s.journal := rfl
@[simp] theorem State.idleSlot_media : s.idleSlot.media = s.media := rfl
@[simp] theorem State.idleSlot_port : s.idleSlot.port = s.port := rfl
@[simp] theorem State.idleSlot_writer : s.idleSlot.writer = s.writer := rfl
@[simp] theorem State.idleSlot_verify : s.idleSlot.verify = { s.verify with slot := .idle } := rfl
@[simp] theorem State.idleSlot_link : s.idleSlot.link = s.link := rfl
@[simp] theorem State.idleSlot_freeDraws : s.idleSlot.freeDraws = s.freeDraws := rfl
@[simp] theorem State.idleSlot_pending : s.idleSlot.pending = s.pending := rfl

@[simp] theorem State.setMedia_intake (m : MediaState) : (s.setMedia m).intake = s.intake := rfl
@[simp] theorem State.setMedia_timecode (m : MediaState) : (s.setMedia m).timecode = s.timecode := rfl
@[simp] theorem State.setMedia_engine (m : MediaState) : (s.setMedia m).engine = s.engine := rfl
@[simp] theorem State.setMedia_slate (m : MediaState) : (s.setMedia m).slate = s.slate := rfl
@[simp] theorem State.setMedia_journal (m : MediaState) : (s.setMedia m).journal = s.journal := rfl
@[simp] theorem State.setMedia_media (m : MediaState) : (s.setMedia m).media = { s.media with state := m } := rfl
@[simp] theorem State.setMedia_port (m : MediaState) : (s.setMedia m).port = s.port := rfl
@[simp] theorem State.setMedia_writer (m : MediaState) : (s.setMedia m).writer = s.writer := rfl
@[simp] theorem State.setMedia_verify (m : MediaState) : (s.setMedia m).verify = s.verify := rfl
@[simp] theorem State.setMedia_link (m : MediaState) : (s.setMedia m).link = s.link := rfl
@[simp] theorem State.setMedia_freeDraws (m : MediaState) : (s.setMedia m).freeDraws = s.freeDraws := rfl
@[simp] theorem State.setMedia_pending (m : MediaState) : (s.setMedia m).pending = s.pending := rfl

@[simp] theorem State.setMount_intake (m : Mount) : (s.setMount m).intake = s.intake := rfl
@[simp] theorem State.setMount_timecode (m : Mount) : (s.setMount m).timecode = s.timecode := rfl
@[simp] theorem State.setMount_engine (m : Mount) : (s.setMount m).engine = s.engine := rfl
@[simp] theorem State.setMount_slate (m : Mount) : (s.setMount m).slate = s.slate := rfl
@[simp] theorem State.setMount_journal (m : Mount) : (s.setMount m).journal = s.journal := rfl
@[simp] theorem State.setMount_media (m : Mount) : (s.setMount m).media = { s.media with mount := m } := rfl
@[simp] theorem State.setMount_port (m : Mount) : (s.setMount m).port = s.port := rfl
@[simp] theorem State.setMount_writer (m : Mount) : (s.setMount m).writer = s.writer := rfl
@[simp] theorem State.setMount_verify (m : Mount) : (s.setMount m).verify = s.verify := rfl
@[simp] theorem State.setMount_link (m : Mount) : (s.setMount m).link = s.link := rfl
@[simp] theorem State.setMount_freeDraws (m : Mount) : (s.setMount m).freeDraws = s.freeDraws := rfl
@[simp] theorem State.setMount_pending (m : Mount) : (s.setMount m).pending = s.pending := rfl

@[simp] theorem State.endUnprepared_intake : s.endUnprepared.intake = s.intake := rfl
@[simp] theorem State.endUnprepared_timecode : s.endUnprepared.timecode = s.timecode := rfl
@[simp] theorem State.endUnprepared_engine : s.endUnprepared.engine = s.engine := rfl
@[simp] theorem State.endUnprepared_slate : s.endUnprepared.slate = s.slate := rfl
@[simp] theorem State.endUnprepared_journal : s.endUnprepared.journal = s.journal := rfl
@[simp] theorem State.endUnprepared_media :
    s.endUnprepared.media = { s.media with state := .unprepared, mount := .none } := rfl
@[simp] theorem State.endUnprepared_port : s.endUnprepared.port = s.port := rfl
@[simp] theorem State.endUnprepared_writer : s.endUnprepared.writer = s.writer := rfl
@[simp] theorem State.endUnprepared_verify : s.endUnprepared.verify = s.verify := rfl
@[simp] theorem State.endUnprepared_link : s.endUnprepared.link = s.link := rfl
@[simp] theorem State.endUnprepared_freeDraws : s.endUnprepared.freeDraws = s.freeDraws := rfl
@[simp] theorem State.endUnprepared_pending : s.endUnprepared.pending = s.pending := rfl

@[simp] theorem State.setVerify_intake (v : Verify) : (s.setVerify v).intake = s.intake := rfl
@[simp] theorem State.setVerify_timecode (v : Verify) : (s.setVerify v).timecode = s.timecode := rfl
@[simp] theorem State.setVerify_engine (v : Verify) : (s.setVerify v).engine = s.engine := rfl
@[simp] theorem State.setVerify_slate (v : Verify) : (s.setVerify v).slate = s.slate := rfl
@[simp] theorem State.setVerify_journal (v : Verify) : (s.setVerify v).journal = s.journal := rfl
@[simp] theorem State.setVerify_media (v : Verify) : (s.setVerify v).media = s.media := rfl
@[simp] theorem State.setVerify_port (v : Verify) : (s.setVerify v).port = s.port := rfl
@[simp] theorem State.setVerify_writer (v : Verify) : (s.setVerify v).writer = s.writer := rfl
@[simp] theorem State.setVerify_verify (v : Verify) : (s.setVerify v).verify = v := rfl
@[simp] theorem State.setVerify_link (v : Verify) : (s.setVerify v).link = s.link := rfl
@[simp] theorem State.setVerify_freeDraws (v : Verify) : (s.setVerify v).freeDraws = s.freeDraws := rfl
@[simp] theorem State.setVerify_pending (v : Verify) : (s.setVerify v).pending = s.pending := rfl

@[simp] theorem State.endHeaderWrite_intake : s.endHeaderWrite.intake = s.intake := rfl
@[simp] theorem State.endHeaderWrite_timecode : s.endHeaderWrite.timecode = s.timecode := rfl
@[simp] theorem State.endHeaderWrite_engine : s.endHeaderWrite.engine = s.engine := rfl
@[simp] theorem State.endHeaderWrite_slate : s.endHeaderWrite.slate = s.slate := rfl
@[simp] theorem State.endHeaderWrite_journal : s.endHeaderWrite.journal = s.journal := rfl
@[simp] theorem State.endHeaderWrite_media :
    s.endHeaderWrite.media = { s.media with headerInFlight := false, headerPending := false } := rfl
@[simp] theorem State.endHeaderWrite_port : s.endHeaderWrite.port = s.port := rfl
@[simp] theorem State.endHeaderWrite_writer : s.endHeaderWrite.writer = s.writer := rfl
@[simp] theorem State.endHeaderWrite_verify : s.endHeaderWrite.verify = s.verify := rfl
@[simp] theorem State.endHeaderWrite_link : s.endHeaderWrite.link = s.link := rfl
@[simp] theorem State.endHeaderWrite_freeDraws : s.endHeaderWrite.freeDraws = s.freeDraws := rfl
@[simp] theorem State.endHeaderWrite_pending : s.endHeaderWrite.pending = s.pending := rfl

@[simp] theorem State.applyMix_intake (l : List MixEntry) :
    (s.applyMix l).intake = l.foldl Intake.mixEntry s.intake := rfl
@[simp] theorem State.applyMix_timecode (l : List MixEntry) : (s.applyMix l).timecode = s.timecode := rfl
@[simp] theorem State.applyMix_engine (l : List MixEntry) : (s.applyMix l).engine = s.engine := rfl
@[simp] theorem State.applyMix_slate (l : List MixEntry) : (s.applyMix l).slate = s.slate := rfl
@[simp] theorem State.applyMix_journal (l : List MixEntry) : (s.applyMix l).journal = s.journal := rfl
@[simp] theorem State.applyMix_media (l : List MixEntry) : (s.applyMix l).media = s.media := rfl
@[simp] theorem State.applyMix_port (l : List MixEntry) : (s.applyMix l).port = s.port := rfl
@[simp] theorem State.applyMix_writer (l : List MixEntry) : (s.applyMix l).writer = s.writer := rfl
@[simp] theorem State.applyMix_verify (l : List MixEntry) : (s.applyMix l).verify = s.verify := rfl
@[simp] theorem State.applyMix_link (l : List MixEntry) : (s.applyMix l).link = s.link := rfl
@[simp] theorem State.applyMix_freeDraws (l : List MixEntry) : (s.applyMix l).freeDraws = s.freeDraws := rfl
@[simp] theorem State.applyMix_pending (l : List MixEntry) : (s.applyMix l).pending = s.pending := rfl

@[simp] theorem State.answer_intake (q : Request) (c : OutcomeClass) (d : Detail) (y : List Byte) :
    (s.answer q c d y).intake = s.intake := rfl
@[simp] theorem State.answer_timecode (q : Request) (c : OutcomeClass) (d : Detail) (y : List Byte) :
    (s.answer q c d y).timecode = s.timecode := rfl
@[simp] theorem State.answer_engine (q : Request) (c : OutcomeClass) (d : Detail) (y : List Byte) :
    (s.answer q c d y).engine = s.engine := rfl
@[simp] theorem State.answer_slate (q : Request) (c : OutcomeClass) (d : Detail) (y : List Byte) :
    (s.answer q c d y).slate = s.slate := rfl
@[simp] theorem State.answer_journal (q : Request) (c : OutcomeClass) (d : Detail) (y : List Byte) :
    (s.answer q c d y).journal = s.journal := rfl
@[simp] theorem State.answer_media (q : Request) (c : OutcomeClass) (d : Detail) (y : List Byte) :
    (s.answer q c d y).media = s.media := rfl
@[simp] theorem State.answer_port (q : Request) (c : OutcomeClass) (d : Detail) (y : List Byte) :
    (s.answer q c d y).port = s.port := rfl
@[simp] theorem State.answer_writer (q : Request) (c : OutcomeClass) (d : Detail) (y : List Byte) :
    (s.answer q c d y).writer = s.writer := rfl
@[simp] theorem State.answer_verify (q : Request) (c : OutcomeClass) (d : Detail) (y : List Byte) :
    (s.answer q c d y).verify = s.verify := rfl
@[simp] theorem State.answer_link (q : Request) (c : OutcomeClass) (d : Detail) (y : List Byte) :
    (s.answer q c d y).link = s.link.enqueueReport { dest := q.sender, tag := q.tag, kind := q.code, outcome := c, detail := d, reply := y } := rfl
@[simp] theorem State.answer_freeDraws (q : Request) (c : OutcomeClass) (d : Detail) (y : List Byte) :
    (s.answer q c d y).freeDraws = s.freeDraws := rfl
@[simp] theorem State.answer_pending (q : Request) (c : OutcomeClass) (d : Detail) (y : List Byte) :
    (s.answer q c d y).pending = s.pending := rfl

@[simp] theorem State.refuse_intake (q : Request) (d : Detail) : (s.refuse q d).intake = s.intake := rfl
@[simp] theorem State.refuse_timecode (q : Request) (d : Detail) : (s.refuse q d).timecode = s.timecode := rfl
@[simp] theorem State.refuse_engine (q : Request) (d : Detail) : (s.refuse q d).engine = s.engine := rfl
@[simp] theorem State.refuse_slate (q : Request) (d : Detail) : (s.refuse q d).slate = s.slate := rfl
@[simp] theorem State.refuse_journal (q : Request) (d : Detail) : (s.refuse q d).journal = s.journal := rfl
@[simp] theorem State.refuse_media (q : Request) (d : Detail) : (s.refuse q d).media = s.media := rfl
@[simp] theorem State.refuse_port (q : Request) (d : Detail) : (s.refuse q d).port = s.port := rfl
@[simp] theorem State.refuse_writer (q : Request) (d : Detail) : (s.refuse q d).writer = s.writer := rfl
@[simp] theorem State.refuse_verify (q : Request) (d : Detail) : (s.refuse q d).verify = s.verify := rfl
@[simp] theorem State.refuse_link (q : Request) (d : Detail) :
    (s.refuse q d).link = s.link.enqueueReport { dest := q.sender, tag := q.tag, kind := q.code, outcome := .refused, detail := d, reply := [] } := rfl
@[simp] theorem State.refuse_freeDraws (q : Request) (d : Detail) : (s.refuse q d).freeDraws = s.freeDraws := rfl
@[simp] theorem State.refuse_pending (q : Request) (d : Detail) : (s.refuse q d).pending = s.pending := rfl

@[simp] theorem State.finalReport_intake (who : Requester) (k : RequestKind) (c : OutcomeClass) (d : Detail) (y : List Byte) :
    (s.finalReport who k c d y).intake = s.intake := rfl
@[simp] theorem State.finalReport_timecode (who : Requester) (k : RequestKind) (c : OutcomeClass) (d : Detail) (y : List Byte) :
    (s.finalReport who k c d y).timecode = s.timecode := rfl
@[simp] theorem State.finalReport_engine (who : Requester) (k : RequestKind) (c : OutcomeClass) (d : Detail) (y : List Byte) :
    (s.finalReport who k c d y).engine = s.engine := rfl
@[simp] theorem State.finalReport_slate (who : Requester) (k : RequestKind) (c : OutcomeClass) (d : Detail) (y : List Byte) :
    (s.finalReport who k c d y).slate = s.slate := rfl
@[simp] theorem State.finalReport_journal (who : Requester) (k : RequestKind) (c : OutcomeClass) (d : Detail) (y : List Byte) :
    (s.finalReport who k c d y).journal = s.journal := rfl
@[simp] theorem State.finalReport_media (who : Requester) (k : RequestKind) (c : OutcomeClass) (d : Detail) (y : List Byte) :
    (s.finalReport who k c d y).media = s.media := rfl
@[simp] theorem State.finalReport_port (who : Requester) (k : RequestKind) (c : OutcomeClass) (d : Detail) (y : List Byte) :
    (s.finalReport who k c d y).port = s.port := rfl
@[simp] theorem State.finalReport_writer (who : Requester) (k : RequestKind) (c : OutcomeClass) (d : Detail) (y : List Byte) :
    (s.finalReport who k c d y).writer = s.writer := rfl
@[simp] theorem State.finalReport_verify (who : Requester) (k : RequestKind) (c : OutcomeClass) (d : Detail) (y : List Byte) :
    (s.finalReport who k c d y).verify = s.verify := rfl
@[simp] theorem State.finalReport_link (who : Requester) (k : RequestKind) (c : OutcomeClass) (d : Detail) (y : List Byte) :
    (s.finalReport who k c d y).link = s.link.enqueueReport { dest := who.station, tag := who.tag, kind := k.code, outcome := c, detail := d, reply := y } := rfl
@[simp] theorem State.finalReport_freeDraws (who : Requester) (k : RequestKind) (c : OutcomeClass) (d : Detail) (y : List Byte) :
    (s.finalReport who k c d y).freeDraws = s.freeDraws := rfl
@[simp] theorem State.finalReport_pending (who : Requester) (k : RequestKind) (c : OutcomeClass) (d : Detail) (y : List Byte) :
    (s.finalReport who k c d y).pending = s.pending := rfl

end Sys2Proof.Machine
end

