-- ==== Sys2Proof/Laws/Frames.lean ====
section
/-! SUPPORT. For each shared operation, once: the blocks of the state that it leaves as they are. -/

namespace Sys2Proof.Machine

variable (s : State)

@[simp] theorem State.modifySlot_frame (n : Nat) (f : MirrorSlot → MirrorSlot) :
    (s.modifySlot n f).intake = s.intake ∧ (s.modifySlot n f).timecode = s.timecode ∧
    (s.modifySlot n f).engine = s.engine ∧ (s.modifySlot n f).slate = s.slate ∧ (s.modifySlot n f).media = s.media ∧
    (s.modifySlot n f).port = s.port ∧ (s.modifySlot n f).writer = s.writer ∧ (s.modifySlot n f).verify = s.verify ∧
    (s.modifySlot n f).link = s.link ∧ (s.modifySlot n f).freeDraws = s.freeDraws ∧
    (s.modifySlot n f).pending = s.pending ∧ (s.modifySlot n f).journal.nextIndex = s.journal.nextIndex := by
  refine ⟨?_, ?_, ?_, ?_, ?_, ?_, ?_, ?_, ?_, ?_, ?_, ?_⟩ <;> (unfold State.modifySlot; split <;> rfl)

@[simp] theorem State.modifyRecord_frame (n : Nat) (f : Record → Record) :
    (s.modifyRecord n f).intake = s.intake ∧ (s.modifyRecord n f).timecode = s.timecode ∧
    (s.modifyRecord n f).engine = s.engine ∧ (s.modifyRecord n f).slate = s.slate ∧
    (s.modifyRecord n f).media = s.media ∧ (s.modifyRecord n f).port = s.port ∧
    (s.modifyRecord n f).writer = s.writer ∧ (s.modifyRecord n f).verify = s.verify ∧
    (s.modifyRecord n f).link = s.link ∧ (s.modifyRecord n f).freeDraws = s.freeDraws ∧
    (s.modifyRecord n f).pending = s.pending ∧ (s.modifyRecord n f).journal.nextIndex = s.journal.nextIndex := by
  refine ⟨?_, ?_, ?_, ?_, ?_, ?_, ?_, ?_, ?_, ?_, ?_, ?_⟩ <;> (unfold State.modifyRecord; simp)

@[simp] theorem State.flagRecord_frame (n : Nat) (f : TakeFlag) :
    (s.flagRecord n f).intake = s.intake ∧ (s.flagRecord n f).timecode = s.timecode ∧
    (s.flagRecord n f).engine = s.engine ∧ (s.flagRecord n f).slate = s.slate ∧ (s.flagRecord n f).media = s.media ∧
    (s.flagRecord n f).port = s.port ∧ (s.flagRecord n f).writer = s.writer ∧ (s.flagRecord n f).verify = s.verify ∧
    (s.flagRecord n f).link = s.link ∧ (s.flagRecord n f).freeDraws = s.freeDraws ∧
    (s.flagRecord n f).pending = s.pending ∧ (s.flagRecord n f).journal.nextIndex = s.journal.nextIndex := by
  refine ⟨?_, ?_, ?_, ?_, ?_, ?_, ?_, ?_, ?_, ?_, ?_, ?_⟩ <;> (unfold State.flagRecord; simp)

@[simp] theorem State.fillBuffer_frame (b : Nat) (y : List Byte) :
    (s.fillBuffer b y).intake = s.intake ∧ (s.fillBuffer b y).timecode = s.timecode ∧
    (s.fillBuffer b y).engine = s.engine ∧ (s.fillBuffer b y).slate = s.slate ∧
    (s.fillBuffer b y).journal = s.journal ∧ (s.fillBuffer b y).media = s.media ∧ (s.fillBuffer b y).port = s.port ∧
    (s.fillBuffer b y).verify = s.verify ∧ (s.fillBuffer b y).link = s.link ∧
    (s.fillBuffer b y).freeDraws = s.freeDraws ∧ (s.fillBuffer b y).pending = s.pending ∧
    (s.fillBuffer b y).writer.queue = s.writer.queue := by
  refine ⟨?_, ?_, ?_, ?_, ?_, ?_, ?_, ?_, ?_, ?_, ?_, ?_⟩ <;> (unfold State.fillBuffer; split <;> rfl)

@[simp] theorem State.announce_frame (s0 : State) :
    (State.announce s0 s).intake = s.intake ∧ (State.announce s0 s).timecode = s.timecode ∧
    (State.announce s0 s).engine = s.engine ∧ (State.announce s0 s).slate = s.slate ∧
    (State.announce s0 s).journal = s.journal ∧ (State.announce s0 s).media = s.media ∧
    (State.announce s0 s).port = s.port ∧ (State.announce s0 s).writer = s.writer ∧
    (State.announce s0 s).verify = s.verify ∧ (State.announce s0 s).freeDraws = s.freeDraws ∧
    (State.announce s0 s).pending = s.pending := by
  refine ⟨?_, ?_, ?_, ?_, ?_, ?_, ?_, ?_, ?_, ?_, ?_⟩ <;> (unfold State.announce; split <;> rfl)

@[simp] theorem State.payOwed_frame :
    s.payOwed.intake = s.intake ∧ s.payOwed.timecode = s.timecode ∧ s.payOwed.engine = s.engine ∧
    s.payOwed.slate = s.slate ∧ s.payOwed.journal = s.journal ∧ s.payOwed.media = s.media ∧ s.payOwed.port = s.port ∧
    s.payOwed.writer = s.writer ∧ s.payOwed.verify = s.verify ∧ s.payOwed.freeDraws = s.freeDraws ∧
    s.payOwed.pending = s.pending := by
  refine ⟨?_, ?_, ?_, ?_, ?_, ?_, ?_, ?_, ?_, ?_, ?_⟩ <;> (unfold State.payOwed; split <;> rfl)

@[simp] theorem State.refreshStation_frame :
    s.refreshStation.timecode = s.timecode ∧ s.refreshStation.slate = s.slate ∧
    s.refreshStation.journal = s.journal ∧ s.refreshStation.media = s.media ∧ s.refreshStation.port = s.port ∧
    s.refreshStation.writer = s.writer ∧ s.refreshStation.verify = s.verify ∧ s.refreshStation.link = s.link ∧
    s.refreshStation.freeDraws = s.freeDraws ∧ s.refreshStation.pending = s.pending := by
  refine ⟨?_, ?_, ?_, ?_, ?_, ?_, ?_, ?_, ?_, ?_⟩ <;> (unfold State.refreshStation; (repeat' split) <;> simp)

@[simp] theorem State.askWrite_frame (n : Nat) :
    (s.askWrite n).intake = s.intake ∧ (s.askWrite n).timecode = s.timecode ∧ (s.askWrite n).engine = s.engine ∧
    (s.askWrite n).slate = s.slate ∧ (s.askWrite n).media = s.media ∧ (s.askWrite n).writer = s.writer ∧
    (s.askWrite n).verify = s.verify ∧ (s.askWrite n).link = s.link ∧ (s.askWrite n).freeDraws = s.freeDraws ∧
    (s.askWrite n).pending = s.pending ∧ (s.askWrite n).journal.nextIndex = s.journal.nextIndex ∧
    (s.askWrite n).port.outstanding = s.port.outstanding := by
  refine ⟨?_, ?_, ?_, ?_, ?_, ?_, ?_, ?_, ?_, ?_, ?_, ?_⟩ <;> (unfold State.askWrite; (repeat' split) <;> simp)

@[simp] theorem State.changeRecord_frame (n : Nat) :
    (s.changeRecord n).intake = s.intake ∧ (s.changeRecord n).timecode = s.timecode ∧
    (s.changeRecord n).engine = s.engine ∧ (s.changeRecord n).slate = s.slate ∧ (s.changeRecord n).media = s.media ∧
    (s.changeRecord n).writer = s.writer ∧ (s.changeRecord n).verify = s.verify ∧ (s.changeRecord n).link = s.link ∧
    (s.changeRecord n).freeDraws = s.freeDraws ∧ (s.changeRecord n).pending = s.pending ∧
    (s.changeRecord n).journal.nextIndex = s.journal.nextIndex ∧
    (s.changeRecord n).port.outstanding = s.port.outstanding := by
  refine ⟨?_, ?_, ?_, ?_, ?_, ?_, ?_, ?_, ?_, ?_, ?_, ?_⟩ <;> (unfold State.changeRecord; (repeat' split) <;> simp)

@[simp] theorem State.askCheckpoint_frame (n : Nat) :
    (s.askCheckpoint n).intake = s.intake ∧ (s.askCheckpoint n).timecode = s.timecode ∧
    (s.askCheckpoint n).engine = s.engine ∧ (s.askCheckpoint n).slate = s.slate ∧
    (s.askCheckpoint n).media = s.media ∧ (s.askCheckpoint n).writer = s.writer ∧
    (s.askCheckpoint n).verify = s.verify ∧ (s.askCheckpoint n).link = s.link ∧
    (s.askCheckpoint n).freeDraws = s.freeDraws ∧ (s.askCheckpoint n).pending = s.pending ∧
    (s.askCheckpoint n).journal.nextIndex = s.journal.nextIndex ∧
    (s.askCheckpoint n).port.outstanding = s.port.outstanding := by
  refine ⟨?_, ?_, ?_, ?_, ?_, ?_, ?_, ?_, ?_, ?_, ?_, ?_⟩ <;> (unfold State.askCheckpoint; split <;> simp)

@[simp] theorem State.askHeaderRewrite_frame :
    s.askHeaderRewrite.intake = s.intake ∧ s.askHeaderRewrite.timecode = s.timecode ∧
    s.askHeaderRewrite.engine = s.engine ∧ s.askHeaderRewrite.slate = s.slate ∧
    s.askHeaderRewrite.journal = s.journal ∧ s.askHeaderRewrite.writer = s.writer ∧
    s.askHeaderRewrite.verify = s.verify ∧ s.askHeaderRewrite.link = s.link ∧
    s.askHeaderRewrite.freeDraws = s.freeDraws ∧ s.askHeaderRewrite.pending = s.pending ∧
    s.askHeaderRewrite.port.outstanding = s.port.outstanding := by
  refine ⟨?_, ?_, ?_, ?_, ?_, ?_, ?_, ?_, ?_, ?_, ?_⟩ <;> (unfold State.askHeaderRewrite; (repeat' split) <;> simp)

@[simp] theorem State.grantSegment_frame (b i : Nat) :
    (s.grantSegment b i).intake = s.intake ∧ (s.grantSegment b i).timecode = s.timecode ∧
    (s.grantSegment b i).engine = s.engine ∧ (s.grantSegment b i).slate = s.slate ∧
    (s.grantSegment b i).journal = s.journal ∧ (s.grantSegment b i).media = s.media ∧
    (s.grantSegment b i).port = s.port ∧ (s.grantSegment b i).verify = s.verify ∧
    (s.grantSegment b i).link = s.link ∧ (s.grantSegment b i).freeDraws = s.freeDraws ∧
    (s.grantSegment b i).pending = s.pending := by
  refine ⟨?_, ?_, ?_, ?_, ?_, ?_, ?_, ?_, ?_, ?_, ?_⟩ <;> (unfold State.grantSegment; (repeat' split) <;> simp)

@[simp] theorem State.composeJournal_frame (n : Nat) (op : Op) :
    (s.composeJournal n op).intake = s.intake ∧ (s.composeJournal n op).timecode = s.timecode ∧
    (s.composeJournal n op).engine = s.engine ∧ (s.composeJournal n op).slate = s.slate ∧
    (s.composeJournal n op).media = s.media ∧ (s.composeJournal n op).writer = s.writer ∧
    (s.composeJournal n op).verify = s.verify ∧ (s.composeJournal n op).link = s.link ∧
    (s.composeJournal n op).freeDraws = s.freeDraws ∧ (s.composeJournal n op).pending = s.pending ∧
    (s.composeJournal n op).journal.nextIndex = s.journal.nextIndex := by
  refine ⟨?_, ?_, ?_, ?_, ?_, ?_, ?_, ?_, ?_, ?_, ?_⟩ <;> (unfold State.composeJournal; split <;> simp)

@[simp] theorem State.composeHeader_frame (op : Op) :
    (s.composeHeader op).intake = s.intake ∧ (s.composeHeader op).timecode = s.timecode ∧
    (s.composeHeader op).engine = s.engine ∧ (s.composeHeader op).slate = s.slate ∧
    (s.composeHeader op).journal = s.journal ∧ (s.composeHeader op).media = s.media ∧
    (s.composeHeader op).writer = s.writer ∧ (s.composeHeader op).verify = s.verify ∧
    (s.composeHeader op).link = s.link ∧ (s.composeHeader op).freeDraws = s.freeDraws ∧
    (s.composeHeader op).pending = s.pending := by
  refine ⟨?_, ?_, ?_, ?_, ?_, ?_, ?_, ?_, ?_, ?_, ?_⟩ <;> (unfold State.composeHeader; split <;> rfl)

@[simp] theorem State.grantOp_frame (op : Op) :
    (s.grantOp op).intake = s.intake ∧ (s.grantOp op).timecode = s.timecode ∧ (s.grantOp op).engine = s.engine ∧
    (s.grantOp op).slate = s.slate ∧ (s.grantOp op).media = s.media ∧ (s.grantOp op).link = s.link ∧
    (s.grantOp op).freeDraws = s.freeDraws ∧ (s.grantOp op).pending = s.pending ∧
    (s.grantOp op).journal.nextIndex = s.journal.nextIndex := by
  refine ⟨?_, ?_, ?_, ?_, ?_, ?_, ?_, ?_, ?_⟩ <;> (unfold State.grantOp; split <;> simp)

@[simp] theorem State.grantOne_frame :
    s.grantOne.intake = s.intake ∧ s.grantOne.timecode = s.timecode ∧ s.grantOne.engine = s.engine ∧
    s.grantOne.slate = s.slate ∧ s.grantOne.media = s.media ∧ s.grantOne.link = s.link ∧
    s.grantOne.freeDraws = s.freeDraws ∧ s.grantOne.pending = s.pending ∧
    s.grantOne.journal.nextIndex = s.journal.nextIndex := by
  refine ⟨?_, ?_, ?_, ?_, ?_, ?_, ?_, ?_, ?_⟩ <;> (unfold State.grantOne; (repeat' split) <;> simp)

@[simp] theorem State.grant_frame :
    s.grant.intake = s.intake ∧ s.grant.timecode = s.timecode ∧ s.grant.engine = s.engine ∧ s.grant.slate = s.slate ∧
    s.grant.media = s.media ∧ s.grant.link = s.link ∧ s.grant.freeDraws = s.freeDraws ∧ s.grant.pending = s.pending ∧
    s.grant.journal.nextIndex = s.journal.nextIndex := by
  refine ⟨?_, ?_, ?_, ?_, ?_, ?_, ?_, ?_, ?_⟩ <;> (unfold State.grant; simp)

@[simp] theorem State.abortRelease_frame :
    s.abortRelease.intake = s.intake ∧ s.abortRelease.timecode = s.timecode ∧ s.abortRelease.engine = s.engine ∧
    s.abortRelease.slate = s.slate ∧ s.abortRelease.journal = s.journal ∧ s.abortRelease.media = s.media ∧
    s.abortRelease.port = s.port ∧ s.abortRelease.writer = s.writer ∧ s.abortRelease.freeDraws = s.freeDraws ∧
    s.abortRelease.pending = s.pending := by
  refine ⟨?_, ?_, ?_, ?_, ?_, ?_, ?_, ?_, ?_, ?_⟩ <;> (unfold State.abortRelease; split <;> rfl)

@[simp] theorem State.abortPreparation_frame :
    s.abortPreparation.intake = s.intake ∧ s.abortPreparation.timecode = s.timecode ∧
    s.abortPreparation.engine = s.engine ∧ s.abortPreparation.slate = s.slate ∧
    s.abortPreparation.journal = s.journal ∧ s.abortPreparation.media = s.media ∧ s.abortPreparation.port = s.port ∧
    s.abortPreparation.writer = s.writer ∧ s.abortPreparation.freeDraws = s.freeDraws ∧
    s.abortPreparation.pending = s.pending := by
  refine ⟨?_, ?_, ?_, ?_, ?_, ?_, ?_, ?_, ?_, ?_⟩ <;> (unfold State.abortPreparation; split <;> first | rfl | simp)

@[simp] theorem State.sealCurrent_frame (n : Nat) (l : Bool) :
    (s.sealCurrent n l).intake = s.intake ∧ (s.sealCurrent n l).timecode = s.timecode ∧
    (s.sealCurrent n l).engine = s.engine ∧ (s.sealCurrent n l).slate = s.slate ∧
    (s.sealCurrent n l).media = s.media ∧ (s.sealCurrent n l).verify = s.verify ∧ (s.sealCurrent n l).link = s.link ∧
    (s.sealCurrent n l).freeDraws = s.freeDraws ∧ (s.sealCurrent n l).pending = s.pending ∧
    (s.sealCurrent n l).journal.nextIndex = s.journal.nextIndex ∧
    (s.sealCurrent n l).port.outstanding = s.port.outstanding := by
  refine ⟨?_, ?_, ?_, ?_, ?_, ?_, ?_, ?_, ?_, ?_, ?_⟩ <;> (unfold State.sealCurrent; (repeat' split) <;> simp)

@[simp] theorem State.askFinalIfDue_frame (n : Nat) :
    (s.askFinalIfDue n).intake = s.intake ∧ (s.askFinalIfDue n).timecode = s.timecode ∧
    (s.askFinalIfDue n).engine = s.engine ∧ (s.askFinalIfDue n).slate = s.slate ∧
    (s.askFinalIfDue n).media = s.media ∧ (s.askFinalIfDue n).writer = s.writer ∧
    (s.askFinalIfDue n).verify = s.verify ∧ (s.askFinalIfDue n).link = s.link ∧
    (s.askFinalIfDue n).freeDraws = s.freeDraws ∧ (s.askFinalIfDue n).pending = s.pending ∧
    (s.askFinalIfDue n).journal.nextIndex = s.journal.nextIndex ∧
    (s.askFinalIfDue n).port.outstanding = s.port.outstanding := by
  refine ⟨?_, ?_, ?_, ?_, ?_, ?_, ?_, ?_, ?_, ?_, ?_, ?_⟩ <;> (unfold State.askFinalIfDue; split <;> simp)

@[simp] theorem State.finishIfDone_frame (n : Nat) :
    (s.finishIfDone n).intake = s.intake ∧ (s.finishIfDone n).timecode = s.timecode ∧
    (s.finishIfDone n).engine = s.engine ∧ (s.finishIfDone n).slate = s.slate ∧ (s.finishIfDone n).media = s.media ∧
    (s.finishIfDone n).verify = s.verify ∧ (s.finishIfDone n).link = s.link ∧
    (s.finishIfDone n).freeDraws = s.freeDraws ∧ (s.finishIfDone n).pending = s.pending ∧
    (s.finishIfDone n).journal.nextIndex = s.journal.nextIndex ∧
    (s.finishIfDone n).port.outstanding = s.port.outstanding := by
  refine ⟨?_, ?_, ?_, ?_, ?_, ?_, ?_, ?_, ?_, ?_, ?_⟩ <;> (unfold State.finishIfDone; (repeat' split) <;> simp)

@[simp] theorem State.chargeTake_frame (k n : Nat) :
    (State.chargeTake k s n).intake = s.intake ∧ (State.chargeTake k s n).timecode = s.timecode ∧
    (State.chargeTake k s n).engine = s.engine ∧ (State.chargeTake k s n).slate = s.slate ∧
    (State.chargeTake k s n).media = s.media ∧ (State.chargeTake k s n).verify = s.verify ∧
    (State.chargeTake k s n).link = s.link ∧ (State.chargeTake k s n).freeDraws = s.freeDraws ∧
    (State.chargeTake k s n).pending = s.pending ∧ (State.chargeTake k s n).journal.nextIndex = s.journal.nextIndex ∧
    (State.chargeTake k s n).port.outstanding = s.port.outstanding := by
  refine ⟨?_, ?_, ?_, ?_, ?_, ?_, ?_, ?_, ?_, ?_, ?_⟩ <;> (unfold State.chargeTake; (repeat' split) <;> simp)

@[simp] theorem State.trimMarkers_frame (n : Nat) :
    (s.trimMarkers n).intake = s.intake ∧ (s.trimMarkers n).timecode = s.timecode ∧
    (s.trimMarkers n).engine = s.engine ∧ (s.trimMarkers n).slate = s.slate ∧ (s.trimMarkers n).media = s.media ∧
    (s.trimMarkers n).writer = s.writer ∧ (s.trimMarkers n).verify = s.verify ∧ (s.trimMarkers n).link = s.link ∧
    (s.trimMarkers n).freeDraws = s.freeDraws ∧ (s.trimMarkers n).pending = s.pending ∧
    (s.trimMarkers n).journal.nextIndex = s.journal.nextIndex ∧
    (s.trimMarkers n).port.outstanding = s.port.outstanding := by
  refine ⟨?_, ?_, ?_, ?_, ?_, ?_, ?_, ?_, ?_, ?_, ?_, ?_⟩ <;> (unfold State.trimMarkers; dsimp only; (repeat' split) <;> simp)

@[simp] theorem State.closeTake_frame (n x : Nat) :
    (s.closeTake n x).intake = s.intake ∧ (s.closeTake n x).timecode = s.timecode ∧
    (s.closeTake n x).engine = s.engine ∧ (s.closeTake n x).slate = s.slate ∧ (s.closeTake n x).media = s.media ∧
    (s.closeTake n x).verify = s.verify ∧ (s.closeTake n x).link = s.link ∧
    (s.closeTake n x).freeDraws = s.freeDraws ∧ (s.closeTake n x).pending = s.pending ∧
    (s.closeTake n x).journal.nextIndex = s.journal.nextIndex ∧
    (s.closeTake n x).port.outstanding = s.port.outstanding := by
  refine ⟨?_, ?_, ?_, ?_, ?_, ?_, ?_, ?_, ?_, ?_, ?_⟩ <;> (unfold State.closeTake; simp)

@[simp] theorem State.addTake_frame (r : Record) (w : Nat) :
    (s.addTake r w).intake = s.intake ∧ (s.addTake r w).timecode = s.timecode ∧ (s.addTake r w).engine = s.engine ∧
    (s.addTake r w).slate = s.slate ∧ (s.addTake r w).media = s.media ∧ (s.addTake r w).verify = s.verify ∧
    (s.addTake r w).link = s.link ∧ (s.addTake r w).freeDraws = s.freeDraws ∧ (s.addTake r w).pending = s.pending ∧
    (s.addTake r w).port.outstanding = s.port.outstanding := by
  refine ⟨?_, ?_, ?_, ?_, ?_, ?_, ?_, ?_, ?_, ?_⟩ <;> (unfold State.addTake; simp)

@[simp] theorem State.openTake_frame (p : Profile) (k : TakeKey) (pt : Point) :
    (s.openTake p k pt).intake = s.intake ∧ (s.openTake p k pt).timecode = s.timecode ∧
    (s.openTake p k pt).media = s.media ∧ (s.openTake p k pt).verify = s.verify ∧ (s.openTake p k pt).link = s.link ∧
    (s.openTake p k pt).freeDraws = s.freeDraws ∧ (s.openTake p k pt).pending = s.pending ∧
    (s.openTake p k pt).port.outstanding = s.port.outstanding := by
  refine ⟨?_, ?_, ?_, ?_, ?_, ?_, ?_, ?_⟩ <;> (unfold State.openTake; simp)

@[simp] theorem State.doSplit_frame (n x : Nat) :
    (s.doSplit n x).intake = s.intake ∧ (s.doSplit n x).timecode = s.timecode ∧ (s.doSplit n x).slate = s.slate ∧
    (s.doSplit n x).media = s.media ∧ (s.doSplit n x).verify = s.verify ∧ (s.doSplit n x).link = s.link ∧
    (s.doSplit n x).freeDraws = s.freeDraws ∧ (s.doSplit n x).pending = s.pending ∧
    (s.doSplit n x).port.outstanding = s.port.outstanding := by
  refine ⟨?_, ?_, ?_, ?_, ?_, ?_, ?_, ?_, ?_⟩ <;> (unfold State.doSplit; dsimp only; (repeat' split) <;> simp)

@[simp] theorem State.refuseSplit_frame (n x : Nat) :
    (s.refuseSplit n x).timecode = s.timecode ∧ (s.refuseSplit n x).slate = s.slate ∧
    (s.refuseSplit n x).media = s.media ∧ (s.refuseSplit n x).verify = s.verify ∧ (s.refuseSplit n x).link = s.link ∧
    (s.refuseSplit n x).freeDraws = s.freeDraws ∧ (s.refuseSplit n x).pending = s.pending ∧
    (s.refuseSplit n x).port.outstanding = s.port.outstanding := by
  refine ⟨?_, ?_, ?_, ?_, ?_, ?_, ?_, ?_⟩ <;> (unfold State.refuseSplit; simp)

@[simp] theorem State.splitAt_frame (n x : Nat) :
    (s.splitAt n x).timecode = s.timecode ∧ (s.splitAt n x).slate = s.slate ∧ (s.splitAt n x).media = s.media ∧
    (s.splitAt n x).verify = s.verify ∧ (s.splitAt n x).link = s.link ∧ (s.splitAt n x).freeDraws = s.freeDraws ∧
    (s.splitAt n x).pending = s.pending ∧ (s.splitAt n x).port.outstanding = s.port.outstanding := by
  refine ⟨?_, ?_, ?_, ?_, ?_, ?_, ?_, ?_⟩ <;> (unfold State.splitAt; split <;> simp)

@[simp] theorem State.abandonTake_frame (f : TakeFlag) (n : Nat) :
    (State.abandonTake f s n).intake = s.intake ∧ (State.abandonTake f s n).timecode = s.timecode ∧
    (State.abandonTake f s n).slate = s.slate ∧ (State.abandonTake f s n).media = s.media ∧
    (State.abandonTake f s n).verify = s.verify ∧ (State.abandonTake f s n).link = s.link ∧
    (State.abandonTake f s n).freeDraws = s.freeDraws ∧ (State.abandonTake f s n).pending = s.pending ∧
    (State.abandonTake f s n).journal.nextIndex = s.journal.nextIndex ∧
    (State.abandonTake f s n).port.outstanding = s.port.outstanding := by
  refine ⟨?_, ?_, ?_, ?_, ?_, ?_, ?_, ?_, ?_, ?_⟩ <;> (unfold State.abandonTake; (repeat' split) <;> simp)

@[simp] theorem State.cutFull_frame (n : Nat) :
    (s.cutFull n).intake = s.intake ∧ (s.cutFull n).timecode = s.timecode ∧ (s.cutFull n).slate = s.slate ∧
    (s.cutFull n).media = s.media ∧ (s.cutFull n).verify = s.verify ∧ (s.cutFull n).link = s.link ∧
    (s.cutFull n).freeDraws = s.freeDraws ∧ (s.cutFull n).pending = s.pending ∧
    (s.cutFull n).journal.nextIndex = s.journal.nextIndex ∧ (s.cutFull n).port.outstanding = s.port.outstanding := by
  refine ⟨?_, ?_, ?_, ?_, ?_, ?_, ?_, ?_, ?_, ?_⟩ <;> (unfold State.cutFull; (repeat' split) <;> simp)

@[simp] theorem State.growDefect_frame (b : Nat) :
    (s.growDefect b).intake = s.intake ∧ (s.growDefect b).timecode = s.timecode ∧
    (s.growDefect b).engine = s.engine ∧ (s.growDefect b).slate = s.slate ∧ (s.growDefect b).journal = s.journal ∧
    (s.growDefect b).writer = s.writer ∧ (s.growDefect b).verify = s.verify ∧ (s.growDefect b).link = s.link ∧
    (s.growDefect b).freeDraws = s.freeDraws ∧ (s.growDefect b).pending = s.pending ∧
    (s.growDefect b).port.outstanding = s.port.outstanding := by
  refine ⟨?_, ?_, ?_, ?_, ?_, ?_, ?_, ?_, ?_, ?_, ?_⟩ <;> (unfold State.growDefect; (repeat' split) <;> simp)

@[simp] theorem State.enterPieces_frame (n : Nat) (c : CutList) (l : List Piece) :
    (s.enterPieces n c l).intake = s.intake ∧ (s.enterPieces n c l).timecode = s.timecode ∧
    (s.enterPieces n c l).engine = s.engine ∧ (s.enterPieces n c l).slate = s.slate ∧
    (s.enterPieces n c l).media = s.media ∧ (s.enterPieces n c l).port = s.port ∧
    (s.enterPieces n c l).writer = s.writer ∧ (s.enterPieces n c l).verify = s.verify ∧
    (s.enterPieces n c l).link = s.link ∧ (s.enterPieces n c l).freeDraws = s.freeDraws ∧
    (s.enterPieces n c l).pending = s.pending ∧ (s.enterPieces n c l).journal.nextIndex = s.journal.nextIndex := by
  unfold State.enterPieces
  exact s.modifyRecord_frame n _

@[simp] theorem State.discardWrite_frame (op : Op) :
    (s.discardWrite op).intake = s.intake ∧ (s.discardWrite op).timecode = s.timecode ∧
    (s.discardWrite op).engine = s.engine ∧ (s.discardWrite op).slate = s.slate ∧ (s.discardWrite op).port = s.port ∧
    (s.discardWrite op).writer = s.writer ∧ (s.discardWrite op).verify = s.verify ∧
    (s.discardWrite op).link = s.link ∧ (s.discardWrite op).freeDraws = s.freeDraws ∧
    (s.discardWrite op).pending = s.pending ∧ (s.discardWrite op).journal.nextIndex = s.journal.nextIndex := by
  refine ⟨?_, ?_, ?_, ?_, ?_, ?_, ?_, ?_, ?_, ?_, ?_⟩ <;> (unfold State.discardWrite; split <;> simp)

@[simp] theorem State.loadProfile_frame (p : Profile) :
    (s.loadProfile p).slate = s.slate ∧ (s.loadProfile p).journal = s.journal ∧ (s.loadProfile p).port = s.port ∧
    (s.loadProfile p).writer = s.writer ∧ (s.loadProfile p).verify = s.verify ∧ (s.loadProfile p).link = s.link ∧
    (s.loadProfile p).freeDraws = s.freeDraws ∧ (s.loadProfile p).pending = s.pending := by
  refine ⟨?_, ?_, ?_, ?_, ?_, ?_, ?_, ?_⟩ <;> rfl

@[simp] theorem State.accountDraw_frame (n : Nat) (f : RingFrame) (w : Nat) :
    (s.accountDraw n f w).intake = s.intake ∧ (s.accountDraw n f w).timecode = s.timecode ∧
    (s.accountDraw n f w).engine = s.engine ∧ (s.accountDraw n f w).slate = s.slate ∧
    (s.accountDraw n f w).media = s.media ∧ (s.accountDraw n f w).verify = s.verify ∧
    (s.accountDraw n f w).link = s.link ∧ (s.accountDraw n f w).freeDraws = s.freeDraws ∧
    (s.accountDraw n f w).pending = s.pending ∧ (s.accountDraw n f w).journal.nextIndex = s.journal.nextIndex ∧
    (s.accountDraw n f w).port.outstanding = s.port.outstanding := by
  refine ⟨?_, ?_, ?_, ?_, ?_, ?_, ?_, ?_, ?_, ?_, ?_⟩ <;> (unfold State.accountDraw; simp)

@[simp] theorem State.openBuffer_frame (n b : Nat) (e : Extent) (o r : Nat) (y : List Byte) :
    (s.openBuffer n b e o r y).intake = s.intake ∧ (s.openBuffer n b e o r y).timecode = s.timecode ∧
    (s.openBuffer n b e o r y).engine = s.engine ∧ (s.openBuffer n b e o r y).slate = s.slate ∧
    (s.openBuffer n b e o r y).media = s.media ∧ (s.openBuffer n b e o r y).verify = s.verify ∧
    (s.openBuffer n b e o r y).link = s.link ∧ (s.openBuffer n b e o r y).freeDraws = s.freeDraws ∧
    (s.openBuffer n b e o r y).pending = s.pending ∧
    (s.openBuffer n b e o r y).journal.nextIndex = s.journal.nextIndex ∧
    (s.openBuffer n b e o r y).port.outstanding = s.port.outstanding := by
  refine ⟨?_, ?_, ?_, ?_, ?_, ?_, ?_, ?_, ?_, ?_, ?_⟩ <;> (unfold State.openBuffer; dsimp only; split <;> simp)

@[simp] theorem State.reportCompletion_frame (n : Nat) :
    (s.reportCompletion n).intake = s.intake ∧ (s.reportCompletion n).timecode = s.timecode ∧
    (s.reportCompletion n).engine = s.engine ∧ (s.reportCompletion n).slate = s.slate ∧
    (s.reportCompletion n).media = s.media ∧ (s.reportCompletion n).writer = s.writer ∧
    (s.reportCompletion n).verify = s.verify ∧ (s.reportCompletion n).link = s.link ∧
    (s.reportCompletion n).freeDraws = s.freeDraws ∧ (s.reportCompletion n).pending = s.pending ∧
    (s.reportCompletion n).journal.nextIndex = s.journal.nextIndex ∧
    (s.reportCompletion n).port.outstanding = s.port.outstanding := by
  refine ⟨?_, ?_, ?_, ?_, ?_, ?_, ?_, ?_, ?_, ?_, ?_, ?_⟩ <;> (unfold State.reportCompletion; (repeat' split) <;> simp)

@[simp] theorem State.completeSegment_frame (b : Nat) (g : Segment) :
    (s.completeSegment b g).intake = s.intake ∧ (s.completeSegment b g).timecode = s.timecode ∧
    (s.completeSegment b g).engine = s.engine ∧ (s.completeSegment b g).slate = s.slate ∧
    (s.completeSegment b g).media = s.media ∧ (s.completeSegment b g).verify = s.verify ∧
    (s.completeSegment b g).link = s.link ∧ (s.completeSegment b g).freeDraws = s.freeDraws ∧
    (s.completeSegment b g).pending = s.pending ∧ (s.completeSegment b g).journal.nextIndex = s.journal.nextIndex ∧
    (s.completeSegment b g).port.outstanding = s.port.outstanding := by
  refine ⟨?_, ?_, ?_, ?_, ?_, ?_, ?_, ?_, ?_, ?_, ?_⟩ <;> (unfold State.completeSegment; simp)

@[simp] theorem State.segmentDone_frame (b i : Nat) :
    (s.segmentDone b i).intake = s.intake ∧ (s.segmentDone b i).timecode = s.timecode ∧
    (s.segmentDone b i).engine = s.engine ∧ (s.segmentDone b i).slate = s.slate ∧
    (s.segmentDone b i).media = s.media ∧ (s.segmentDone b i).verify = s.verify ∧ (s.segmentDone b i).link = s.link ∧
    (s.segmentDone b i).freeDraws = s.freeDraws ∧ (s.segmentDone b i).pending = s.pending ∧
    (s.segmentDone b i).journal.nextIndex = s.journal.nextIndex ∧
    (s.segmentDone b i).port.outstanding = s.port.outstanding := by
  refine ⟨?_, ?_, ?_, ?_, ?_, ?_, ?_, ?_, ?_, ?_, ?_⟩ <;> (unfold State.segmentDone; dsimp only; (repeat' split) <;> simp)

@[simp] theorem State.headLeaves_frame (t : Bool) (l : List TxFrame) :
    (s.headLeaves t l).intake = s.intake ∧ (s.headLeaves t l).timecode = s.timecode ∧
    (s.headLeaves t l).engine = s.engine ∧ (s.headLeaves t l).slate = s.slate ∧
    (s.headLeaves t l).journal = s.journal ∧ (s.headLeaves t l).media = s.media ∧ (s.headLeaves t l).port = s.port ∧
    (s.headLeaves t l).writer = s.writer ∧ (s.headLeaves t l).verify = s.verify ∧
    (s.headLeaves t l).freeDraws = s.freeDraws ∧ (s.headLeaves t l).pending = s.pending := by
  refine ⟨?_, ?_, ?_, ?_, ?_, ?_, ?_, ?_, ?_, ?_, ?_⟩ <;> (unfold State.headLeaves; simp)

@[simp] theorem State.noteConflict_frame (f : Frame) :
    (s.noteConflict f).intake = s.intake ∧ (s.noteConflict f).timecode = s.timecode ∧
    (s.noteConflict f).engine = s.engine ∧ (s.noteConflict f).slate = s.slate ∧
    (s.noteConflict f).journal = s.journal ∧ (s.noteConflict f).media = s.media ∧ (s.noteConflict f).port = s.port ∧
    (s.noteConflict f).writer = s.writer ∧ (s.noteConflict f).verify = s.verify ∧
    (s.noteConflict f).freeDraws = s.freeDraws ∧ (s.noteConflict f).pending = s.pending := by
  refine ⟨?_, ?_, ?_, ?_, ?_, ?_, ?_, ?_, ?_, ?_, ?_⟩ <;> (unfold State.noteConflict; split <;> rfl)

@[simp] theorem State.closeFinal_frame (n : Nat) :
    (s.closeFinal n).intake = s.intake ∧ (s.closeFinal n).timecode = s.timecode ∧
    (s.closeFinal n).engine = s.engine ∧ (s.closeFinal n).slate = s.slate ∧ (s.closeFinal n).media = s.media ∧
    (s.closeFinal n).port = s.port ∧ (s.closeFinal n).verify = s.verify ∧ (s.closeFinal n).link = s.link ∧
    (s.closeFinal n).freeDraws = s.freeDraws ∧ (s.closeFinal n).pending = s.pending ∧
    (s.closeFinal n).journal.nextIndex = s.journal.nextIndex := by
  refine ⟨?_, ?_, ?_, ?_, ?_, ?_, ?_, ?_, ?_, ?_, ?_⟩ <;> (unfold State.closeFinal; (repeat' split) <;> simp)

@[simp] theorem State.endWrite_frame (n : Nat) :
    (s.endWrite n).intake = s.intake ∧ (s.endWrite n).timecode = s.timecode ∧ (s.endWrite n).engine = s.engine ∧
    (s.endWrite n).slate = s.slate ∧ (s.endWrite n).media = s.media ∧ (s.endWrite n).port = s.port ∧
    (s.endWrite n).writer = s.writer ∧ (s.endWrite n).verify = s.verify ∧ (s.endWrite n).link = s.link ∧
    (s.endWrite n).freeDraws = s.freeDraws ∧ (s.endWrite n).pending = s.pending ∧
    (s.endWrite n).journal.nextIndex = s.journal.nextIndex := by
  refine ⟨?_, ?_, ?_, ?_, ?_, ?_, ?_, ?_, ?_, ?_, ?_, ?_⟩ <;> (unfold State.endWrite; simp)

@[simp] theorem State.dropWrite_frame (n : Nat) :
    (s.dropWrite n).intake = s.intake ∧ (s.dropWrite n).timecode = s.timecode ∧ (s.dropWrite n).engine = s.engine ∧
    (s.dropWrite n).slate = s.slate ∧ (s.dropWrite n).media = s.media ∧ (s.dropWrite n).port = s.port ∧
    (s.dropWrite n).writer = s.writer ∧ (s.dropWrite n).verify = s.verify ∧ (s.dropWrite n).link = s.link ∧
    (s.dropWrite n).freeDraws = s.freeDraws ∧ (s.dropWrite n).pending = s.pending ∧
    (s.dropWrite n).journal.nextIndex = s.journal.nextIndex := by
  refine ⟨?_, ?_, ?_, ?_, ?_, ?_, ?_, ?_, ?_, ?_, ?_, ?_⟩ <;> (unfold State.dropWrite; split <;> simp)

@[simp] theorem State.failAfterFault_frame (op : Op) :
    (s.failAfterFault op).intake = s.intake ∧ (s.failAfterFault op).timecode = s.timecode ∧
    (s.failAfterFault op).engine = s.engine ∧ (s.failAfterFault op).slate = s.slate ∧
    (s.failAfterFault op).journal = s.journal ∧ (s.failAfterFault op).media = s.media ∧
    (s.failAfterFault op).port = s.port ∧ (s.failAfterFault op).writer = s.writer ∧
    (s.failAfterFault op).freeDraws = s.freeDraws ∧ (s.failAfterFault op).pending = s.pending := by
  refine ⟨?_, ?_, ?_, ?_, ?_, ?_, ?_, ?_, ?_, ?_⟩ <;> (unfold State.failAfterFault; split <;> simp)

@[simp] theorem State.journalDone_frame (n : Nat) (op : Op) :
    (s.journalDone n op).intake = s.intake ∧ (s.journalDone n op).timecode = s.timecode ∧
    (s.journalDone n op).engine = s.engine ∧ (s.journalDone n op).slate = s.slate ∧
    (s.journalDone n op).media = s.media ∧ (s.journalDone n op).verify = s.verify ∧
    (s.journalDone n op).link = s.link ∧ (s.journalDone n op).freeDraws = s.freeDraws ∧
    (s.journalDone n op).pending = s.pending ∧ (s.journalDone n op).journal.nextIndex = s.journal.nextIndex ∧
    (s.journalDone n op).port.outstanding = s.port.outstanding := by
  refine ⟨?_, ?_, ?_, ?_, ?_, ?_, ?_, ?_, ?_, ?_, ?_⟩ <;> (unfold State.journalDone; dsimp only; (repeat' split) <;> simp)

@[simp] theorem State.askRead_frame (k : Nat) :
    (s.askRead k).intake = s.intake ∧ (s.askRead k).timecode = s.timecode ∧ (s.askRead k).engine = s.engine ∧
    (s.askRead k).slate = s.slate ∧ (s.askRead k).journal = s.journal ∧ (s.askRead k).media = s.media ∧
    (s.askRead k).writer = s.writer ∧ (s.askRead k).link = s.link ∧ (s.askRead k).freeDraws = s.freeDraws ∧
    (s.askRead k).pending = s.pending ∧ (s.askRead k).port.outstanding = s.port.outstanding := by
  refine ⟨?_, ?_, ?_, ?_, ?_, ?_, ?_, ?_, ?_, ?_, ?_⟩ <;> rfl

@[simp] theorem State.abortVerify_frame (w : Requester) (n : Nat) :
    (s.abortVerify w n).intake = s.intake ∧ (s.abortVerify w n).timecode = s.timecode ∧
    (s.abortVerify w n).engine = s.engine ∧ (s.abortVerify w n).slate = s.slate ∧
    (s.abortVerify w n).journal = s.journal ∧ (s.abortVerify w n).media = s.media ∧
    (s.abortVerify w n).writer = s.writer ∧ (s.abortVerify w n).freeDraws = s.freeDraws ∧
    (s.abortVerify w n).pending = s.pending ∧ (s.abortVerify w n).port.outstanding = s.port.outstanding := by
  refine ⟨?_, ?_, ?_, ?_, ?_, ?_, ?_, ?_, ?_, ?_⟩ <;> rfl

@[simp] theorem State.endVerify_frame (w : Requester) (n : Nat) :
    (s.endVerify w n).intake = s.intake ∧ (s.endVerify w n).timecode = s.timecode ∧
    (s.endVerify w n).engine = s.engine ∧ (s.endVerify w n).slate = s.slate ∧ (s.endVerify w n).media = s.media ∧
    (s.endVerify w n).writer = s.writer ∧ (s.endVerify w n).freeDraws = s.freeDraws ∧
    (s.endVerify w n).pending = s.pending ∧ (s.endVerify w n).journal.nextIndex = s.journal.nextIndex ∧
    (s.endVerify w n).port.outstanding = s.port.outstanding := by
  refine ⟨?_, ?_, ?_, ?_, ?_, ?_, ?_, ?_, ?_, ?_⟩ <;> (unfold State.endVerify; simp)

@[simp] theorem State.setPhase_frame (w : Requester) (p : PreparePlan) (h : PreparePhase) :
    (s.setPhase w p h).intake = s.intake ∧ (s.setPhase w p h).timecode = s.timecode ∧
    (s.setPhase w p h).engine = s.engine ∧ (s.setPhase w p h).slate = s.slate ∧
    (s.setPhase w p h).journal = s.journal ∧ (s.setPhase w p h).media = s.media ∧ (s.setPhase w p h).port = s.port ∧
    (s.setPhase w p h).writer = s.writer ∧ (s.setPhase w p h).link = s.link ∧
    (s.setPhase w p h).freeDraws = s.freeDraws ∧ (s.setPhase w p h).pending = s.pending := by
  refine ⟨?_, ?_, ?_, ?_, ?_, ?_, ?_, ?_, ?_, ?_, ?_⟩ <;> rfl

end Sys2Proof.Machine
end

