-- ==== Sys2Proof/Laws/Lookup.lean ====
section
/-! SUPPORT. What the lookups in the mirror, the writer queue, the buffers and the port give after an update. -/

namespace Sys2Proof.Machine

variable (s : State)

/-! ### The mirror -/

/-- Every mirror slot after a change of slot `n`. -/
theorem State.slotAt_modifySlot (n k : Nat) (f : MirrorSlot → MirrorSlot) :
    (s.modifySlot n f).slotAt k = if k = n then (s.slotAt n).map f else s.slotAt k := by
  unfold modifySlot slotAt
  by_cases hn : n = 0
  · subst hn
    by_cases hk : k = 0 <;> simp [hk]
  · by_cases hk : k = 0
    · subst hk; simp [Ne.symm hn]
    · by_cases h : k = n
      · subst h; simp [hn]
      · have : n - 1 ≠ k - 1 := by omega
        simp [hn, hk, h, this]

/-- Every record after a change of record `n`. -/
theorem State.recordAt_modifyRecord (n k : Nat) (f : Record → Record) :
    (s.modifyRecord n f).recordAt k = if k = n then (s.recordAt n).map f else s.recordAt k := by
  unfold modifyRecord recordAt
  rw [slotAt_modifySlot]
  by_cases h : k = n
  · subst h
    simp only [if_true]
    cases s.slotAt k with
    | none => rfl
    | some sl => cases hsl : sl.entry <;> simp [hsl, MirrorEntry.mapRecord, MirrorEntry.record?]
  · simp [h]

/-- A change of a slot's flags leaves its record. -/
theorem State.recordAt_modifySlot (n k : Nat) (f : MirrorSlot → MirrorSlot) (h : ∀ sl, (f sl).entry = sl.entry) :
    (s.modifySlot n f).recordAt k = s.recordAt k := by
  unfold recordAt
  rw [slotAt_modifySlot]
  by_cases hk : k = n
  · subst hk; cases s.slotAt k <;> simp [h]
  · simp [hk]

@[simp] theorem State.mirror_length_modifySlot (n : Nat) (f : MirrorSlot → MirrorSlot) :
    (s.modifySlot n f).journal.mirror.length = s.journal.mirror.length := by
  unfold modifySlot; split <;> simp

@[simp] theorem State.nextIndex_modifySlot (n : Nat) (f : MirrorSlot → MirrorSlot) :
    (s.modifySlot n f).journal.nextIndex = s.journal.nextIndex := by
  unfold modifySlot; split <;> rfl

/-! ### The writer queue and the buffers -/

@[simp] theorem State.entryOf_setQueue (q : List QueueEntry) (n : Nat) :
    (s.setQueue q).entryOf n = q.find? fun e => e.index == n := rfl

/-- Every queue entry after a change of entry `n` that keeps its index. -/
theorem State.entryOf_modifyEntry (n k : Nat) (f : QueueEntry → QueueEntry) (h : ∀ e, (f e).index = e.index) :
    (s.modifyEntry n f).entryOf k = if k = n then (s.entryOf n).map f else s.entryOf k := by
  have hg : (fun e : QueueEntry => e.index == k) ∘ (fun e => if e.index = n then f e else e) = fun e => e.index == k := by
    funext e
    by_cases he : e.index = n <;> simp [he, h]
  simp only [modifyEntry, entryOf, setQueue, List.find?_map, hg]
  cases hf : s.writer.queue.find? fun e => e.index == k with
  | none =>
    by_cases hk : k = n
    · subst hk; simp [hf]
    · simp [hk]
  | some e =>
    have he : e.index = k := by simpa using List.find?_some hf
    by_cases hk : k = n
    · subst hk; simp [hf, he]
    · simp [hk, he]

/-- Every buffer after a change of buffer `b`. -/
theorem State.buffer_setBuffer (b c : Nat) (x : Buffer) (hb : b < 8) :
    (s.setBuffer b x).buffer c = if c = b then x else s.buffer c := by
  unfold buffer setBuffer
  by_cases hc : c < 8
  · by_cases h : c = b
    · subst h; simp [hb]
    · simp [hc, h]
  · have : c ≠ b := by omega
    simp [this, hc]

/-! ### The port -/

/-- With no operation waiting nothing is granted. -/
theorem State.grantOne_of_idle (h : s.port.waiting = []) : s.grantOne = s := by
  unfold grantOne
  split
  · simp [h, pickNext]
  · rfl

/-- With every outstanding slot taken nothing is granted. -/
theorem State.grantOne_of_full (h : maxOutstanding ≤ s.port.outstanding.length) : s.grantOne = s := by
  unfold grantOne
  rw [if_neg (by omega)]

/-- A port as it stands between commands grants nothing (R120). -/
theorem State.grant_of_portSound (h : s.port.Sound) : s.grant = s := by
  have h1 : s.grantOne = s := by
    rcases h.2.1 with hw | hf
    · exact s.grantOne_of_idle hw
    · exact s.grantOne_of_full (le_of_eq hf.symm)
  simp [grant, h1]

/-- The durable prefix of a queued take is that of its entry (R136). -/
theorem State.durableBytes_of_entry {n : Nat} {e : QueueEntry} (h : s.entryOf n = some e) : s.durableBytes n = some e.durBytes := by
  simp [durableBytes, h]

/-- The durable prefix of a take no longer queued is what was kept at its abandonment (R143). -/
theorem State.durableBytes_of_none {n : Nat} (h : s.entryOf n = none) :
    s.durableBytes n = (s.slotAt n).bind (·.keptBytes) := by
  simp [durableBytes, h]

/-! ### Commands -/

/-- A frame that is taken is one that the filter takes, of that kind and for this station, while the station sends none. -/
theorem State.takenFrame_eq_some {k : FrameKind} {w : Wire} {f : Frame} :
    s.takenFrame k w = some f ↔ s.link.driving = none ∧ acceptFrame w = some f ∧ f.kind = k ∧ takenBy s.link.station f = true := by
  unfold takenFrame
  cases acceptFrame w with
  | none => simp
  | some g =>
    simp only [Option.some.injEq]
    constructor
    · intro h
      split at h
      · simp_all
      · cases h
    · rintro ⟨h0, rfl, h1, h2⟩
      simp [h0, h1, h2]

/-- What a command does whose completion names an outstanding operation. -/
theorem State.complete_of_outstanding {id : Nat} {p : OpKind → Bool} {op : Op} (act : Op → State → State)
    (h : s.outstandingOp id p = some op) : s.complete id p act = (act op (s.release id)).grant := by
  simp [complete, h]

/-- A completion of an operation that is not outstanding is ignored (R121). -/
theorem State.complete_of_none {id : Nat} {p : OpKind → Bool} (act : Op → State → State)
    (h : s.outstandingOp id p = none) : s.complete id p act = s := by
  simp [complete, h]

/-! ### The link and the extent list -/

/-- The bits read back of a collision: as sent up to a 1 that read back as 0 (R161, R166). -/
theorem collides_iff (sent read : List Bool) :
    collides sent read = true ↔ ∃ before after, sent = before ++ true :: after ∧ read = before ++ [false] := by
  induction sent generalizing read with
  | nil => simp [collides]
  | cons x sent ih =>
    cases read with
    | nil => simp [collides]
    | cons y read =>
      simp only [collides]
      split
      · rename_i heq
        subst heq
        rw [ih]
        constructor
        · rintro ⟨before, after, rfl, rfl⟩
          exact ⟨x :: before, after, rfl, rfl⟩
        · rintro ⟨before, after, hs, hr⟩
          cases before with
          | nil => simp at hs hr; simp_all
          | cons z before => simp at hs hr; exact ⟨before, after, hs.2, hr.2⟩
      · rename_i hne
        constructor
        · intro h
          simp only [Bool.and_eq_true, Bool.not_eq_true', List.isEmpty_iff] at h
          obtain ⟨⟨rfl, rfl⟩, rfl⟩ := h
          exact ⟨[], sent, rfl, rfl⟩
        · rintro ⟨before, after, hs, hr⟩
          cases before with
          | nil => simp at hs hr; simp [hs, hr]
          | cons z before => simp at hs hr; exact absurd (hs.1.trans hr.1.symm) hne

/-- A run enters an extent list by lengthening the last extent, or behind it (R128). -/
theorem enterRun_eq_withRun (run : Extent) (l : List Extent) : enterRun run l = withRun run l := by
  unfold enterRun withRun mergesLast
  cases h : l.getLast? <;> simp_all

end Sys2Proof.Machine
end

