-- ==== Sys2Proof/Laws/Ring.lean ====
section
/-! SUPPORT. The capture ring's content: what a store leaves in its own slot and in every other, and the form it keeps. -/

namespace Sys2Proof.Machine

/-- A slot holds what was last stored into it. -/
@[simp] theorem slotGet_slotPut_same {α : Type} (k : Nat) (v : α) (l : List (Nat × α)) : slotGet k (slotPut k v l) = some v := by
  induction l with
  | nil => simp [slotPut, slotGet]
  | cons x rest ih =>
    unfold slotPut
    split
    · simp [slotGet]
    · split
      · simp [slotGet]
      · rename_i h
        simp [slotGet, Ne.symm h, ih]

/-- A store leaves every other slot alone. -/
theorem slotGet_slotPut_other {α : Type} {j k : Nat} (h : j ≠ k) (v : α) (l : List (Nat × α)) :
    slotGet j (slotPut k v l) = slotGet j l := by
  induction l with
  | nil => simp [slotPut, slotGet, Ne.symm h]
  | cons x rest ih =>
    unfold slotPut
    split
    · simp [slotGet, Ne.symm h]
    · split
      · rename_i h2
        simp [slotGet, Ne.symm h, ← h2]
      · simp only [slotGet, ih]

/-- The slots listed after a store: the slot stored into, and those listed before. -/
theorem mem_slotPut_keys {α : Type} (k : Nat) (v : α) (l : List (Nat × α)) :
    ∀ n ∈ (slotPut k v l).map (·.1), n = k ∨ n ∈ l.map (·.1) := by
  induction l with
  | nil => simp [slotPut]
  | cons x rest ih =>
    intro n hn
    unfold slotPut at hn
    split at hn
    · simpa using hn
    · split at hn
      · simp only [List.map_cons, List.mem_cons] at hn ⊢
        tauto
      · simp only [List.map_cons, List.mem_cons] at hn ⊢
        rcases hn with h | h
        · tauto
        · rcases ih n h with h | h <;> tauto

/-- A store keeps the slot numbers strictly rising and within the ring. -/
theorem ringCanonical_slotPut {k : Nat} (v : RingFrame) {l : List (Nat × RingFrame)} (hk : k < ringSlots) (h : ringCanonical l) :
    ringCanonical (slotPut k v l) := by
  refine ⟨?_, ?_⟩
  · have hp := h.1
    clear h
    induction l with
    | nil => simp [slotPut]
    | cons x rest ih =>
      rw [List.map_cons] at hp
      have hr := (List.pairwise_cons.mp hp).2
      have hx := (List.pairwise_cons.mp hp).1
      unfold slotPut
      split
      · rename_i hlt
        refine List.pairwise_cons.mpr ⟨?_, hp⟩
        intro n hn
        simp only [List.map_cons, List.mem_cons] at hn
        rcases hn with rfl | hn
        · exact hlt
        · exact lt_trans hlt (hx n hn)
      · split
        · rename_i heq
          exact List.pairwise_cons.mpr ⟨fun n hn => heq ▸ hx n hn, hr⟩
        · refine List.pairwise_cons.mpr ⟨?_, ih hr⟩
          intro n hn
          rcases mem_slotPut_keys k v rest n hn with rfl | hn
          · show x.1 < n
            omega
          · exact hx n hn
  · intro x hx
    have := mem_slotPut_keys k v l x.1 (List.mem_map_of_mem hx)
    rcases this with h1 | h1
    · omega
    · obtain ⟨y, hy, he⟩ := List.mem_map.mp h1
      exact he ▸ h.2 y hy

end Sys2Proof.Machine
end

