-- ==== Sys2Proof/WellFormed.lean ====
section
/-! DEFINITION. The commands that the outside of the part can send: the checks on a command's operands that no type makes. -/

namespace Sys2Proof

/-- What a successful read of a block delivers: as many bytes as a block has (R104). -/
def readWellFormed (block : Option (List Byte)) : Bool := block.all fun bs => decide (bs.length = Machine.blockBytes)

/-- The position of an edge of a local line is a number of 48 bits (R5, R49). That it lies within the hold before the intake position is
checked against the state, by State.heldFrom. -/
def edgeWellFormed (edge : Nat) : Bool := decide (edge < Machine.positionLimit)

/-- The operands of a command are such as the outside can present. The medium may carry any bits (R161, R163). -/
def Instr.wellFormed : Instr → Bool
  | .reset _ => true
  | .frameStore _ _ => true
  | .clockLoss _ => true
  | .qualifyingPeriod _ => true
  | .clockReturn => true
  | .meterWindowComplete => true
  | .tailEnd => true
  | .lengthSplit => true
  | .frameDraw => true
  | .roll _ => true
  | .cut _ => true
  | .state _ => true
  | .mark _ => true
  | .note _ => true
  | .jam _ => true
  | .reportReceived _ => true
  | .receiveFilterDiscard _ => true
  | .queryStatus _ => true
  | .queryMeters _ => true
  | .queryTake _ => true
  | .searchJournal _ => true
  | .arm _ => true
  | .mix _ => true
  | .verifyTake _ => true
  | .prepareMedia _ => true
  | .releaseMedia _ => true
  | .abort _ => true
  | .rollLineRise edge => edgeWellFormed edge
  | .rollLineFall edge => edgeWellFormed edge
  | .markPulse edge => edgeWellFormed edge
  | .cardInsertion _ => true
  | .cardRemoval => true
  | .sizeReadComplete _ _ => true
  | .headerReadComplete _ block => readWellFormed block
  | .slotReadComplete _ block => readWellFormed block
  | .journalWriteComplete _ _ => true
  | .deferredProvisionalWrite => true
  | .headerWriteComplete _ _ => true
  | .segmentWriteComplete _ failed => failed.all fun b => decide (b < Machine.maxCapacity)
  | .operationTimeout _ => true
  | .prepareHeaderWriteAsk => true
  | .prepareHeaderWriteComplete _ _ => true
  | .prepareZeroWriteComplete _ _ => true
  | .releaseComplete => true
  | .verifyReadComplete _ block => readWellFormed block
  | .initialState => true
  | .transmitAttemptStart => true
  | .transmitComplete => true
  | .collision => true
  | .backoffComplete => true
  | .unknownRequest _ => true
  | .lineLevelAdopted _ _ => true

end Sys2Proof
end

