-- ==== Sys2Proof/Tests/Slice0.lean ====
section
/-! SUPPORT. Small tests of single commands, with expected values taken from the manual's rules, tables and worked examples; the checks
on a command's operands; and, for every statement with hypotheses, states and operands that meet them. -/

namespace Sys2Proof.Tests

set_option Elab.async false

open Sys2Proof.Machine

/-! ### States for the tests -/

/-- The state after a command. -/
def run (c : Instr) (s : State) : State :=
  match exec c s with
  | .next t => t
  | .fault _ => s
  | .refused _ => s

/-- Lanes 0 and 1 with the mix, 1 s of pre-roll, 2 s of post-roll, 1 minute, following stations 2 and 3. -/
def prof : Profile where
  rate := .hz48000
  frameRate := .r25
  armMask := 3
  mixEnable := true
  preRoll := 10
  postRoll := 20
  maxLength := 1
  followSet := 12

/-- Station 5, out of reset, with both lines adopted low. -/
def station : State :=
  { State.reset with
    link := { State.reset.link with station := 5, jamen := true, initialDue := false }
    engine := { State.reset.engine with rollLine := some false, markLine := some false } }

/-- Station 5 with a usable READY card and a running clock, at position 1,000,000. -/
def ready : State :=
  { station with
    intake := { station.intake with clock := .running, position := 1000000, fillStart := 0, armMask := 3 }
    engine := { station.engine with takeState := .standby, followSet := 12 }
    media := { station.media with
      state := .ready, capacity := some 10000, generation := some 7, headerProfile := some prof, profile := some prof
      cursor := some 4097 } }

def keyA : TakeKey := { origin := 2, roll := 40 }
def keyB : TakeKey := { origin := 3, roll := 9 }

/-- An open take of this card, begun at 900,000. -/
def openRec : Record where
  index := 1
  generation := 7
  key := keyA
  continues := none
  state := .opened
  flags := 0
  start := 900000
  stop := none
  startLabel := { hh := 0, mm := 0, ss := 18, ff := 18 }
  labelRate := .r25
  recorded := 0
  lost := 0
  durable := 0
  armed := 3
  mixPresent := true
  rate := .hz48000
  frameBytes := 12
  digest := none
  peaks := [0, 0, 0, 0]
  clipCount := 0
  joined := [keyA]
  slate := Slate.unset
  markers := []
  notes := []
  extents := []

def slotOf (r : Record) : MirrorSlot :=
  { entry := .record r, inFlight := false, amend := false, firstDone := true, held := false, keptBytes := none }
/-- An UNREADABLE slot. -/
def gone : MirrorSlot :=
  { entry := .unreadable, inFlight := false, amend := false, firstDone := true, held := false, keptBytes := none }

def entry1 : QueueEntry := QueueEntry.joining 1 900000

/-- ROLLING with one take, held by the stations of `holders`. -/
def rollingWith (r : Record) (e : QueueEntry) (holders : List TakeKey) : State :=
  { ready with
    journal := { mirror := [slotOf r], nextIndex := 2 }
    engine := { ready.engine with takeState := .rolling, openTake := some 1, holders := holders }
    writer := { ready.writer with queue := [e] } }

def rolling : State := rollingWith openRec entry1 [keyA]

/-- In TAIL towards a pending stop. -/
def tailing (stop : Nat) : State :=
  { rolling with engine := { rolling.engine with takeState := .tail, holders := [], pendingStop := some stop } }

/-- A closed take of 400 recorded frames in two blocks. -/
def closedRec : Record :=
  { openRec with
    state := .closed, stop := some 900400, recorded := 400, durable := 400, digest := some 0x12345678
    extents := [{ first := 4097, count := 2 }] }

/-- An empty take that is to stop where it begins. -/
def closingRec : Record := { openRec with state := .closing, stop := some 900000 }

/-- READY with one closed take. -/
def settled : State :=
  { ready with
    journal := { mirror := [slotOf closedRec], nextIndex := 2 }
    media := { ready.media with cursor := some 4099 } }

/-- The port with these operations outstanding, from number 1 up. -/
def withOps (l : List (OpKind × Nat × Option (List Byte))) (s : State) : State :=
  { s with port := {
      waiting := [], nextOp := l.length + 1
      outstanding := l.mapIdx fun i x => { id := i + 1, kind := x.1, attempt := x.2.1, block := x.2.2, isFinal := false } } }

/-- A frame for every station, and one for station 5. -/
def toAll (k : FrameKind) (sender : Nat) (payload : List Byte) : Wire := wireOf sender 0 k payload
def ask (k : RequestKind) (args : List Byte) : Wire := wireOf 9 5 .request (requestPayload 0x1234 k args)

/-- The answers that the transmit queue holds: outcome class, detail and reply. -/
def reports (s : State) : List (OutcomeClass × Detail × List Byte) :=
  s.link.queue.filterMap fun f =>
    match f.body with
    | .report r => some (r.outcome, r.detail, r.reply)
    | .roll _ _ _ => none
    | .cut _ _ _ => none
    | .mark _ _ _ _ => none
    | .state _ => none

/-- ROLL and CUT payloads without a label, so that the point is the intake position. -/
def rollBytes (n : Word16) : List Byte := le 2 n.toNat ++ [25, 0, 0, 0, 0, 0]

/-! ### Checks on operands -/

theorem test_wellFormed_refuses_short_header : Instr.wellFormed (.headerReadComplete 0 (some [0])) = false := by decide +kernel
theorem test_wellFormed_refuses_short_slot : Instr.wellFormed (.slotReadComplete 0 (some (List.replicate 4095 0))) = false := by
  decide +kernel
theorem test_wellFormed_refuses_long_verify_block :
    Instr.wellFormed (.verifyReadComplete 0 (some (List.replicate 4097 0))) = false := by decide +kernel
theorem test_wellFormed_admits_failed_read : Instr.wellFormed (.verifyReadComplete 0 none) = true := by decide +kernel
theorem test_wellFormed_refuses_edge_past_48_bits : Instr.wellFormed (.rollLineRise (2 ^ 48)) = false := by decide +kernel
theorem test_wellFormed_refuses_mark_past_48_bits : Instr.wellFormed (.markPulse (2 ^ 48)) = false := by decide +kernel
theorem test_wellFormed_refuses_block_past_32_bits :
    Instr.wellFormed (.segmentWriteComplete 0 (some (2 ^ 32))) = false := by decide +kernel
theorem test_wellFormed_admits_last_block : Instr.wellFormed (.segmentWriteComplete 0 (some (2 ^ 32 - 1))) = true := by
  decide +kernel

/-! ### The manual's worked examples and tables -/

/-- Worked label conversions (2.2). -/
theorem test_indexOf_rate25 : indexOf .r25 { hh := 10, mm := 0, ss := 12, ff := 5 } = 900305
    ∧ labelOf .r25 900305 = { hh := 10, mm := 0, ss := 12, ff := 5 } := by decide +kernel
theorem test_drop_frame_minute : indexOf .df { hh := 0, mm := 0, ss := 59, ff := 29 } = 1799
    ∧ indexOf .df { hh := 0, mm := 1, ss := 0, ff := 2 } = 1800
    ∧ labelOf .df 1799 = { hh := 0, mm := 0, ss := 59, ff := 29 }
    ∧ labelOf .df 1800 = { hh := 0, mm := 1, ss := 0, ff := 2 } := by decide +kernel
theorem test_drop_frame_ten_minutes : indexOf .df { hh := 0, mm := 10, ss := 0, ff := 0 } = 17982
    ∧ labelOf .df 17981 = { hh := 0, mm := 9, ss := 59, ff := 29 }
    ∧ labelOf .df 17983 = { hh := 0, mm := 10, ss := 0, ff := 1 } := by decide +kernel
/-- R23: the skipped labels. -/
theorem test_skipped_label_invalid : labelValid .df { hh := 0, mm := 1, ss := 0, ff := 1 } = false
    ∧ labelValid .df { hh := 0, mm := 10, ss := 0, ff := 1 } = true
    ∧ labelValid .r25 { hh := 0, mm := 0, ss := 0, ff := 25 } = false := by decide +kernel
/-- Worked case: a ROLL and its CUT at 25 fps. -/
theorem test_roll_and_cut_points :
    convertStamp { rate := .r25, anchorPosition := 1000000, anchorIndex := 900000, jammed := true } .hz48000 1601000
        { rate := 25, label := some { hh := 10, mm := 0, ss := 12, ff := 5 } }
      = { position := 1585600, rateMismatch := false, clamped := false }
    ∧ takeStart .hz48000 20 1601000 1585600 = (1489600, false)
    ∧ takeStop .hz48000 15 1489600 2920000 = 2992000
    ∧ ownLabel { rate := .r25, anchorPosition := 1000000, anchorIndex := 900000, jammed := true } .hz48000 1489600
      = { hh := 10, mm := 0, ss := 10, ff := 5 } := by decide +kernel
/-- Worked case: a day wrap. -/
theorem test_day_wrap :
    convertStamp { rate := .r25, anchorPosition := 2000000, anchorIndex := 125, jammed := true } .hz48000 1760000
        { rate := 25, label := some { hh := 23, mm := 59, ss := 59, ff := 0 } }
      = { position := 1712000, rateMismatch := false, clamped := false }
    ∧ ownLabel { rate := .r25, anchorPosition := 2000000, anchorIndex := 125, jammed := true } .hz48000 1664000
      = { hh := 23, mm := 59, ss := 58, ff := 0 } := by decide +kernel
/-- Worked case: drop-frame at 48 kHz. -/
theorem test_drop_frame_position :
    convertStamp { rate := .df, anchorPosition := 500000, anchorIndex := 1800, jammed := true } .hz48000 498398
        { rate := 29, label := some { hh := 0, mm := 0, ss := 59, ff := 29 } }
      = { position := 498398, rateMismatch := false, clamped := false }
    ∧ ownLabel { rate := .df, anchorPosition := 500000, anchorIndex := 1800, jammed := true } .hz48000 498398
      = { hh := 0, mm := 0, ss := 59, ff := 28 } := by decide +kernel
/-- Worked case: clamps at start-up. -/
theorem test_start_up_clamps :
    convertStamp { rate := .r25, anchorPosition := 0, anchorIndex := 0, jammed := false } .hz48000 30000
        { rate := 25, label := some { hh := 0, mm := 0, ss := 2, ff := 0 } }
      = { position := 30000, rateMismatch := false, clamped := true }
    ∧ convertStamp { rate := .r25, anchorPosition := 0, anchorIndex := 0, jammed := false } .hz48000 30000
        { rate := 30, label := some { hh := 0, mm := 0, ss := 0, ff := 10 } }
      = { position := 30000, rateMismatch := true, clamped := false }
    ∧ takeStart .hz48000 20 30000 30000 = (0, true) := by decide +kernel

/-- The check values of the two CRCs over "123456789" that their parameters in R134 and R162 give. -/
theorem test_crc_check_values :
    crc32 [0x31, 0x32, 0x33, 0x34, 0x35, 0x36, 0x37, 0x38, 0x39] = 0xCBF43926
    ∧ crc16 [0x31, 0x32, 0x33, 0x34, 0x35, 0x36, 0x37, 0x38, 0x39] = 0x29B1 := by decide +kernel

/-- Worked mix case: the first frame, and the second. -/
def mixIntake : Intake :=
  { ready.intake with
    armMask := 0b1110011
    routing := Vector.ofFn fun t => ([.both, .l, .off, .off, .r, .r, .off, .both][t.val]?).getD .off
    gain := Vector.ofFn fun t => ([128, 192, 128, 128, 1, 1, 200, 255][t.val]?).getD 128 }
def mixWords (l : List Int) : Vector (Option Sample) 16 :=
  Vector.ofFn fun t => some (BitVec.ofInt 24 ((l[t.val]?).getD 0))
theorem test_mix_first_frame :
    let f := mixIntake.formFrame (mixWords [5000000, 6000000, 0, 0, -65, -3, 1000000, 3000000])
    f.mixL.toInt = 8388607 ∧ f.mixR.toInt = 4999999 ∧ f.clip = true ∧ f.invalid = 0 := by decide +kernel
theorem test_mix_second_frame :
    let f := mixIntake.formFrame (mixWords [-8000000, -2000000, 0, 0, 0, 0, 1000000, 3000000])
    f.mixL.toInt = -8388608 ∧ f.mixR.toInt = -8000000 ∧ f.clip = true := by decide +kernel

/-- Worked overrun: two runs of lost frames are two GAP notes. -/
theorem test_charges_make_gap_notes :
    let r := Record.charge 108461 251 (Record.charge 100001 2999 (Record.charge 100000 1 openRec))
    r.lost = 3251 ∧ r.notes = [.gap 100000 3000, .gap 108461 251] := by decide +kernel

/-- Worked allocation and remap: a run stops before a defect, and the next begins after it. -/
theorem test_allocation_passes_over_defects :
    let s : State := { ready with media := { ready.media with
      capacity := some 20000, cursor := some 12129, defects := [{ block := 12139, grown := false }] } }
    (s.allocate 25).map (·.1) = some { first := 12129, count := 10 }
      ∧ ((s.allocate 25).bind fun x => x.2.allocate 15).map (·.1) = some { first := 12140, count := 15 } := by decide +kernel

/-- Worked remap: the failed range 12,040 to 12,064 leaves a head and a tail. -/
theorem test_failed_range_is_cut_out :
    cutRange 12040 12064 [{ first := 11809, count := 320 }]
      = ({ before := [{ first := 11809, count := 231 }], after := [{ first := 12065, count := 64 }] }, false) := by decide +kernel

/-- Worked collision and back-off: station 5 after its attempts 1 and 2. -/
theorem test_backoff_slots : backoffSlots 1 5 = 37 ∧ backoffSlots 2 5 = 69 := by decide +kernel

/-- Conventions: newer roll numbers, half the range ahead and no more. -/
theorem test_newer_half_range : newer 32767 0 = true ∧ newer 32768 0 = false ∧ newer 0 0 = false ∧ newer 0 65535 = true := by
  decide +kernel

/-- R2: a period is valid within 5 percent of 1/fs. -/
theorem test_period_bounds : periodValid .hz48000 20833333 = true ∧ periodValid .hz48000 21875001 = false
    ∧ periodValid .hz48000 19791666 = false ∧ faultIsLoss .hz48000 (.noEdge 31250000) = true
    ∧ faultIsLoss .hz48000 (.noEdge 31249999) = false := by decide +kernel

/-! ### The receive filter (R163, R164, R194) -/

def rollWire : Wire := toAll .roll 2 (rollBytes 41)

theorem test_filter_takes_a_frame : (acceptFrame rollWire).isSome = true := by decide +kernel
theorem test_filter_refuses_stray_bits : acceptFrame { bits := rollWire.bits ++ [true] } = none := by decide +kernel
theorem test_filter_refuses_bad_crc :
    acceptFrame { bits := rollWire.bits.dropLast ++ [!rollWire.bits.getLastD false] } = none := by decide +kernel
theorem test_filter_refuses_wrong_length : acceptFrame (toAll .roll 2 [1, 0, 25, 0, 0, 0, 0]) = none := by decide +kernel
theorem test_filter_refuses_sender_0 : acceptFrame (toAll .roll 0 (rollBytes 41)) = none := by decide +kernel
theorem test_request_to_all_is_not_taken :
    ready.takenFrame .request (toAll .request 9 (requestPayload 1 .queryStatus [])) = none := by decide +kernel

/-! ### One command each -/

theorem test_reset_samples_straps :
    let t := run (.reset { stn := 17, role := true, jamen := true }) rolling
    t.link.station = 17 ∧ t.link.role = .localOnly ∧ t.link.jamen = true ∧ t.engine.takeState = .offline
      ∧ t.intake.position = 0 ∧ t.journal.nextIndex = 1 := by decide +kernel
theorem test_frameStore_advances :
    let t := run (.frameStore 20833333 (mixWords [-8388608, 7])) ready
    t.intake.position = 1000001 ∧ t.intake.windowCount = 1 ∧ t.intake.windowMax[0] = 8388608 ∧ t.intake.windowMax[1] = 7
      ∧ (t.intake.frameAt 1000000).isSome = true ∧ t.intake.lanes[1] = .active := by decide +kernel
theorem test_frameStore_charges_overwritten_frame :
    let s := { rolling with intake := { rolling.intake with position := 1524288 }
                            writer := { rolling.writer with queue := [{ entry1 with next := 1000000 }] } }
    let t := run (.frameStore 20833333 (mixWords [])) s
    (t.recordAt 1).map (·.lost) = some 1 ∧ (t.recordAt 1).map (·.notes) = some [.gap 100000 1]
      ∧ t.writer.queue.map (·.next) = [1000001] := by decide +kernel
theorem test_clockLoss_cuts_the_take :
    let t := run (.clockLoss (.noEdge 31250000)) rolling
    t.intake.clock = .lost ∧ t.engine.takeState = .offline ∧ (t.recordAt 1).map (·.stop) = some (some 1000000)
      ∧ (t.recordAt 1).map (·.state) = some .closing
      ∧ (t.recordAt 1).map (fun r => hasFlag r.flags .clockLost) = some true := by decide +kernel
theorem test_qualifyingPeriod_counts :
    (run (.qualifyingPeriod 20833333) station).intake.qualification = 1
      ∧ (run (.qualifyingPeriod 1) { station with intake := { station.intake with qualification := 63 } }).intake.qualification = 0
      := by decide +kernel
theorem test_clockReturn_at_64 :
    let s := { ready with intake := { ready.intake with clock := .lost, qualification := 64 }
                          engine := { ready.engine with takeState := .offline } }
    (run .clockReturn s).intake.clock = .running ∧ (run .clockReturn s).engine.takeState = .standby
      ∧ (run .clockReturn s).link.queue.length = 1 := by decide +kernel
theorem test_meterWindow_completes :
    let s := { ready with intake := { ready.intake with windowCount := 4800, windowMax := Vector.ofFn fun k => k.val } }
    let t := run .meterWindowComplete s
    t.intake.meters[17] = 17 ∧ t.intake.windowCount = 0 ∧ t.intake.windowMax[17] = 0 := by decide +kernel
theorem test_tailEnd_closes :
    let t := run .tailEnd (tailing 1000000)
    t.engine.takeState = .standby ∧ (t.recordAt 1).map (·.state) = some .closing
      ∧ (t.recordAt 1).map (·.stop) = some (some 1000000) := by decide +kernel
/-- The numbers of the worked length split. -/
def longTake : State :=
  { rollingWith { openRec with start := 20000000 } { entry1 with next := 22870000 } [keyA] with
    intake := { ready.intake with position := 22880000 } }
theorem test_lengthSplit_continues_the_take :
    let t := run .lengthSplit longTake
    (t.recordAt 1).map (·.stop) = some (some 22880000) ∧ (t.recordAt 2).map (·.start) = some 22880000
      ∧ (t.recordAt 2).map (·.continues) = some (some 1) ∧ t.engine.openTake = some 2 ∧ t.engine.takeState = .rolling
      ∧ t.writer.queue.map (·.index) = [1, 2] := by decide +kernel
/-- A frame of the ring at the take's next-needed position, at least fs/2 behind the intake. -/
def drawing : State :=
  { rollingWith { openRec with start := 970000 } { entry1 with next := 970000 } [keyA] with
    intake := { ready.intake with ring := [(970000 % 524288, ready.intake.formFrame (mixWords [-3, 5]))] } }
theorem test_frameDraw_opens_a_buffer :
    let t := run .frameDraw drawing
    (t.recordAt 1).map (·.recorded) = some 1 ∧ (t.recordAt 1).map (·.peaks) = some [3, 5, 0, 0]
      ∧ (t.recordAt 1).map (·.extents) = some [{ first := 4097, count := 32 }] ∧ t.media.cursor = some 4129
      ∧ t.writer.queue.map (·.next) = [970001]
      ∧ (match t.buffer 0 with | .free => [] | .used _ seg => seg.data)
          = [0xFD, 0xFF, 0xFF, 5, 0, 0, 0, 0, 0, 0, 0, 0] := by decide +kernel
theorem test_roll_opens_a_take :
    let t := run (.roll (toAll .roll 2 (rollBytes 40))) ready
    t.engine.takeState = .rolling ∧ t.engine.openTake = some 1 ∧ t.engine.holders = [keyA] ∧ t.journal.nextIndex = 2
      ∧ (t.recordAt 1).map (·.start) = some 952000 ∧ t.port.outstanding.map (·.kind) = [.journalWrite 1] := by decide +kernel
theorem test_roll_not_followed_only_fills_the_table :
    let t := run (.roll (toAll .roll 9 (rollBytes 3))) ready
    t.engine.takeState = .standby ∧ t.engine.lastRollOf 9 = some 3 := by decide +kernel
theorem test_cut_by_the_last_holder_enters_tail :
    let t := run (.cut (toAll .cut 2 (rollBytes 40))) rolling
    t.engine.takeState = .tail ∧ t.engine.pendingStop = some 1096000 ∧ t.engine.holders = [] := by decide +kernel
theorem test_state_of_a_holder_removes_it :
    let t := run (.state (toAll .state 2 [3, 3, 1, 0, 0, 0, 0, 0, 0])) (rollingWith openRec entry1 [keyA, keyB])
    t.engine.takeState = .rolling ∧ t.engine.holders = [keyB] := by decide +kernel
theorem test_mark_places_a_marker :
    let t := run (.mark (toAll .mark 9 [0, 0, 0, 0, 25, 0, 0, 0, 0, 0, 4])) rolling
    (t.recordAt 1).map (·.markers) = some [{ frame := 100000, kind := 4, origin := 9 }] := by decide +kernel
/-- A NOTE for the next take: scene "A", take number 7. -/
theorem test_note_merges_into_the_pending_slate :
    let t := run (.note (toAll .note 9 [0, 0, 0, 0, 5, 0, 3, 1, 0x41, 7, 0])) ready
    t.slate.scene = [0x41] ∧ t.slate.number = 7 ∧ t.slate.sceneStamp = { revision := 5, station := 9 } := by decide +kernel
theorem test_jam_sets_the_anchor :
    let t := run (.jam (toAll .jam 9 [10, 0, 0, 0, 25])) ready
    t.timecode = { rate := .r25, anchorPosition := 1000000, anchorIndex := 900000, jammed := true } := by decide +kernel
theorem test_report_sets_station_conflict :
    (run (.reportReceived (toAll .report 5 [])) ready).link.conflict = true
      ∧ (run (.reportReceived (toAll .report 9 [])) ready).link.conflict = false := by decide +kernel
theorem test_discard_changes_nothing : (run (.receiveFilterDiscard { bits := [true, false, true] }) ready).link = ready.link := by
  decide +kernel
theorem test_queryStatus_answers :
    (reports (run (.queryStatus (ask .queryStatus [])) rolling)).map (fun x => (x.1, x.2.1, x.2.2.take 8))
      = [(.done, .none, [5, 0, 0, 0, 2, 3, 1, 0])] := by decide +kernel
theorem test_queryMeters_length :
    (reports (run (.queryMeters (ask .queryMeters [])) ready)).map (·.2.2.length) = [59] := by decide +kernel
theorem test_queryTake_refuses_absent_index :
    reports (run (.queryTake (ask .queryTake [2, 0, 0, 0])) settled) = [(.refused, .noSuchTake, [])] := by decide +kernel
/-- The worked search: takes of scene 14A, three at a time. -/
def scened : State :=
  let sl (i : Nat) (b : List Byte) : MirrorSlot :=
    slotOf { closedRec with index := i, slate := { Slate.unset with scene := b } }
  { ready with journal := { nextIndex := 13, mirror :=
      [sl 1 [0x31, 0x32], sl 2 [0x31, 0x32], sl 3 [0x31, 0x34], gone, sl 5 [0x31, 0x34, 0x41], sl 6 [0x31, 0x34, 0x41],
       sl 7 [0x31, 0x34, 0x41], sl 8 [0x31, 0x34, 0x41], sl 9 [0x31, 0x34, 0x42], sl 10 [0x31, 0x34, 0x41], sl 11 [0x31, 0x35],
       sl 12 [0x31, 0x35]] } }
theorem test_search_finds_three_and_resumes :
    reports (run (.searchJournal (ask .searchJournal [0, 0, 1, 0, 3, 3, 0x31, 0x34, 0x41])) scened)
      = [(.done, .none, [3, 5, 0, 6, 0, 7, 0, 8, 0])] := by decide +kernel
theorem test_arm_is_deferred_during_a_take :
    (run (.arm (ask .arm [0x0F, 0])) ready).intake.armMask = 15
      ∧ (run (.arm (ask .arm [0x0F, 0])) rolling).intake.nextArm = some 15
      ∧ reports (run (.arm (ask .arm [0x0F, 0])) rolling) = [(.done, .deferred, [3, 0, 1, 15, 0])] := by decide +kernel
theorem test_mix_applies_entries_in_order :
    let t := run (.mix (ask .mix [2, 3, 1, 10, 3, 3, 20])) ready
    t.intake.routing[3] = .both ∧ t.intake.gain[3] = 20 ∧ t.intake.gain[2] = 128 := by decide +kernel
theorem test_mix_refuses_all_on_one_bad_entry :
    let t := run (.mix (ask .mix [2, 3, 1, 10, 16, 3, 20])) ready
    t.intake.routing[3] = .off ∧ reports t = [(.refused, .badArgument, [])] := by decide +kernel
theorem test_verifyTake_asks_its_reads :
    let t := run (.verifyTake (ask .verifyTake [1, 0])) settled
    t.port.outstanding.map (·.kind) = [.verifyRead 0 4097, .verifyRead 1 4098]
      ∧ reports t = [(.accepted, .none, [1, 0, 2, 0, 0, 0])] := by decide +kernel
def prepareArgs : List Byte := profileBytes prof ++ [1, 0] ++ le 4 5000
theorem test_prepareMedia_starts :
    reports (run (.prepareMedia (ask .prepareMedia prepareArgs)) ready) = [(.accepted, .none, [8, 0, 1, 0])] := by decide +kernel
theorem test_releaseMedia_completes_at_once :
    let t := run (.releaseMedia (ask .releaseMedia [])) ready
    t.media.state = .released ∧ t.engine.takeState = .offline
      ∧ reports t = [(.accepted, .none, []), (.done, .none, [7])] := by decide +kernel
def verifying : State := run (.verifyTake (ask .verifyTake [1, 0])) settled
theorem test_abort_ends_the_verify :
    let t := run (.abort (ask .abort [])) verifying
    t.verify.slot = .idle ∧ (reports t).drop 1
      = [(.aborted, .none, [1, 0, 0, 0, 0, 0, 0, 0, 0, 0]), (.done, .none, [1, 1, 0])] := by decide +kernel
theorem test_unknownRequest_is_refused :
    reports (run (.unknownRequest (wireOf 9 5 .request [1, 0, 11])) ready) = [(.refused, .unknownRequest, [])] := by decide +kernel
/-- The numbers of the worked length split's first row, at 48 kHz with 1 s of pre-roll. -/
theorem test_rollLineRise_opens_at_the_edge :
    let t := run (.rollLineRise 999520) ready
    (t.recordAt 1).map (·.start) = some 951520 ∧ t.engine.ownRoll = 1
      ∧ t.link.queue.map (·.body.kind) = [.roll, .state] := by decide +kernel
theorem test_rollLineFall_cuts_the_own_hold :
    let s := run (.rollLineRise 999520) ready
    let t := run (.rollLineFall 999900) s
    t.engine.takeState = .tail ∧ t.engine.pendingStop = some 1095900 ∧ t.link.queue.map (·.body.kind) = [.roll, .cut, .state] := by
  decide +kernel
theorem test_markPulse_places_a_marker :
    let t := run (.markPulse 999600) rolling
    (t.recordAt 1).map (·.markers) = some [{ frame := 99600, kind := 0, origin := 5 }]
      ∧ t.link.queue.map (·.body.kind) = [.mark] := by decide +kernel
/-- R49: the edge of a level held for 10 ms lies at most 480 frames back at 48 kHz, and 960 at 96 kHz. -/
theorem test_edge_position_out_of_the_hold_is_no_edge :
    (∀ edge ∈ [999519, 1000001], run (.rollLineRise edge) ready = ready ∧ run (.markPulse edge) rolling = rolling)
      ∧ (run (.rollLineRise 999039) { ready with intake := { ready.intake with rate := .hz96000 } }).engine.ownRoll = 0
      ∧ (run (.rollLineRise 999040) { ready with intake := { ready.intake with rate := .hz96000 } }).engine.ownRoll = 1 := by
  decide +kernel
theorem test_lineLevel_adopted_once :
    (run (.lineLevelAdopted .roll true) State.reset).engine.rollLine = some true
      ∧ (run (.lineLevelAdopted .mark true) station).engine.markLine = some false := by decide +kernel
theorem test_cardInsertion_asks_the_size :
    let t := run (.cardInsertion true) station
    t.media.state = .mounting ∧ t.media.protectMark = true ∧ t.port.outstanding.map (·.kind) = [.sizeRead] := by decide +kernel
theorem test_cardRemoval_clears_the_card :
    let t := run .cardRemoval rolling
    t.media.state = .absent ∧ t.journal.mirror = [] ∧ t.journal.nextIndex = 1 ∧ t.writer.queue = []
      ∧ t.engine.takeState = .offline ∧ t.media.profile = some prof := by decide +kernel
/-- Mounting, with the size read or the header read outstanding as operation 1. -/
def sizing : State := withOps [(.sizeRead, 1, none)]
  { station with media := { station.media with state := .mounting, mount := .sizing } }
def heading : State := withOps [(.headerRead, 1, none)]
  { station with media := { station.media with state := .mounting, mount := .header, capacity := some 10000 } }
/-- The same with the clock RUNNING at a rate. -/
def headingAt (r : SampleRate) : State := { heading with intake := { heading.intake with clock := .running, rate := r } }
theorem test_sizeRead_too_small :
    (run (.sizeReadComplete 1 (some 5120)) sizing).media.state = .unprepared
      ∧ (run (.sizeReadComplete 1 (some 5121)) sizing).media.mount = .header := by decide +kernel
theorem test_headerRead_invalid :
    (run (.headerReadComplete 1 (some [])) heading).media.state = .unprepared
      ∧ (run (.headerReadComplete 1 none) heading).port.outstanding.map (·.attempt) = [2] := by decide +kernel
/-- The scan of an empty journal, with the read of slot 1 outstanding. -/
def scanning : State := withOps [(.slotRead 1, 1, none)]
  { station with
    intake := { station.intake with clock := .running, position := 1000000, armMask := 3 }
    engine := { station.engine with followSet := 12 }
    media := { ready.media with state := .mounting, cursor := none, mount := .scan 1 32 0 [] } }
theorem test_slotRead_blank_ends_the_scan :
    let t := run (.slotReadComplete 1 (some [0, 0, 0])) scanning
    t.media.state = .ready ∧ t.journal.nextIndex = 1 ∧ t.media.cursor = some 4097 ∧ t.engine.takeState = .standby := by decide +kernel
def writing : State := withOps [(.journalWrite 1, 1, some [])]
  { settled with journal := { nextIndex := 2, mirror := [{ slotOf closedRec with inFlight := true }] } }
theorem test_journalWrite_completes :
    let t := run (.journalWriteComplete 1 true) writing
    (t.slotAt 1).map (·.inFlight) = some false ∧ t.port.outstanding = [] := by decide +kernel
/-- Take 2 is OPEN; its provisional write is held back for the slot below. -/
def holding : State :=
  { ready with
    engine := { ready.engine with takeState := .rolling, openTake := some 2, holders := [keyA] }
    journal := { nextIndex := 3, mirror := [slotOf closedRec, { slotOf { openRec with index := 2 } with held := true, firstDone := false }] }
    writer := { ready.writer with queue := [{ entry1 with index := 2 }] } }
theorem test_deferredProvisionalWrite_is_asked :
    (run .deferredProvisionalWrite holding).port.outstanding.map (·.kind) = [.journalWrite 2] := by decide +kernel
def headerWriting : State := withOps [(.headerWrite, 4, some [])]
  { ready with media := { ready.media with headerInFlight := true } }
theorem test_headerWrite_fourth_failure_faults :
    (run (.headerWriteComplete 1 true) headerWriting).media.headerInFlight = false
      ∧ (run (.headerWriteComplete 1 false) headerWriting).media.state = .faulted := by decide +kernel
/-- A take's first segment, IN FLIGHT as operation 1: two blocks from 4,097. -/
def oneSegment (failures : Nat) : Segment where
  take := 1
  sequence := some 1
  tag := some .first
  run := { first := 4097, count := 2 }
  blocksUsed := 2
  offset := 0
  writes := [{ first := 4097, count := 2, segBlock := 0, state := .outstanding }]
  failures := failures
  tapped := true
  orphan := false
  data := [1, 2, 3]
def flying (failures : Nat) : State := withOps [(.segmentWrite 0 0, 1, none)]
  { rollingWith { openRec with extents := [{ first := 4097, count := 2 }] } { entry1 with sealedSegs := 1 } [keyA] with
    media := { ready.media with cursor := some 4099 }
    writer := {
      queue := [{ entry1 with sealedSegs := 1 }]
      buffers := Vector.ofFn fun i => if i.val = 0 then .used .inFlight (oneSegment failures) else .free } }
theorem test_segmentWrite_frees_its_buffer :
    let t := run (.segmentWriteComplete 1 none) (flying 0)
    t.buffer 0 = .free ∧ t.writer.queue.map (fun e => (e.completed, e.durSegs, e.durBytes)) = [(1, 1, 3)] := by decide +kernel
theorem test_segmentWrite_failure_is_remapped :
    let t := run (.segmentWriteComplete 1 (some 4098)) (flying 0)
    t.media.defects = [{ block := 4098, grown := true }]
      ∧ (t.recordAt 1).map (·.extents) = some [{ first := 4097, count := 1 }, { first := 4099, count := 1 }] := by decide +kernel
theorem test_timeout_fails_at_the_first_block :
    (run (.operationTimeout 1) (flying 0)).media.defects = [{ block := 4097, grown := true }] := by decide +kernel
def plan (phase : PreparePhase) : PreparePlan := { generation := 8, profile := prof, defects := [], phase := phase }
def preparing (phase : PreparePhase) : State :=
  { ready with verify := { ready.verify with slot := .preparing { station := 9, tag := 1 } (plan phase) } }
theorem test_prepareHeaderWrite_is_asked :
    (run .prepareHeaderWriteAsk (preparing .waiting)).port.outstanding.map (·.kind) = [.prepareHeader] := by decide +kernel
theorem test_prepareHeaderWrite_is_followed_by_slot_1 :
    (run (.prepareHeaderWriteComplete 1 true) (withOps [(.prepareHeader, 1, some [])] (preparing .header))).port.outstanding.map (·.kind)
      = [.prepareZero] := by decide +kernel
theorem test_prepareZeroWrite_completes :
    let t := run (.prepareZeroWriteComplete 1 true) (withOps [(.prepareZero, 1, some [])] (preparing .zero))
    t.media.generation = some 8 ∧ t.media.state = .ready ∧ t.journal.nextIndex = 1
      ∧ reports t = [(.done, .none, [8, 0, 0, 0, 3])] := by decide +kernel
def releasing : State := { ready with verify := { ready.verify with slot := .releasing { station := 9, tag := 1 } } }
theorem test_release_completes :
    (run .releaseComplete releasing).media.state = .released
      ∧ (run .releaseComplete (withOps [(.journalWrite 1, 1, none)] releasing)).media.state = .ready := by decide +kernel
theorem test_verifyRead_fourth_failure_counts :
    let s := { verifying with port := { verifying.port with outstanding := verifying.port.outstanding.map fun o => { o with attempt := 4 } } }
    (run (.verifyReadComplete 0 none) s).verify.badBlocks = 1 ∧ (run (.verifyReadComplete 0 none) s).verify.cursor = 1 := by
  decide +kernel
theorem test_initialState_once :
    (run .initialState { station with link := { station.link with initialDue := true } }).link.queue.length = 1
      ∧ (run .initialState station).link.queue = [] := by decide +kernel
/-- A STATE frame at the head of station 5's queue. -/
def sending (attempts : Nat) (phase : TxPhase) : State :=
  { station with link := { station.link with
      queue := [{ body := .state station.stateContent, attempts := attempts, phase := phase }]
      driving := if phase = .attempting then some ((TxBody.state station.stateContent).wireBits 5) else none } }
/-- The bits of that frame, and the bits before its first 1. -/
def sentBits : List Bool := (TxBody.state station.stateContent).wireBits 5
def zerosBefore : List Bool := sentBits.takeWhile (!·)
def restAfter : List Bool := (sentBits.dropWhile (!·)).drop 1
theorem test_attempt_begins :
    let t := run .transmitAttemptStart (sending 0 .idle)
    t.link.queue.map (fun f => (f.attempts, f.phase)) = [(1, .attempting)] ∧ (t.link.driving.map List.length) = some 120 := by
  decide +kernel
theorem test_transmit_clears_link_trouble :
    let s := { sending 3 .attempting with link := { (sending 3 .attempting).link with linkTrouble := true } }
    (run .transmitComplete s).link.queue = [] ∧ (run .transmitComplete s).link.linkTrouble = false := by decide +kernel
theorem test_collision_backs_off_or_abandons :
    (run .collision (sending 1 .attempting)).link.queue.map (·.phase) = [.backoff 37]
      ∧ (run .collision (sending 8 .attempting)).link.queue = []
      ∧ (run .collision (sending 8 .attempting)).link.linkTrouble = true := by decide +kernel
/-- R166: the bits read back give the command that ends an attempt. -/
theorem test_bits_read_back_end_the_attempt :
    let l := (sending 1 .attempting).link
    l.attemptEnd sentBits = some .transmitComplete ∧ l.attemptEnd (zerosBefore ++ [false]) = some .collision
      ∧ l.attemptEnd sentBits.dropLast = none := by decide +kernel
/-- R163: a frame on the link while this station sends is its own, and is not taken. -/
theorem test_frame_heard_while_sending_is_not_taken :
    ready.takenFrame .roll rollWire ≠ none ∧ (sending 1 .attempting).takenFrame .roll rollWire = none := by decide +kernel
theorem test_backoff_completes : (run .backoffComplete (sending 1 (.backoff 37))).link.queue.map (·.phase) = [.idle] := by
  decide +kernel
/-- A step takes the front of the queue. -/
theorem test_step_takes_the_front :
    (match step { sending 1 (.backoff 37) with pending := [.backoffComplete, .cardRemoval] } with
      | .next t => t.pending | .fault _ => [] | .refused _ => []) = [.cardRemoval] := by decide +kernel
/-- No row of the table has bits. -/
theorem test_no_word_spells_a_command : decodeTableWord 8 1 = none := by decide +kernel

/-! ### Witnesses: states and operands that meet a statement's hypotheses -/

/-- A frame of station 2 to all stations. -/
def heard (k : FrameKind) (payload : List Byte) : Frame := { sender := 2, dest := 0, kind := k, payload := payload }

theorem witness_StepRunsTheFrontCommand :
    ({ ready with pending := [.cardRemoval] } : State).pending = .cardRemoval :: [] ∧ ready.pending = [] := by decide +kernel

theorem witness_FrameStoreStoresOneFrame :
    ready.intake.clock = .running ∧ periodValid ready.intake.rate 20833333 = true ∧ ready.intake.position + 1 < 2 ^ 48
      ∧ ready.intake.fillStart ≤ ready.intake.position ∧ ready.settleDue.intake.position = ready.intake.position := by decide +kernel
/-- The last position of the 48 bits. -/
def topmost : State := { ready with intake := { ready.intake with position := 2 ^ 48 - 1 } }
theorem witness_FrameStoreStoresOneFrame_at_the_top :
    topmost.intake.clock = .running ∧ periodValid topmost.intake.rate 20833333 = true
      ∧ ¬ topmost.intake.position + 1 < 2 ^ 48 := by decide +kernel
theorem witness_FrameStoreStoresOneFrame_not_stored :
    station.intake.clock = .lost ∧ periodValid station.intake.rate 1 = false := by decide +kernel

theorem witness_FormedFrameFollowsTheMixRule :
    ∃ sum : (Routing → Bool) → Int, ∀ feeds, sum feeds = ((List.finRange 16).map fun (t : Fin 16) =>
      if mixIntake.armMask.getLsbD t = true ∧ feeds mixIntake.routing[t] = true then
        ((((mixWords [5000000])[t].getD 0).toInt * ((mixIntake.gain[t]).toNat : Int) + 64) / 128 : Int) else 0).sum :=
  ⟨_, fun _ => rfl⟩

/-- A take that still needs the frame about to be overwritten. -/
def behind : State :=
  { rolling with intake := { rolling.intake with position := 1524288 }
                 writer := { rolling.writer with queue := [{ entry1 with next := 1000000 }] } }
theorem witness_StoreChargesEveryTakeThatFellBehind :
    behind.intake.clock = .running ∧ behind.QueueSound ∧ behind.intake.position + 1 < 2 ^ 48
      ∧ behind.settleDue.intake.position = behind.intake.position ∧ behind.settleDue.QueueSound ∧ behind.settleDue.port.Sound
      ∧ { entry1 with next := 1000000 } ∈ behind.settleDue.writer.queue ∧ behind.settleDue.recordAt 1 = some openRec
      ∧ 1000000 < behind.settleDue.intake.position + 1 - 524288 ∧ openRec.state = .opened := by
  decide +kernel
/-- A CLOSING take in that place. -/
def behindClosing (stop next : Nat) : State :=
  { behind with
    engine := ready.engine
    journal := { nextIndex := 2, mirror := [slotOf { openRec with state := .closing, stop := some stop }] }
    writer := { behind.writer with queue := [{ entry1 with next := next }] } }
/-- It is charged up to its stop, and up to one frame before it. -/
theorem witness_StoreChargesEveryTakeThatFellBehind_closing :
    ∀ stop ∈ [1000001, 1000002], (behindClosing stop 1000000).settleDue.intake.clock = .running
      ∧ (behindClosing stop 1000000).settleDue.QueueSound ∧ (behindClosing stop 1000000).settleDue.port.Sound
      ∧ { entry1 with next := 1000000 } ∈ (behindClosing stop 1000000).settleDue.writer.queue
      ∧ (behindClosing stop 1000000).settleDue.recordAt 1 = some { openRec with state := .closing, stop := some stop }
      ∧ (behindClosing stop 1000000).settleDue.intake.position + 1 - 524288 = 1000001 ∧ 1000000 < stop := by decide +kernel
/-- It has nothing more to draw, or does not need the frame that is overwritten. -/
theorem witness_StoreChargesEveryTakeThatFellBehind_kept :
    ∀ next ∈ [1000000, 1000001], (behindClosing 1000000 next).settleDue.QueueSound ∧ (behindClosing 1000000 next).settleDue.port.Sound
      ∧ { entry1 with next := next } ∈ (behindClosing 1000000 next).settleDue.writer.queue
      ∧ (behindClosing 1000000 next).settleDue.recordAt 1 = some { openRec with state := .closing, stop := some 1000000 }
      ∧ 1000000 ≤ next := by decide +kernel
theorem test_charge_at_the_stop_closes_the_drawing :
    let t := run (.frameStore 20833333 (mixWords [])) (behindClosing 1000001 1000000)
    (t.recordAt 1).map (·.lost) = some 1 ∧ (t.recordAt 1).map (·.notes) = some [.gap 100000 1] ∧ t.filling = none := by decide +kernel

theorem witness_ChargeCountsAndNotesLostFrames_lengthens :
    ({ openRec with notes := [.gap 5 2, .dropout 0 9 1] } : Record).notes = [] ++ DefectNote.gap 5 2 :: [.dropout 0 9 1]
      ∧ [DefectNote.dropout 0 9 1].all (fun x => !x.isGap) = true ∧ 5 + 2 = 7 := by decide +kernel
theorem witness_ChargeCountsAndNotesLostFrames_adds :
    openRec.notes = [] ∧ openRec.notes.length < 16
      ∧ 16 ≤ ({ openRec with notes := List.replicate 16 (.dropout 0 9 1) } : Record).notes.length := by decide +kernel

theorem witness_ClockLossStopsIntakeAndCutsTheTake :
    rolling.Coherent ∧ rolling.port.Sound ∧ rolling.intake.clock = .running
      ∧ faultIsLoss rolling.intake.rate (.badPeriod 21875001) = true ∧ rolling.engine.openTake = some 1
      ∧ rolling.recordAt 1 = some openRec :=
  ⟨by decide +kernel, by decide +kernel⟩
theorem witness_ClockLossStopsIntakeAndCutsTheTake_no_loss :
    station.Coherent ∧ faultIsLoss rolling.intake.rate (.badPeriod 21875000) = false ∧ station.port.Sound
      ∧ station.intake.clock = .lost ∧ station.intake.qualification < 64 :=
  ⟨by decide +kernel, by decide +kernel⟩

/-- READY, with the clock lost and counting. -/
def qualifying (n : Nat) : State :=
  { ready with
    intake := { ready.intake with clock := .lost, qualification := n, nextArm := some 5 }
    engine := { ready.engine with takeState := .offline } }
theorem witness_ClockReturnsAndMeterWindowsComplete :
    (qualifying 63).intake.clock = .lost ∧ (qualifying 63).intake.qualification < 64 ∧ (qualifying 64).intake.clock = .lost
      ∧ 64 ≤ (qualifying 64).intake.qualification ∧ (qualifying 64).engine.takeState = .offline := by decide +kernel
theorem witness_ClockReturnsAndMeterWindowsComplete_window :
    ({ ready.intake with windowCount := 4800 } : Intake).rate.hz / 10 ≤ 4800 ∧ ready.intake.windowCount < ready.intake.rate.hz / 10 := by
  decide +kernel

theorem witness_LabelsAndIndicesAreInverse :
    2589407 < RateCode.perDay .df ∧ 0 < RateCode.perDay .r24 ∧ labelValid .df { hh := 23, mm := 59, ss := 59, ff := 29 } = true
      ∧ labelValid .r25 { hh := 0, mm := 0, ss := 0, ff := 0 } = true := by decide +kernel

theorem witness_StampsBecomePositionsAndBack :
    1080000 < RateCode.perDay .r25 ∧ ((RateCode.perDay .r25 : Nat) : Int) / 2 = 1080000 ∧ (1080000 : Int) ≤ 1080000 - 0
      ∧ (0 : Int) - 1080001 < -1080000 ∧ (-1080000 : Int) ≤ 0 - 1080000 := by decide +kernel

/-- The anchors of the day wrap and of the drop-frame case. -/
def anchor25 : Timecode := { rate := .r25, anchorPosition := 2000000, anchorIndex := 125, jammed := true }
def anchorDF : Timecode := { rate := .df, anchorPosition := 500000, anchorIndex := 1800, jammed := true }
/-- The clauses of a stamp: no label, another rate, an invalid label, exactly fs/2 ahead, and one frame more. -/
theorem witness_StampsBecomePositionsAndBack_stamps :
    rateOfByte 30 ≠ some anchor25.rate ∧ rateOfByte 25 = some anchor25.rate
      ∧ labelValid .r25 { hh := 0, mm := 0, ss := 5, ff := 25 } = false ∧ labelValid .r25 { hh := 0, mm := 0, ss := 5, ff := 0 } = true
      ∧ convertStamp anchor25 .hz48000 1976000 { rate := 25, label := some { hh := 0, mm := 0, ss := 5, ff := 0 } }
          = { position := 2000000, rateMismatch := false, clamped := false }
      ∧ convertStamp anchor25 .hz48000 1975999 { rate := 25, label := some { hh := 0, mm := 0, ss := 5, ff := 0 } }
          = { position := 1975999, rateMismatch := false, clamped := true } := by decide +kernel
theorem witness_StampsBecomePositionsAndBack_points :
    takeStart .hz48000 0 1000000 520000 = (520000, false) ∧ takeStart .hz48000 0 1000000 519999 = (520000, true)
      ∧ takeStop .hz48000 0 900000 899999 = 900000 ∧ markerPosition 900000 899999 5 = 900000
      ∧ markerPosition 900000 900000 900001 = 900000 ∧ markerPosition 900000 900007 900005 = 900005 := by decide +kernel
theorem witness_StampsBecomePositionsAndBack_own_index :
    anchor25.anchorIndex < anchor25.rate.perDay ∧ rateOfByte 25 = some anchor25.rate
      ∧ labelValid .r25 { hh := 23, mm := 59, ss := 59, ff := 0 } = true
      ∧ convertStamp anchor25 .hz48000 1760000 { rate := 25, label := some { hh := 23, mm := 59, ss := 59, ff := 0 } }
          = { position := (1712000 : Nat), rateMismatch := false, clamped := false } := by decide +kernel
theorem witness_StampsBecomePositionsAndBack_own_index_drop_frame :
    anchorDF.anchorIndex < anchorDF.rate.perDay ∧ rateOfByte 29 = some anchorDF.rate
      ∧ labelValid .df { hh := 0, mm := 0, ss := 59, ff := 29 } = true
      ∧ convertStamp anchorDF .hz48000 500000 { rate := 29, label := some { hh := 0, mm := 0, ss := 59, ff := 29 } }
          = { position := (498398 : Nat), rateMismatch := false, clamped := false }
      ∧ wrapDifference .df ((indexOf .df { hh := 0, mm := 0, ss := 59, ff := 29 } : Int) - 1800) % 5 ≠ 0 := by decide +kernel

theorem witness_JamSetsTheAnchorOrIsIgnored :
    ready.takenFrame .jam (toAll .jam 2 [10, 0, 0, 0, 25]) = some (heard .jam [10, 0, 0, 0, 25]) ∧ ready.link.jamen = true
      ∧ ready.engine.takeState = .standby ∧ rateOfByte (BitVec.ofNat 8 (field [10, 0, 0, 0, 25] 4 1)) = some ready.timecode.rate
      ∧ labelValid ready.timecode.rate (labelAtOffset [10, 0, 0, 0, 25] 0) = true := by decide +kernel
theorem witness_JamSetsTheAnchorOrIsIgnored_ignored :
    rolling.takenFrame .jam (toAll .jam 2 [10, 0, 0, 25, 25]) = some (heard .jam [10, 0, 0, 25, 25])
      ∧ rolling.engine.takeState = .rolling ∧ labelValid rolling.timecode.rate (labelAtOffset [10, 0, 0, 25, 25] 0) = false := by
  decide +kernel

/-! #### Rolls and cuts -/

/-- READY, with roll number 40 as the newest of station 2. -/
def heardBefore : State := { ready with engine := ready.engine.setLastRoll 2 40 }
theorem witness_RollIsIgnoredOrRefused_stale :
    heardBefore.takenFrame .roll (toAll .roll 2 (rollBytes 40)) = some (heard .roll (rollBytes 40))
      ∧ heardBefore.engine.lastRollOf 2 = some 40
      ∧ ¬ (1 ≤ (rollNumber (rollBytes 40) - 40).toNat ∧ (rollNumber (rollBytes 40) - 40).toNat ≤ 32767) := by decide +kernel
theorem witness_RollIsIgnoredOrRefused_not_followed :
    ready.takenFrame .roll (wireOf 9 0 .roll (rollBytes 3)) = some { sender := 9, dest := 0, kind := .roll, payload := rollBytes 3 }
      ∧ ready.engine.lastRollOf 9 = none ∧ ready.engine.followSet.getLsbD 9 = false := by decide +kernel
/-- A take that waits in the queue behind two others, and one with a full journal. -/
def backlogged : State := { ready with writer := { ready.writer with queue := [entry1, { entry1 with index := 2 }, { entry1 with index := 3 }] } }
def fullJournal : State := { ready with journal := { mirror := List.replicate 4096 (slotOf closedRec), nextIndex := 4097 } }
theorem witness_RollIsIgnoredOrRefused_not_ready :
    station.takenFrame .roll (toAll .roll 2 (rollBytes 40)) = some (heard .roll (rollBytes 40))
      ∧ ready.engine.fresh 2 (rollNumber (rollBytes 40)) = true ∧ ready.engine.followSet.getLsbD 2 = true
      ∧ (qualifying 0).engine.takeState = .offline ∧ (qualifying 0).engine.followSet.getLsbD 2 = true
      ∧ (qualifying 0).engine.openTake = none := by decide +kernel
theorem witness_RollIsIgnoredOrRefused_journal_full :
    fullJournal.takenFrame .roll (toAll .roll 2 (rollBytes 40)) = some (heard .roll (rollBytes 40))
      ∧ fullJournal.engine.fresh 2 (rollNumber (rollBytes 40)) = true ∧ fullJournal.engine.openTake = none
      ∧ ¬ (fullJournal.engine.takeState = .offline ∨ fullJournal.verify.slot.blocksJournal = true)
      ∧ 4096 < fullJournal.journal.nextIndex := by decide +kernel
theorem witness_RollIsIgnoredOrRefused_backlog :
    backlogged.takenFrame .roll (toAll .roll 2 (rollBytes 40)) = some (heard .roll (rollBytes 40))
      ∧ ¬ (backlogged.engine.takeState = .offline ∨ backlogged.verify.slot.blocksJournal = true)
      ∧ ¬ 4096 < backlogged.journal.nextIndex ∧ 3 ≤ backlogged.writer.queue.length := by decide +kernel

theorem witness_RollOpensATake :
    ready.Coherent ∧ ready.takenFrame .roll (toAll .roll 2 (rollBytes 40)) = some (heard .roll (rollBytes 40))
      ∧ keyA = { origin := 2, roll := rollNumber (rollBytes 40) } ∧ ready.port.Sound ∧ ready.engine.fresh 2 40 = true
      ∧ ready.engine.followSet.getLsbD 2 = true ∧ ready.engine.takeState = .standby ∧ ready.verify.slot.blocksJournal = false
      ∧ ready.journal.nextIndex ≤ 4096 ∧ ready.writer.queue.length < 3 ∧ ready.media.profile = some prof :=
  ⟨by decide +kernel, by decide +kernel⟩

theorem witness_RollJoinsTheOpenTake :
    rolling.takenFrame .roll (toAll .roll 2 (rollBytes 41)) = some (heard .roll (rollBytes 41)) ∧ rolling.engine.Sound
      ∧ rolling.engine.fresh 2 41 = true ∧ rolling.engine.followSet.getLsbD 2 = true ∧ rolling.engine.openTake = some 1
      ∧ rolling.recordAt 1 = some openRec := by decide +kernel

/-- The ends of the hold of R49, and one frame past each; the last two rows were held across a change of the rate. -/
def changedAt (fillStart : Nat) : State := { ready with intake := { ready.intake with fillStart := fillStart } }
theorem witness_RollLineRiseRollsLocally_edges :
    (∀ edge ∈ [999520, 1000000], ready.HeldFrom edge ∧ rolling.HeldFrom edge)
      ∧ (∀ edge ∈ [999519, 1000001], ¬ ready.HeldFrom edge)
      ∧ (changedAt 999520).HeldFrom 999520 ∧ ¬ (changedAt 999519).HeldFrom 999519
      ∧ (changedAt 999900).HeldFrom 999040 ∧ ¬ (changedAt 999900).HeldFrom 999039 := by decide +kernel
theorem witness_RollLineRiseRollsLocally_opens :
    ready.Coherent ∧ ready.engine.rollLine = some false ∧ ready.port.Sound ∧ ready.engine.takeState = .standby
      ∧ ready.verify.slot.blocksJournal = false ∧ ready.journal.nextIndex ≤ 4096 ∧ ready.writer.queue.length < 3
      ∧ ready.media.profile = some prof :=
  ⟨by decide +kernel, by decide +kernel⟩
theorem witness_RollLineRiseRollsLocally_other_cases :
    State.reset.engine.rollLine ≠ some false ∧ rolling.engine.rollLine = some false ∧ rolling.engine.Sound
      ∧ rolling.engine.openTake = some 1 ∧ rolling.recordAt 1 = some openRec
      ∧ station.engine.rollLine = some false ∧ station.engine.openTake = none ∧ station.refusalOf = some .notReady := by
  decide +kernel

theorem witness_HoldersLeaveByCutOrState_cut :
    rolling.takenFrame .cut (toAll .cut 2 (rollBytes 40)) = some (heard .cut (rollBytes 40)) ∧ rolling.engine.Sound
      ∧ rolling.port.Sound ∧ rolling.engine.takeState = .rolling ∧ keyA ∈ rolling.engine.holders
      ∧ rolling.engine.holders.filter (fun h => h.origin != 2) = [] ∧ rolling.engine.openTake = some 1
      ∧ rolling.recordAt 1 = some openRec ∧ rolling.entryOf 1 = some entry1 ∧ rolling.media.profile = some prof := by
  decide +kernel
/-- Two holders. -/
def shared : State := rollingWith openRec entry1 [keyA, keyB]
theorem witness_HoldersLeaveByCutOrState_one_of_two :
    shared.takenFrame .cut (toAll .cut 2 (rollBytes 40)) = some (heard .cut (rollBytes 40)) ∧ shared.engine.Sound
      ∧ shared.engine.takeState = .rolling ∧ keyA ∈ shared.engine.holders
      ∧ shared.engine.holders.filter (fun h => h.origin != 2) = [keyB]
      ∧ ({ keyA with roll := 41 } : TakeKey) ∉ shared.engine.holders := by decide +kernel
def stateBytes (take : Byte) : List Byte := [take, 3, 1, 0, 0, 0, 0, 0, 0]
theorem witness_HoldersLeaveByCutOrState_state :
    (∀ b ∈ [0, 1, 3, 2, 4, 255], (rolling.takenFrame .state (toAll .state 2 (stateBytes b))).isSome = true)
      ∧ rolling.takenFrame .state (toAll .state 2 (stateBytes 3)) = some (heard .state (stateBytes 3))
      ∧ field (stateBytes 3) 0 1 ∈ [0, 1, 3] ∧ (∃ h ∈ rolling.engine.holders, h.origin = 2)
      ∧ field (stateBytes 2) 0 1 = 2 ∧ 3 < field (stateBytes 4) 0 1 := by decide +kernel

/-- The station's own hold, with the ROLL line high. -/
def pressed (holders : List TakeKey) : State :=
  let s := rollingWith { openRec with key := { origin := 5, roll := 1 }, joined := [{ origin := 5, roll := 1 }] } entry1 holders
  { s with engine := { s.engine with rollLine := some true, rollRiseTaken := true, ownRoll := 1 } }
def ownKey : TakeKey := { origin := 5, roll := 1 }
theorem witness_RollLineFallCutsLocally_edges :
    ∀ edge ∈ [999520, 1000000], (pressed [{ origin := 5, roll := 1 }]).HeldFrom edge
      ∧ (pressed [{ origin := 5, roll := 1 }]).engine.rollRiseTaken = true
      ∧ (pressed [{ origin := 5, roll := 1 }]).engine.rollLine = some true := by decide +kernel
theorem witness_RollLineFallCutsLocally :
    (pressed [ownKey]).engine.rollLine = some true ∧ (pressed [ownKey]).engine.rollRiseTaken = true
      ∧ (pressed [ownKey]).engine.Sound ∧ (pressed [ownKey]).port.Sound ∧ (pressed [ownKey]).engine.takeState = .rolling
      ∧ ownKey ∈ (pressed [ownKey]).engine.holders ∧ (∀ h ∈ (pressed [ownKey]).engine.holders, h.origin = 5)
      ∧ (pressed [ownKey]).link.station = 5 ∧ (pressed [ownKey]).engine.ownRoll = 1
      ∧ (pressed [ownKey]).engine.openTake = some 1 ∧ (pressed [ownKey]).entryOf 1 = some entry1
      ∧ (pressed [ownKey]).media.profile = some prof := by decide +kernel
theorem witness_RollLineFallCutsLocally_other_cases :
    (pressed [keyA, ownKey]).engine.holders.filter (fun h => h.origin != 5) = [keyA]
      ∧ ownKey ∉ (pressed [keyA]).engine.holders ∧ (pressed [keyA]).engine.Sound
      ∧ ready.engine.rollLine ≠ some true ∧ State.reset.engine.rollLine = none := by decide +kernel
theorem witness_RollLineFallCutsLocally_no_rise_taken :
    ({ ready.engine with rollLine := some true } : Engine).rollLine = some true ∧ ready.engine.rollRiseTaken = false := by
  decide +kernel

theorem witness_TailEndsAtThePendingStop :
    (tailing 1000000).port.Sound ∧ (tailing 1000000).engine.takeState = .tail ∧ (tailing 1000000).engine.openTake = some 1
      ∧ (tailing 1000000).engine.pendingStop = some 1000000 ∧ (tailing 1000000).recordAt 1 = some openRec
      ∧ 1000000 ≤ (tailing 1000000).intake.position ∧ (tailing 1000001).engine.pendingStop = some 1000001
      ∧ (tailing 1000001).intake.position < 1000001 := by decide +kernel

theorem witness_TakeIsSplitAtItsMaximumLength :
    longTake.Coherent ∧ longTake.port.Sound ∧ longTake.engine.openTake = some 1
      ∧ longTake.recordAt 1 = some { openRec with start := 20000000 } ∧ longTake.media.profile = some prof
      ∧ 22880000 = 20000000 + prof.maxLength * 60 * longTake.intake.rate.hz ∧ longTake.engine.takeState = .rolling
      ∧ 22880000 ≤ longTake.intake.position ∧ longTake.writer.queue.length < 3 ∧ longTake.journal.nextIndex ≤ 4096 :=
  ⟨by decide +kernel, by decide +kernel⟩
/-- One frame before the maximum length; a pending stop at it; and a writer queue of three takes. -/
def nearlyLong : State := { longTake with intake := { longTake.intake with position := 22879999 } }
def longTail : State := { longTake with engine := { longTake.engine with takeState := .tail, pendingStop := some 22880000 } }
def longBacklog : State :=
  { longTake with
    engine := { longTake.engine with openTake := some 3 }
    journal := { nextIndex := 4, mirror :=
      [slotOf { openRec with state := .closing, stop := some 990000 }, slotOf { openRec with index := 2, state := .closing, stop := some 990000 },
       slotOf { openRec with index := 3, start := 20000000 }] }
    writer := { longTake.writer with queue := [entry1, { entry1 with index := 2 }, { entry1 with index := 3, next := 22870000 }] } }
theorem witness_TakeIsSplitAtItsMaximumLength_not_due :
    nearlyLong.Coherent ∧ longTail.Coherent ∧ nearlyLong.intake.position < 22880000
      ∧ longTail.engine.pendingStop = some 22880000 :=
  ⟨by decide +kernel, by decide +kernel, by decide +kernel⟩
theorem witness_TakeIsSplitAtItsMaximumLength_refused :
    longBacklog.Coherent ∧ longBacklog.port.Sound ∧ longBacklog.engine.openTake = some 3
      ∧ longBacklog.engine.takeState = .rolling ∧ longBacklog.recordAt 3 = some { openRec with index := 3, start := 20000000 }
      ∧ 22880000 ≤ longBacklog.intake.position ∧ 3 ≤ longBacklog.writer.queue.length :=
  ⟨by decide +kernel, by decide +kernel⟩

/-! #### Markers and notes -/

def markBytes (kind : Byte) : List Byte := [0, 0, 0, 0, 25, 0, 0, 0, 0, 0, kind]
theorem witness_MarkPlacesAMarkerInTheOpenTake :
    rolling.Coherent ∧ rolling.takenFrame .mark (toAll .mark 2 (markBytes 15)) = some (heard .mark (markBytes 15))
      ∧ rolling.port.Sound ∧ rolling.engine.openTake = some 1 ∧ rolling.recordAt 1 = some openRec ∧ markKind (markBytes 15) ≤ 15
      ∧ markTarget (markBytes 15) = none ∧ openRec.markers.length < 16 :=
  ⟨by decide +kernel, by decide +kernel⟩
theorem witness_MarkPlacesAMarkerInTheOpenTake_no_effect :
    ready.Coherent ∧ ready.takenFrame .mark (toAll .mark 2 (markBytes 16)) = some (heard .mark (markBytes 16))
      ∧ ready.port.Sound ∧ ready.engine.openTake = none ∧ 15 < markKind (markBytes 16)
      ∧ rolling.takenFrame .mark (toAll .mark 2 [1, 9, 0, 0, 25, 0, 0, 0, 0, 0, 0]) = some (heard .mark [1, 9, 0, 0, 25, 0, 0, 0, 0, 0, 0])
      ∧ markTarget [1, 9, 0, 0, 25, 0, 0, 0, 0, 0, 0] = some { origin := 9, roll := 0 }
      ∧ ({ origin := 9, roll := 0 } : TakeKey) ∉ openRec.joined
      ∧ ({ origin := 9, roll := 0 } : TakeKey) ∉ rolling.engine.holders :=
  ⟨by decide +kernel, by decide +kernel⟩
/-- A take with 16 markers. -/
def markedRec : Record := { openRec with markers := List.replicate 16 { frame := 1, kind := 0, origin := 2 } }
def marked : State := rollingWith markedRec entry1 [keyA]
theorem witness_MarkPlacesAMarkerInTheOpenTake_full :
    marked.Coherent ∧ marked.takenFrame .mark (toAll .mark 2 (markBytes 0)) = some (heard .mark (markBytes 0))
      ∧ marked.port.Sound ∧ marked.recordAt 1 = some markedRec ∧ 16 ≤ markedRec.markers.length :=
  ⟨by decide +kernel, by decide +kernel⟩

/-- The same, with MARKERS DROPPED set already. -/
def droppedRec : Record := { markedRec with flags := setFlag .markersDropped 0 }
def dropped : State := rollingWith droppedRec entry1 [keyA]
theorem witness_MarkPlacesAMarkerInTheOpenTake_dropped :
    dropped.Coherent ∧ dropped.takenFrame .mark (toAll .mark 2 (markBytes 0)) = some (heard .mark (markBytes 0)) ∧ dropped.port.Sound
      ∧ dropped.recordAt 1 = some droppedRec ∧ 16 ≤ droppedRec.markers.length ∧ hasFlag droppedRec.flags .markersDropped = true
      ∧ hasFlag markedRec.flags .markersDropped = false ∧ dropped.engine.markLine.isSome = true :=
  ⟨by decide +kernel, by decide +kernel⟩

theorem witness_MarkPulseQueuesAMarkAndPlacesIt_edges :
    (∀ edge ∈ [999520, 1000000], rolling.HeldFrom edge) ∧ (∀ edge ∈ [999519, 1000001], ¬ rolling.HeldFrom edge)
      ∧ rolling.engine.markLine.isSome = true := by decide +kernel
theorem witness_MarkPulseQueuesAMarkAndPlacesIt :
    rolling.Coherent ∧ ready.Coherent ∧ State.reset.Coherent ∧ rolling.port.Sound ∧ rolling.engine.markLine.isSome = true
      ∧ rolling.engine.openTake = some 1 ∧ rolling.recordAt 1 = some openRec ∧ openRec.markers.length < 16
      ∧ ready.engine.markLine.isSome = true ∧ ready.engine.openTake = none ∧ State.reset.port.Sound
      ∧ State.reset.engine.markLine = none :=
  ⟨by decide +kernel, by decide +kernel, by decide +kernel, by decide +kernel⟩

/-- A NOTE with scene "A": for the next take, for the last take, for a key. -/
def noteBytes_ (target : Byte) : List Byte := [target, 2, 40, 0, 5, 0, 1, 1, 0x41]
theorem witness_NoteMergesIntoTheSlateItNames_pending :
    ready.takenFrame .note (toAll .note 2 (noteBytes_ 0)) = some (heard .note (noteBytes_ 0))
      ∧ (decodeNote (noteBytes_ 0)).map (·.target) = some .next
      ∧ ready.takenFrame .note (toAll .note 2 (noteBytes_ 3)) = some (heard .note (noteBytes_ 3))
      ∧ decodeNote (noteBytes_ 3) = none := by decide +kernel
theorem fieldMerged_absent {α : Type} {st os : SlateStamp} {old : α} : FieldMerged st none old os old os :=
  ⟨fun _ h => (nomatch h), fun _ => ⟨rfl, rfl⟩⟩
theorem fieldMerged_taken {α : Type} {st os : SlateStamp} {new old : α} (h : st.Beats os) : FieldMerged st (some new) old os new st :=
  ⟨fun _ hv _ => ⟨Option.some.inj hv, rfl⟩, fun hn => hn.elim (fun hv => (nomatch hv)) (fun hb => absurd h hb)⟩
theorem fieldMerged_kept {α : Type} {st os : SlateStamp} {new old : α} (h : ¬ st.Beats os) : FieldMerged st (some new) old os old os :=
  ⟨fun _ _ hb => absurd hb h, fun _ => ⟨rfl, rfl⟩⟩
/-- The NOTE of `noteBytes_`, as it is decoded; its scene is merged into an unset slate. -/
def sceneNote (target : NoteTarget) : Note :=
  { target := target, revision := 5, fields := { scene := some [0x41], number := none, circled := none, disposition := none, text := none } }
def noteStamp : SlateStamp := { revision := 5, station := 2 }
def scenedSlate : Slate := { Slate.unset with scene := [0x41], sceneStamp := noteStamp }
theorem scenedSlate_merged : Slate.unset.Merged noteStamp (sceneNote .next).fields scenedSlate :=
  ⟨fieldMerged_taken (.inl (by decide)), fieldMerged_absent, fieldMerged_absent, fieldMerged_absent, fieldMerged_absent⟩
/-- The same NOTE against a slate whose scene has a newer stamp. -/
def laterSlate : Slate := { Slate.unset with scene := [0x42], sceneStamp := { revision := 5, station := 3 } }
theorem laterSlate_merged : laterSlate.Merged noteStamp (sceneNote .next).fields laterSlate := by
  refine ⟨fieldMerged_kept ?_, fieldMerged_absent, fieldMerged_absent, fieldMerged_absent, fieldMerged_absent⟩
  rintro (h | ⟨-, h⟩) <;> revert h <;> decide
/-- A mirror of one record has no other. -/
theorem recordAt_of_one {s : State} {r : Record} {n : Nat} (h : s.journal.mirror = [slotOf r]) (hr : (s.recordAt n).isSome = true) :
    n = 1 := by
  unfold State.recordAt State.slotAt at hr
  rw [h] at hr
  match n with
  | 0 => cases hr
  | 1 => rfl
  | n + 2 => cases hr
theorem keyedTake_rolling : rolling.KeyedTakeIs keyA (some 1) := by
  intro n
  constructor
  · rintro ⟨⟩
    refine ⟨by decide +kernel, by decide +kernel, ⟨openRec, by decide +kernel, .inl (by decide +kernel)⟩, ?_⟩
    rintro m hm ⟨r, hr, -⟩
    exact absurd (recordAt_of_one (n := m) (s := rolling) rfl (by rw [hr]; rfl)) (Nat.ne_of_gt hm)
  · rintro ⟨-, -, ⟨r, hr, -⟩, -⟩
    rw [recordAt_of_one (n := n) (s := rolling) rfl (by rw [hr]; rfl)]
theorem keyedTake_absent : rolling.KeyedTakeIs keyB none := by
  intro n
  constructor
  · intro h; cases h
  · rintro ⟨-, -, ⟨r, hr, hk⟩, -⟩
    have hn := recordAt_of_one (n := n) (s := rolling) rfl (by rw [hr]; rfl)
    subst hn
    obtain rfl : openRec = r := Option.some.inj ((by decide +kernel : rolling.recordAt 1 = some openRec).symm.trans hr)
    revert hk
    decide +kernel
theorem lastTake_rolling : rolling.LastTakeIs (some 1) := ⟨fun _ h => h, fun h => (nomatch h)⟩
theorem lastTake_ready : ready.LastTakeIs none := by
  refine ⟨fun _ h => (nomatch h), fun _ n => ⟨fun h => (nomatch h), ?_⟩⟩
  rintro ⟨-, -, h1, h2, -⟩
  obtain rfl : 0 = n := Nat.succ.inj h2
  cases h1
theorem witness_NoteMergesIntoTheSlateItNames_take :
    rolling.takenFrame .note (toAll .note 2 (noteBytes_ 2)) = some (heard .note (noteBytes_ 2)) ∧ rolling.port.Sound
      ∧ decodeNote (noteBytes_ 2) = some (sceneNote (.key keyA)) ∧ decodeNote (noteBytes_ 1) = some (sceneNote .last)
      ∧ rolling.engine.Sound ∧ rolling.recordAt 1 = some openRec ∧ openRec.slate = Slate.unset ∧ scenedSlate ≠ openRec.slate := by
  decide +kernel
theorem witness_NoteMergesIntoTheSlateItNames_targets :
    rolling.KeyedTakeIs keyA (some 1) ∧ rolling.KeyedTakeIs keyB none ∧ rolling.LastTakeIs (some 1) ∧ ready.LastTakeIs none
      ∧ Slate.unset.Merged noteStamp (sceneNote .last).fields scenedSlate
      ∧ laterSlate.Merged noteStamp (sceneNote .last).fields laterSlate :=
  ⟨keyedTake_rolling, keyedTake_absent, lastTake_rolling, lastTake_ready, scenedSlate_merged, laterSlate_merged⟩
/-- A closed take on a released card, and a CLOSING take. -/
def releasedCard : State :=
  { settled with media := { settled.media with state := .released }, engine := { settled.engine with takeState := .offline } }
theorem lastTake_releasedCard : releasedCard.LastTakeIs (some 1) := by
  refine ⟨fun _ h => (nomatch h), fun _ n => ⟨?_, ?_⟩⟩
  · rintro ⟨⟩
    decide +kernel
  · rintro ⟨-, -, -, h, -⟩
    exact congrArg some (Nat.succ.inj h)
theorem witness_NoteMergesIntoTheSlateItNames_no_write :
    releasedCard.LastTakeIs (some 1)
      ∧ releasedCard.takenFrame .note (toAll .note 2 (noteBytes_ 1)) = some (heard .note (noteBytes_ 1)) ∧ releasedCard.port.Sound
      ∧ releasedCard.engine.Sound ∧ releasedCard.recordAt 1 = some closedRec ∧ closedRec.slate = Slate.unset
      ∧ releasedCard.canWriteJournal = false ∧ settled.canWriteJournal = true ∧ closedRec.state ≠ .closing :=
  ⟨lastTake_releasedCard, by decide +kernel⟩
/-- A CLOSING take whose journal write waits uncomposed, is a checkpoint, or is its final write. -/
def closingNoted (block : Option (List Byte)) (final : Bool) : State :=
  let op : Op := { id := 1, kind := .journalWrite 1, attempt := 1, block := block, isFinal := final }
  { ready with
    journal := { nextIndex := 2, mirror := [{ slotOf closingRec with inFlight := true }] }
    writer := { ready.writer with queue := [entry1] }
    port := { waiting := [], nextOp := 2, outstanding := [op] } }
theorem lastTake_closingNoted (block : Option (List Byte)) (final : Bool) : (closingNoted block final).LastTakeIs (some 1) := by
  refine ⟨fun _ h => (nomatch h), fun _ n => ⟨?_, ?_⟩⟩
  · rintro ⟨⟩
    exact ⟨nofun, nofun, Nat.le_refl 1, rfl, rfl⟩
  · rintro ⟨-, -, -, h, -⟩
    exact congrArg some (Nat.succ.inj h)
theorem witness_NoteMergesIntoTheSlateItNames_closing :
    (∀ x ∈ [(none, false), (some [], false), (some [], true)], (closingNoted x.1 x.2).canWriteJournal = true
        ∧ (closingNoted x.1 x.2).takenFrame .note (toAll .note 2 (noteBytes_ 1)) = some (heard .note (noteBytes_ 1))
        ∧ (closingNoted x.1 x.2).port.Sound ∧ (closingNoted x.1 x.2).engine.Sound
        ∧ (closingNoted x.1 x.2).recordAt 1 = some closingRec
        ∧ ((closingNoted x.1 x.2).slotAt 1).map (·.amend) = some false)
      ∧ closingRec.state = .closing ∧ closingRec.slate = Slate.unset ∧ scenedSlate ≠ closingRec.slate := by decide +kernel
theorem test_note_of_a_closing_take_asks_no_write :
    [(none, false), (some [], false), (some [], true)].map (fun x =>
        let t := run (.note (toAll .note 2 (noteBytes_ 1))) (closingNoted x.1 x.2)
        ((t.slotAt 1).map (·.amend), t.port.waiting.length + t.port.outstanding.length))
      = [(some false, 1), (some false, 1), (some true, 1)] := by decide +kernel
theorem witness_SlateMergesCommute : ({ revision := 5, station := 2 } : SlateStamp) ≠ { revision := 5, station := 3 } := by decide +kernel

/-! #### The segment writer -/

/-- A current buffer of one block, and the next frame in the ring. -/
def fillSeg : Segment :=
  { oneSegment 0 with sequence := none, tag := none, blocksUsed := 0, writes := [], tapped := false, run := { first := 4097, count := 1 } }
def fillRec : Record := { openRec with start := 970000, extents := [{ first := 4097, count := 1 }] }
def fillEntry : QueueEntry := { entry1 with next := 970000, current := some 0 }
def fillingWith (r : Record) : State :=
  { drawing with
    journal := { nextIndex := 2, mirror := [slotOf r] }
    writer := { queue := [fillEntry], buffers := Vector.ofFn fun i => if i.val = 0 then .used .filling fillSeg else .free } }
def ringFrame : RingFrame := ready.intake.formFrame (mixWords [-3, 5])
theorem mayDraw_rolling {s : State} {e : QueueEntry} {r : Record} {f : RingFrame}
    (h : s.filling = some e ∧ s.entryOf e.index = some e ∧ s.recordAt e.index = some r ∧ s.intake.frameAt e.next = some f)
    (hr : r.state = .opened ∧ e.next + s.intake.rate.hz / 2 < s.intake.position) (ht : s.engine.takeState = .rolling) :
    s.MayDraw e r f := by
  unfold State.MayDraw
  exact ⟨h.1, h.2.1, h.2.2.1, h.2.2.2, .inl ⟨hr.1, hr.2, .inl ht⟩⟩
theorem mayDraw_tail {s : State} {e : QueueEntry} {r : Record} {f : RingFrame} (stop : Nat)
    (h : s.filling = some e ∧ s.entryOf e.index = some e ∧ s.recordAt e.index = some r ∧ s.intake.frameAt e.next = some f)
    (hr : r.state = .opened ∧ e.next + s.intake.rate.hz / 2 < s.intake.position)
    (ht : s.engine.takeState = .tail ∧ s.engine.pendingStop = some stop ∧ e.next < stop) : s.MayDraw e r f := by
  unfold State.MayDraw
  exact ⟨h.1, h.2.1, h.2.2.1, h.2.2.2, .inl ⟨hr.1, hr.2, .inr ⟨stop, ht⟩⟩⟩
theorem mayDraw_closing {s : State} {e : QueueEntry} {r : Record} {f : RingFrame} (stop : Nat)
    (h : s.filling = some e ∧ s.entryOf e.index = some e ∧ s.recordAt e.index = some r ∧ s.intake.frameAt e.next = some f)
    (hr : r.state = .closing ∧ r.stop = some stop ∧ e.next < stop) : s.MayDraw e r f := by
  unfold State.MayDraw
  exact ⟨h.1, h.2.1, h.2.2.1, h.2.2.2, .inr ⟨hr.1, stop, hr.2⟩⟩

/-- Take `n` has drawn its frames up to `next`; of its last two blocks its current buffer has used one, or it has no such buffer. -/
def stopSeg (n : Nat) : Segment := { fillSeg with take := n, run := { first := 4097, count := 2 } }
def drawnTo (n next : Nat) (buffered : Bool) (s : State) : State :=
  let s := (s.modifyRecord n fun r => { r with extents := if buffered then [{ first := 4097, count := 2 }] else [] }).modifyEntry n
    fun e => { e with next := next, current := if buffered then some 0 else none }
  { s with writer := { s.writer with
      buffers := Vector.ofFn fun i => if i.val = 0 ∧ buffered = true then .used .filling (stopSeg n) else .free } }
/-- What State.EndsDrawing asks of a take that has a current buffer with unused blocks, and of one that has none. -/
abbrev SealsAtItsStop (s : State) (n : Nat) : Prop :=
  (s.entryOf n).map (fun e => (e.index, e.current)) = some (n, some 0) ∧ s.buffer 0 = .used .filling (stopSeg n)
    ∧ (stopSeg n).take = n ∧ (∀ x ∈ s.writer.queue, x.current = some 0 → x.index = n)
    ∧ ((stopSeg n).data.length + 4095) / 4096 < (stopSeg n).run.count
    ∧ (s.recordAt n).map (·.extents) = some ([] ++ [{ first := 4097, count := 2 }])
abbrev FinishesAtItsStop (s : State) (n : Nat) : Prop :=
  (s.entryOf n).map (fun e => (e.index, e.current)) = some (n, none)
    ∧ (s.entryOf n).map (·.sealedSegs) = (s.entryOf n).map (·.completed)
    ∧ (s.slotAt n).map (fun sl => (sl.held, sl.inFlight)) = some (false, false)
/-- The stop lies at the take's next-needed frame. -/
theorem witness_StoreChargesEveryTakeThatFellBehind_at_the_stop :
    (∀ b ∈ [true, false], (drawnTo 1 1000000 b (behindClosing 1000001 1000000)).settleDue.QueueSound
        ∧ (drawnTo 1 1000000 b (behindClosing 1000001 1000000)).settleDue.port.Sound
        ∧ (drawnTo 1 1000000 b (behindClosing 1000001 1000000)).settleDue.intake.clock = .running
        ∧ ((drawnTo 1 1000000 b (behindClosing 1000001 1000000)).settleDue.entryOf 1).map (·.next) = some 1000000)
      ∧ SealsAtItsStop (drawnTo 1 1000000 true (behindClosing 1000001 1000000)).settleDue 1
      ∧ FinishesAtItsStop (drawnTo 1 1000000 false (behindClosing 1000001 1000000)).settleDue 1 :=
  ⟨by decide +kernel, by decide +kernel⟩
theorem test_charge_at_the_stop_seals_the_last_buffer :
    let t := run (.frameStore 20833333 (mixWords [])) (drawnTo 1 1000000 true (behindClosing 1000001 1000000))
    (t.recordAt 1).map (·.extents) = some [{ first := 4097, count := 1 }]
      ∧ t.port.outstanding.map (·.kind) = [.segmentWrite 0 0] := by decide +kernel
theorem witness_ClockLossStopsIntakeAndCutsTheTake_at_the_stop :
    (∀ b ∈ [true, false], (drawnTo 1 1000000 b rolling).Coherent)
      ∧ (∀ b ∈ [true, false], (drawnTo 1 1000000 b rolling).port.Sound
        ∧ ((drawnTo 1 1000000 b rolling).entryOf 1).map (·.next) = some 1000000
        ∧ max openRec.start (drawnTo 1 1000000 b rolling).intake.position = 1000000)
      ∧ SealsAtItsStop (drawnTo 1 1000000 true rolling) 1 ∧ FinishesAtItsStop (drawnTo 1 1000000 false rolling) 1
      ∧ (rolling.entryOf 1).map (·.next) = some 900000 :=
  ⟨by decide +kernel, by decide +kernel, by decide +kernel⟩
/-- A profile without post-roll, so that the last holder's cut closes the take. -/
def prompt (s : State) : State := { s with media := { s.media with profile := some { prof with postRoll := 0 } } }
theorem witness_HoldersLeaveByCutOrState_closes :
    (∀ b ∈ [true, false], (drawnTo 1 1000000 b (prompt rolling)).engine.Sound ∧ (drawnTo 1 1000000 b (prompt rolling)).port.Sound
        ∧ (drawnTo 1 1000000 b (prompt rolling)).media.profile = some { prof with postRoll := 0 }
        ∧ ((drawnTo 1 1000000 b (prompt rolling)).entryOf 1).map (·.next) = some 1000000)
      ∧ takeStop .hz48000 0 openRec.start 1000000 = 1000000 ∧ ¬ rolling.intake.position < max 1000000 1000000
      ∧ SealsAtItsStop (drawnTo 1 1000000 true (prompt rolling)) 1 ∧ FinishesAtItsStop (drawnTo 1 1000000 false (prompt rolling)) 1
      ∧ ((prompt rolling).entryOf 1).map (·.next) = some 900000 ∧ ¬ rolling.intake.position < max 1000000 900000 := by decide +kernel
theorem witness_RollLineFallCutsLocally_closes :
    (∀ b ∈ [true, false], (drawnTo 1 1000000 b (prompt (pressed [ownKey]))).engine.Sound
        ∧ (drawnTo 1 1000000 b (prompt (pressed [ownKey]))).port.Sound
        ∧ ((drawnTo 1 1000000 b (prompt (pressed [ownKey]))).entryOf 1).map (·.next) = some 1000000)
      ∧ SealsAtItsStop (drawnTo 1 1000000 true (prompt (pressed [ownKey]))) 1
      ∧ FinishesAtItsStop (drawnTo 1 1000000 false (prompt (pressed [ownKey]))) 1 := by decide +kernel
theorem witness_TailEndsAtThePendingStop_at_the_stop :
    (∀ b ∈ [true, false], (drawnTo 1 1000000 b (tailing 1000000)).port.Sound
        ∧ ((drawnTo 1 1000000 b (tailing 1000000)).entryOf 1).map (·.next) = some 1000000)
      ∧ SealsAtItsStop (drawnTo 1 1000000 true (tailing 1000000)) 1
      ∧ FinishesAtItsStop (drawnTo 1 1000000 false (tailing 1000000)) 1
      ∧ ((tailing 1000000).entryOf 1).map (·.next) = some 900000 := by decide +kernel
theorem witness_TakeIsSplitAtItsMaximumLength_at_the_stop :
    (∀ b ∈ [true, false], (drawnTo 1 22880000 b longTake).Coherent)
      ∧ (∀ b ∈ [true, false], (drawnTo 1 22880000 b longTake).port.Sound
        ∧ ((drawnTo 1 22880000 b longTake).entryOf 1).map (·.next) = some 22880000)
      ∧ SealsAtItsStop (drawnTo 1 22880000 true longTake) 1 ∧ FinishesAtItsStop (drawnTo 1 22880000 false longTake) 1
      ∧ (longTake.entryOf 1).map (·.next) = some 22870000 :=
  ⟨by decide +kernel, by decide +kernel, by decide +kernel⟩
theorem witness_TakeIsSplitAtItsMaximumLength_refused_at_the_stop :
    (∀ b ∈ [true, false], (drawnTo 3 22880000 b longBacklog).Coherent)
      ∧ (∀ b ∈ [true, false], (drawnTo 3 22880000 b longBacklog).port.Sound
        ∧ ((drawnTo 3 22880000 b longBacklog).entryOf 3).map (·.next) = some 22880000)
      ∧ SealsAtItsStop (drawnTo 3 22880000 true longBacklog) 3
      ∧ FinishesAtItsStop (drawnTo 3 22880000 false longBacklog) 3 :=
  ⟨by decide +kernel, by decide +kernel, by decide +kernel⟩

theorem witness_FrameDrawPlacesTheNextNeededFrame :
    (fillingWith fillRec).port.Sound ∧ (fillingWith fillRec).MayDraw fillEntry fillRec ringFrame
      ∧ fillEntry.current = some 0 ∧ (fillingWith fillRec).buffer 0 = .used .filling fillSeg
      ∧ fillSeg.data.length + fillRec.frameBytes ≤ fillSeg.run.count * 4096 ∧ fillRec.GoesOn 970000 :=
  ⟨by decide +kernel, mayDraw_rolling (by decide +kernel) (by decide +kernel) (by decide +kernel), by decide +kernel,
    by decide +kernel, by decide +kernel, .inl (by decide +kernel)⟩
/-- The room of exactly one frame. -/
theorem witness_FrameDrawPlacesTheNextNeededFrame_room : (List.replicate 4084 (0 : Byte)).length + fillRec.frameBytes ≤ 1 * 4096 := by
  rw [List.length_replicate]
  decide
/-- The same in TAIL, one frame before the pending stop; and CLOSING, two frames before the stop. -/
def fillingTail : State :=
  { fillingWith fillRec with engine := { rolling.engine with takeState := .tail, pendingStop := some 970001 } }
def fillRecClosing (stop : Nat) : Record := { fillRec with state := .closing, stop := some stop }
theorem witness_FrameDrawPlacesTheNextNeededFrame_other_states :
    fillingTail.port.Sound ∧ fillingTail.MayDraw fillEntry fillRec ringFrame
      ∧ (fillingWith (fillRecClosing 970002)).MayDraw fillEntry (fillRecClosing 970002) ringFrame
      ∧ (fillRecClosing 970002).GoesOn 970000 :=
  ⟨by decide +kernel, mayDraw_tail 970001 (by decide +kernel) (by decide +kernel) (by decide +kernel),
    mayDraw_closing 970002 (by decide +kernel) (by decide +kernel), .inr ⟨970002, by decide +kernel⟩⟩
/-- The last frame of a CLOSING take. -/
theorem witness_FrameDrawPlacesTheNextNeededFrame_last :
    (fillingWith (fillRecClosing 970001)).port.Sound
      ∧ (fillingWith (fillRecClosing 970001)).MayDraw fillEntry (fillRecClosing 970001) ringFrame
      ∧ (fillRecClosing 970001).state = .closing ∧ (fillRecClosing 970001).stop = some (fillEntry.next + 1)
      ∧ fillSeg.take = fillEntry.index ∧ fillEntry.completed ≤ fillEntry.sealedSegs
      ∧ fillSeg.data ++ (fillRecClosing 970001).trackBytes ringFrame ≠ []
      ∧ (fillRecClosing 970001).extents = [] ++ [{ first := 4097, count := 1 }] ∧ fillSeg.run.count ≤ 1 :=
  ⟨by decide +kernel, mayDraw_closing 970001 (by decide +kernel) (by decide +kernel), by decide +kernel⟩
theorem witness_FrameDrawPlacesTheNextNeededFrame_dropout :
    ({ openRec with notes := [.dropout 3 5 2, .gap 9 1] } : Record).notes = [] ++ DefectNote.dropout 3 5 2 :: [.gap 9 1]
      ∧ [DefectNote.gap 9 1].all (fun x => !x.isDropout 3) = true ∧ 5 + 2 = 7 ∧ openRec.notes.length < 16
      ∧ 16 ≤ ({ openRec with notes := List.replicate 16 (.gap 9 1) } : Record).notes.length := by decide +kernel
/-- A draw that waits: no take; a frame not yet stored, no longer held, held back, or at the pending stop; and no buffer free. -/
def fillingAt (next : Nat) : State :=
  { fillingWith fillRec with writer := { (fillingWith fillRec).writer with queue := [{ fillEntry with next := next }] } }
def noneFree : State :=
  { fillingWith fillRec with
    writer := { queue := [fillEntry], buffers := Vector.replicate 8 (.used .filling { fillSeg with data := List.replicate 4085 0 }) } }
theorem witness_FrameDrawPlacesTheNextNeededFrame_waits :
    ready.port.Sound ∧ ready.filling = none ∧ (∀ w ∈ [1000000, 475711, 976000], (fillingAt w).port.Sound
        ∧ (fillingAt w).filling = some { fillEntry with next := w } ∧ (fillingAt w).recordAt 1 = some fillRec)
      ∧ (fillingAt 1000000).intake.position ≤ 1000000 ∧ 475711 < (fillingAt 475711).intake.oldestHeld
      ∧ (fillingAt 976000).intake.position ≤ 976000 + (fillingAt 976000).intake.rate.hz / 2
      ∧ noneFree.port.Sound ∧ noneFree.filling = some fillEntry ∧ noneFree.recordAt 1 = some fillRec
      ∧ noneFree.room fillEntry < fillRec.frameBytes ∧ ∀ b, b < 8 → noneFree.buffer b ≠ .free := by decide +kernel
theorem witness_FrameDrawPlacesTheNextNeededFrame_waits_at_the_stop :
    ({ fillingTail with engine := { fillingTail.engine with pendingStop := some 970000 } } : State).filling = some fillEntry
      ∧ (970000 : Nat) ≤ fillEntry.next ∧ fillingTail.recordAt 1 = some fillRec ∧ fillRec.state = .opened := by decide +kernel

theorem witness_FrameDrawOpensABuffer :
    drawing.port.Sound
      ∧ drawing.MayDraw { entry1 with next := 970000 } { openRec with start := 970000 } ringFrame
      ∧ drawing.freeBuffer = some 0 ∧ openRec.extents.length < 48
      ∧ (drawing.allocate 32).map (·.1) = some { first := 4097, count := 32 } :=
  ⟨by decide +kernel, mayDraw_rolling (by decide +kernel) (by decide +kernel) (by decide +kernel), by decide +kernel⟩
/-- A CLOSING take that has no buffer yet, at its last frame and two frames before its end. -/
def drawingClosing (stop : Nat) : State :=
  { drawing with
    engine := ready.engine
    journal := { nextIndex := 2, mirror := [slotOf { openRec with start := 970000, state := .closing, stop := some stop }] } }
theorem witness_FrameDrawOpensABuffer_closing (stop : Nat) (h : stop = 970001 ∨ stop = 970002) :
    (drawingClosing stop).port.Sound
      ∧ (drawingClosing stop).MayDraw { entry1 with next := 970000 }
          { openRec with start := 970000, state := .closing, stop := some stop } ringFrame
      ∧ (drawingClosing stop).freeBuffer = some 0 ∧ (drawingClosing stop).engine.openTake ≠ some 1
      ∧ min 32 (((stop - 970000) * openRec.frameBytes + 4095) / 4096) = 1
      ∧ ((drawingClosing stop).allocate 1).map (·.1) = some { first := 4097, count := 1 }
      ∧ (openRec.trackBytes ringFrame).length = openRec.frameBytes ∧ 0 < openRec.frameBytes ∧ entry1.completed ≤ entry1.sealedSegs := by
  rcases h with rfl | rfl
  · exact ⟨by decide +kernel, mayDraw_closing 970001 (by decide +kernel) (by decide +kernel), by decide +kernel⟩
  · exact ⟨by decide +kernel, mayDraw_closing 970002 (by decide +kernel) (by decide +kernel), by decide +kernel⟩
/-- Six bytes of room for a frame of twelve, in a take with these extents. -/
def nearlyFullSeg : Segment := { fillSeg with data := List.replicate 4090 1 }
def crowdedRec (n : Nat) : Record :=
  { fillRec with extents := (List.range n).map fun i => { first := 4097 + 2 * i, count := 1 } }
def crowded (r : Record) (cursor : Nat) : State :=
  { fillingWith r with
    media := { ready.media with cursor := some cursor }
    writer := { queue := [fillEntry], buffers := Vector.ofFn fun i => if i.val = 0 then .used .filling nearlyFullSeg else .free } }
theorem witness_FrameDrawOpensABuffer_later :
    (∀ n ∈ [1, 47], (crowded (crowdedRec n) 5000).recordAt 1 = some (crowdedRec n) ∧ (crowdedRec n).extents.length < 48)
      ∧ (crowded (crowdedRec 1) 5000).port.Sound
      ∧ (crowded (crowdedRec 1) 5000).MayDraw fillEntry (crowdedRec 1) ringFrame ∧ (crowdedRec 1).GoesOn fillEntry.next
      ∧ (crowded (crowdedRec 1) 5000).buffer 0 = .used .filling nearlyFullSeg ∧ nearlyFullSeg.take = 1
      ∧ nearlyFullSeg.data.length + 6 = nearlyFullSeg.run.count * 4096
      ∧ 6 < ((crowdedRec 1).trackBytes ringFrame).length ∧ ((crowdedRec 1).trackBytes ringFrame).length = (crowdedRec 1).frameBytes
      ∧ (crowded (crowdedRec 1) 5000).freeBuffer = some 1
      ∧ ((crowded (crowdedRec 1) 5000).allocate 32).map (·.1) = some { first := 5000, count := 32 } :=
  ⟨by decide +kernel, by decide +kernel, mayDraw_rolling (by decide +kernel) (by decide +kernel) (by decide +kernel),
    .inl (by decide +kernel), rfl, by decide +kernel⟩
/-- The last frame of a CLOSING take, with six bytes of room for it. -/
def crowdedLast : State :=
  let s := crowded { crowdedRec 1 with state := .closing, stop := some 970001 } 5000
  { s with engine := ready.engine }
theorem witness_FrameDrawOpensABuffer_later_last :
    crowdedLast.port.Sound
      ∧ crowdedLast.MayDraw fillEntry { crowdedRec 1 with state := .closing, stop := some 970001 } ringFrame
      ∧ crowdedLast.buffer 0 = .used .filling nearlyFullSeg
      ∧ crowdedLast.freeBuffer = some 1
      ∧ crowdedLast.engine.openTake ≠ some 1 ∧ min 32 (((970001 - 970000) * 12 - 6 + 4095) / 4096) = 1
      ∧ (crowdedLast.allocate 1).map (·.1) = some { first := 5000, count := 1 } ∧ fillEntry.completed ≤ fillEntry.sealedSegs :=
  ⟨by decide +kernel, mayDraw_closing 970001 (by decide +kernel) (by decide +kernel), rfl, by decide +kernel⟩
theorem witness_FrameDrawOpensABuffer_split :
    (crowded (crowdedRec 48) 5000).Coherent ∧ (crowded (crowdedRec 48) 5000).port.Sound
      ∧ (crowded (crowdedRec 48) 5000).MayDraw fillEntry (crowdedRec 48) ringFrame
      ∧ (crowded (crowdedRec 48) 5000).room fillEntry < (crowdedRec 48).frameBytes ∧ 48 ≤ (crowdedRec 48).extents.length
      ∧ (crowded (crowdedRec 48) 5000).engine.openTake = some 1 ∧ (crowded (crowdedRec 48) 5000).writer.queue.length < 3
      ∧ (crowded (crowdedRec 48) 5000).journal.nextIndex ≤ 4096
      ∧ ((crowded (crowdedRec 48) 5000).allocate 32).isSome = true :=
  ⟨by decide +kernel, by decide +kernel, mayDraw_rolling (by decide +kernel) (by decide +kernel) (by decide +kernel),
    by decide +kernel⟩
/-- The same take behind two others, so that a split is refused: the two wait for their buffers to be written. -/
def crowdedBacklog : State :=
  let s := crowded (crowdedRec 48) 5000
  let early (n : Nat) : Record := { openRec with index := n, state := .closing, stop := some 900000 }
  { s with
    engine := { s.engine with openTake := some 3 }
    journal := { nextIndex := 4, mirror := [slotOf (early 1), slotOf (early 2), slotOf { crowdedRec 48 with index := 3 }] }
    writer := {
      queue := [entry1, { entry1 with index := 2 }, { fillEntry with index := 3 }]
      buffers := Vector.ofFn fun i => if i.val = 0 then .used .filling { nearlyFullSeg with take := 3 } else .free } }
theorem witness_FrameDrawOpensABuffer_split_refused :
    crowdedBacklog.Coherent ∧ crowdedBacklog.port.Sound
      ∧ crowdedBacklog.MayDraw { fillEntry with index := 3 } { crowdedRec 48 with index := 3 } ringFrame
      ∧ crowdedBacklog.room { fillEntry with index := 3 } < (crowdedRec 48).frameBytes
      ∧ crowdedBacklog.engine.openTake = some 3 ∧ 3 ≤ crowdedBacklog.writer.queue.length ∧ crowdedBacklog.freeBuffer = some 1 :=
  ⟨by decide +kernel, by decide +kernel, mayDraw_rolling (by decide +kernel) (by decide +kernel) (by decide +kernel),
    by decide +kernel⟩
theorem witness_FrameDrawOpensABuffer_full :
    (crowded (crowdedRec 1) 10000).Coherent ∧ (crowded (crowdedRec 1) 10000).port.Sound
      ∧ (crowded (crowdedRec 1) 10000).MayDraw fillEntry (crowdedRec 1) ringFrame
      ∧ (crowded (crowdedRec 1) 10000).room fillEntry < (crowdedRec 1).frameBytes
      ∧ (crowded (crowdedRec 1) 10000).media.state = .ready
      ∧ ((crowded (crowdedRec 1) 10000).allocate 32).isNone = true :=
  ⟨by decide +kernel, by decide +kernel, mayDraw_rolling (by decide +kernel) (by decide +kernel) (by decide +kernel),
    by decide +kernel⟩
/-- The card is FULL already, and the take being filled is CLOSING. -/
def crowdedFull : State :=
  { crowdedLast with
    media := { crowdedLast.media with state := .full }
    engine := { crowdedLast.engine with takeState := .offline } }
theorem witness_FrameDrawOpensABuffer_already_full :
    crowdedFull.Coherent ∧ crowdedFull.port.Sound
      ∧ crowdedFull.MayDraw fillEntry { crowdedRec 1 with state := .closing, stop := some 970001 } ringFrame
      ∧ crowdedFull.room fillEntry < (crowdedRec 1).frameBytes ∧ crowdedFull.freeBuffer = some 1
      ∧ crowdedFull.media.state = .full ∧ (crowdedFull.allocate 1).isNone = true ∧ crowdedFull.engine.openTake = none :=
  ⟨by decide +kernel, by decide +kernel, mayDraw_closing 970001 (by decide +kernel) (by decide +kernel), by decide +kernel⟩
/-- The takes that are split or cut at the frame to draw seal their full buffers, whose runs have no unused block. -/
theorem witness_FrameDrawOpensABuffer_at_the_stop :
    (∀ s ∈ [crowded (crowdedRec 48) 5000, crowded (crowdedRec 1) 10000, crowdedFull],
        (s.entryOf 1).map (fun e => (e.index, e.current, e.next)) = some (1, some 0, 970000)
        ∧ ∀ x ∈ s.writer.queue, x.current = some 0 → x.index = 1)
      ∧ (∀ x ∈ crowdedBacklog.writer.queue, x.current = some 0 → x.index = 3)
      ∧ nearlyFullSeg.run.count ≤ (nearlyFullSeg.data.length + 4095) / 4096 := by decide +kernel
/-- A CLOSING take with 64 extents, and no open take. -/
def overflowing : State :=
  let s := crowded { crowdedRec 64 with state := .closing, stop := some 970005 } 5000
  { s with engine := { s.engine with takeState := .standby, openTake := none, holders := [] } }
theorem witness_FrameDrawOpensABuffer_overflow :
    overflowing.Coherent ∧ overflowing.port.Sound
      ∧ overflowing.MayDraw fillEntry { crowdedRec 64 with state := .closing, stop := some 970005 } ringFrame
      ∧ overflowing.room fillEntry < (crowdedRec 64).frameBytes ∧ 64 ≤ (crowdedRec 64).extents.length
      ∧ (overflowing.allocate 1).map (·.1) = some { first := 5000, count := 1 }
      ∧ (∀ x ∈ (crowdedRec 64).extents.getLast?, x.first + x.count ≠ 5000) :=
  ⟨by decide +kernel, by decide +kernel, mayDraw_closing 970005 (by decide +kernel) (by decide +kernel), by decide +kernel⟩

theorem witness_AllocationGivesTheLowestGoodRun :
    ready.media.cursor = some 4097 ∧ ready.media.capacity = some 10000 ∧ ready.media.state ≠ .full
      ∧ (ready.allocate 1).map (·.1) = some { first := 4097, count := 1 } := by decide +kernel
/-- The last block of the card is free, a defect, or already given. -/
def lastBlock (defects : List Defect) (cursor : Nat) : State :=
  { ready with media := { ready.media with cursor := some cursor, defects := defects } }
theorem witness_AllocationGivesTheLowestGoodRun_at_the_end :
    ((lastBlock [] 9999).allocate 32).map (·.1) = some { first := 9999, count := 1 }
      ∧ ((lastBlock [{ block := 9999, grown := true }] 9999).allocate 32).isNone = true
      ∧ ((lastBlock [] 10000).allocate 32).isNone = true := by decide +kernel

def twoBlocks : Piece := { first := 4097, count := 2, segBlock := 0, state := .outstanding }
theorem witness_CompletedSegmentExtendsTheDurablePrefix :
    (flying 0).outstandingOp 1 OpKind.isSegmentWrite
        = some { id := 1, kind := .segmentWrite 0 0, attempt := 1, block := none, isFinal := false }
      ∧ (flying 0).buffer 0 = .used .inFlight (oneSegment 0) ∧ (oneSegment 0).orphan = false ∧ (oneSegment 0).writes[0]? = some twoBlocks
      ∧ (flying 0).entryOf 1 = some { entry1 with sealedSegs := 1 } ∧ (oneSegment 0).sequence = some 1
      ∧ ({ entry1 with sealedSegs := 1 } : QueueEntry).durSegs + 1 = 1 ∧ ({ entry1 with sealedSegs := 1 } : QueueEntry).above = [] := by
  decide +kernel
theorem witness_CompletedSegmentExtendsTheDurablePrefix_writes (j : Nat) (p : Piece) (h : (oneSegment 0).writes[j]? = some p)
    (hj : j ≠ 0) : p.state = .completed ∨ p.state = .failed := by
  cases j with
  | zero => exact absurd rfl hj
  | succ j => simp [oneSegment] at h
/-- Segment 2 completes while segment 1 is outstanding. -/
theorem witness_CompletedSegmentExtendsTheDurablePrefix_above :
    ({ oneSegment 0 with sequence := some 2 } : Segment).sequence = some 2 ∧ 2 ≠ entry1.durSegs + 1
      ∧ (∀ x ∈ entry1.above, x.1 ≠ entry1.durSegs + 1) := by decide +kernel

/-- Segments 2, 3 and 5 are completed when segment 1 completes. -/
theorem witness_CompletedSegmentExtendsTheDurablePrefix_joins :
    ([(5, 1), (3, 7), (2, 5)] : List (Nat × Nat)).Perm ([(2, 5), (3, 7)] ++ [(5, 1)])
      ∧ ([(2, 5), (3, 7)] : List (Nat × Nat)).map (·.1) = (List.range 2).map (1 + 1 + ·)
      ∧ ∀ x ∈ ([(5, 1)] : List (Nat × Nat)), 1 + 1 + 2 < x.1 := by decide +kernel
/-- The sixteenth segment; and the only segment of a CLOSING take that is drawn to its stop. -/
def sixteenth : State :=
  { flying 0 with
    writer := { (flying 0).writer with
      queue := [{ entry1 with sealedSegs := 16, completed := 15, durSegs := 15 }]
      buffers := Vector.ofFn fun i => if i.val = 0 then .used .inFlight { oneSegment 0 with sequence := some 16 } else .free } }
def finishing : State :=
  let r := { openRec with state := .closing, stop := some 900000, extents := [{ first := 4097, count := 2 }] }
  { flying 0 with
    engine := { ready.engine with takeState := .standby }
    journal := { nextIndex := 2, mirror := [slotOf r] } }
theorem witness_CompletedSegmentExtendsTheDurablePrefix_writes_due :
    (sixteenth.entryOf 1).map (fun e => (e.completed + 1) % 16) = some 0 ∧ sixteenth.canWriteJournal = true
      ∧ sixteenth.outstandingOp 1 OpKind.isSegmentWrite = (flying 0).outstandingOp 1 OpKind.isSegmentWrite
      ∧ (sixteenth.slotAt 1).map (·.held) = some false ∧ (finishing.slotAt 1).map (·.held) = some false
      ∧ (finishing.recordAt 1).map (fun r => (r.state, r.stop)) = some (.closing, some 900000)
      ∧ (finishing.entryOf 1).map (fun e => (e.next, e.current, e.sealedSegs, e.completed)) = some (900000, none, 1, 0) := by
  decide +kernel
/-- A segment of two rewrite pieces, the first of them outstanding as operation 1, the other as it says; for a take in the queue, or
abandoned. -/
def otherPiece (state : PieceState) : Piece := { first := 4100, count := 1, segBlock := 1, state := state }
def twoPieces (state : PieceState) (orphan : Bool) : Segment :=
  { oneSegment 1 with writes := [{ twoBlocks with count := 1 }, otherPiece state], orphan := orphan }
def rewriting (state : PieceState) (orphan : Bool) : State :=
  { flying 0 with
    writer := { (flying 0).writer with
      buffers := Vector.ofFn fun i => if i.val = 0 then .used .inFlight (twoPieces state orphan) else .free } }
theorem witness_CompletedSegmentExtendsTheDurablePrefix_open_piece :
    ∀ st ∈ [PieceState.waiting, .outstanding], (rewriting st false).buffer 0 = .used .inFlight (twoPieces st false)
      ∧ ((rewriting st false).outstandingOp 1 OpKind.isSegmentWrite).map (·.kind) = some (.segmentWrite 0 0)
      ∧ (twoPieces st false).writes[0]? = some { twoBlocks with count := 1 }
      ∧ (twoPieces st false).writes[1]? = some (otherPiece st) ∧ (rewriting st false).port.waiting = [] := by decide +kernel
/-- A success, or a failure at the piece's own block; with another piece outstanding, or with none. -/
theorem witness_CompletedSegmentExtendsTheDurablePrefix_abandoned :
    ∀ st ∈ [PieceState.completed, .outstanding], (rewriting st true).buffer 0 = .used .inFlight (twoPieces st true)
      ∧ ((rewriting st true).outstandingOp 1 OpKind.isSegmentWrite).map (·.kind) = some (.segmentWrite 0 0)
      ∧ (twoPieces st true).orphan = true ∧ (twoPieces st true).writes[0]? = some { twoBlocks with count := 1 }
      ∧ (twoPieces st true).writes[1]? = some (otherPiece st)
      ∧ (∀ outcome ∈ [none, some 4097], ∀ bad ∈ outcome, 4097 ≤ bad ∧ bad < 4097 + 1) := by decide +kernel
/-- R143, R127: the failure of an abandoned take's write leaves the failure count. -/
theorem test_abandoned_failure_counts_toward_nothing :
    (match (run (.segmentWriteComplete 1 (some 4097)) (rewriting .outstanding true)).buffer 0 with
      | .free => none | .used _ seg => some seg.failures) = some 1 := by decide +kernel
theorem test_abandoned_write_frees_its_buffer_at_the_last :
    (run (.segmentWriteComplete 1 (some 4097)) (rewriting .completed true)).buffer 0 = .free
      ∧ (run (.segmentWriteComplete 1 none) (rewriting .outstanding true)).buffer 0 ≠ .free
      ∧ (run (.segmentWriteComplete 1 (some 4097)) (rewriting .completed true)).media.defects = [] := by decide +kernel

theorem answersRuns_nil {left : Nat} {s : State} : State.AnswersRuns left [] left s s := ⟨rfl, rfl⟩
theorem answersRuns_cons {left : Nat} {run : Extent} {rest : List Extent} {uncovered : Nat} {t s : State} (s' : State)
    (h : 0 < left ∧ s.allocate left = some (run, s')) (hr : State.AnswersRuns (left - run.count) rest uncovered t s') :
    State.AnswersRuns left (run :: rest) uncovered t s :=
  ⟨h.1, s', h.2, hr⟩
/-- The cursor has moved on. -/
def cursorAt (cursor : Nat) (s : State) : State := { s with media := { s.media with cursor := some cursor } }
/-- The extents of a take that a failed write, in the first of them, is cut out of. -/
def extentsWith (x : Extent) (others : Nat) : List Extent := x :: (List.range others).map fun i => { first := 4200 + 2 * i, count := 1 }
/-- A failure of operation 1, the first write of a buffer's segment, in the first extent of take 1. -/
abbrev FailsAt (s : State) (bad : Nat) (seg : Segment) (p : Piece) (x : Extent) (others : Nat) : Prop :=
  s.outstandingOp 1 OpKind.isSegmentWrite = some { id := 1, kind := .segmentWrite 0 0, attempt := 1, block := none, isFinal := false }
    ∧ s.buffer 0 = .used .inFlight seg ∧ seg.take = 1 ∧ seg.orphan = false ∧ seg.failures < 3 ∧ seg.writes[0]? = some p
    ∧ p.first ≤ bad ∧ bad ≤ p.first + p.count - 1 ∧ (s.media.state = .ready ∨ s.media.state = .full)
    ∧ p.first + p.count - bad ≤ 32 ∧ (s.recordAt 1).map (·.extents) = some (extentsWith x others) ∧ x.first ≤ bad
    ∧ p.first + p.count ≤ x.first + x.count
def twoExtent : Extent := { first := 4097, count := 2 }

/-- One block is remapped to one run, and two to one run before a defect and one after it. -/
theorem witness_FailedSegmentIsRemapped :
    FailsAt (flying 2) 4098 (oneSegment 2) twoBlocks twoExtent 0
      ∧ State.AnswersRuns 1 [{ first := 4099, count := 1 }] 0 (cursorAt 4100 ((flying 2).grown 4098)) ((flying 2).grown 4098)
      ∧ (flying 2).port.Sound ∧ (flying 2).canWriteJournal = true ∧ (flying 2).media.defects = [] ++ [] :=
  ⟨by decide +kernel, answersRuns_cons _ (by decide +kernel) answersRuns_nil, by decide +kernel⟩
/-- With a defect that stops the first run. -/
def defective : State := { flying 0 with media := { (flying 0).media with defects := [{ block := 4100, grown := false }] } }
theorem witness_FailedSegmentIsRemapped_several_runs :
    FailsAt defective 4097 (oneSegment 0) twoBlocks twoExtent 0
      ∧ State.AnswersRuns 2 [{ first := 4099, count := 1 }, { first := 4101, count := 1 }] 0
          (cursorAt 4102 (defective.grown 4097)) (defective.grown 4097)
      ∧ defective.media.defects = [] ++ [{ block := 4100, grown := false }] ∧ (∀ d ∈ defective.media.defects, 4097 < d.block) :=
  ⟨by decide +kernel, answersRuns_cons (cursorAt 4100 (defective.grown 4097)) (by decide +kernel)
    (answersRuns_cons _ (by decide +kernel) answersRuns_nil), by decide +kernel⟩
/-- A full list, with and without DEFECTS OVERFLOWED; a header write that is granted; and a card that takes no journal write. -/
def fullList (overflowed : Bool) : State :=
  { flying 0 with media := { (flying 0).media with
      overflowed := overflowed, defects := (List.range 480).map fun i => { block := 6000 + i, grown := false } } }
def flyingWithHeader : State :=
  { flying 0 with
    media := { (flying 0).media with headerInFlight := true }
    port := { (flying 0).port with nextOp := 3, outstanding := (flying 0).port.outstanding
      ++ [{ id := 2, kind := .headerWrite, attempt := 1, block := some [], isFinal := false }] } }
def flyingReleased : State := { flying 0 with verify := releasing.verify }
theorem witness_FailedSegmentIsRemapped_header :
    (∀ s ∈ [fullList false, fullList true, flyingWithHeader, flyingReleased], FailsAt s 4098 (oneSegment 0) twoBlocks twoExtent 0)
      ∧ (∀ o ∈ [false, true], (fullList o).port.Sound ∧ (fullList o).canWriteJournal = true ∧ (fullList o).media.overflowed = o
        ∧ (fullList o).media.defects.length = 480 ∧ ∀ d ∈ (fullList o).media.defects, d.block ≠ 4098)
      ∧ flyingWithHeader.port.Sound ∧ flyingWithHeader.canWriteJournal = true ∧ flyingWithHeader.media.headerInFlight = true
      ∧ flyingReleased.canWriteJournal = false :=
  ⟨by decide +kernel, by decide +kernel, by decide +kernel⟩
theorem witness_FailedSegmentIsRemapped_header_runs (s : State) : State.AnswersRuns 1 [] 1 (s.grown 4098) (s.grown 4098) := answersRuns_nil
theorem test_full_list_sets_defects_overflowed :
    let t := run (.segmentWriteComplete 1 (some 4098)) (fullList false)
    t.media.overflowed = true ∧ t.media.defects.length = 480 ∧ t.media.headerInFlight = true
      ∧ (run (.segmentWriteComplete 1 (some 4098)) (fullList true)).media.headerInFlight = false := by decide +kernel

/-- R139, R143: the run answered before the answer FULL stays in the list of the abandoned take. -/
theorem test_full_keeps_the_runs_answered :
    let t := run (.segmentWriteComplete 1 (some 4097)) { flying 0 with media := { (flying 0).media with cursor := some 9999 } }
    t.media.state = .full ∧ (t.recordAt 1).map (·.state) = some .interrupted
      ∧ (t.recordAt 1).map (·.extents) = some [{ first := 9999, count := 1 }] := by decide +kernel
/-- No block is left, or one of the two asked. -/
def lastBlocks (cursor : Nat) : State := { flying 0 with media := { (flying 0).media with cursor := some cursor } }
theorem witness_FailedSegmentIsRemapped_full :
    (∀ c ∈ [9999, 10000], (lastBlocks c).Coherent ∧ (lastBlocks c).entryOf 1 = some { entry1 with sealedSegs := 1 })
      ∧ (∀ c ∈ [9999, 10000], FailsAt (lastBlocks c) 4097 (oneSegment 0) twoBlocks twoExtent 0)
      ∧ ((lastBlocks 10000).grown 4097).allocate 2 = none
      ∧ State.AnswersRuns 2 [{ first := 9999, count := 1 }] 1 (cursorAt 10000 ((lastBlocks 9999).grown 4097)) ((lastBlocks 9999).grown 4097)
      ∧ (cursorAt 10000 ((lastBlocks 9999).grown 4097)).allocate 1 = none :=
  ⟨by decide +kernel, by decide +kernel, by decide +kernel, answersRuns_cons _ (by decide +kernel) answersRuns_nil, by decide +kernel⟩
/-- A CLOSING take waits for its segment, with takes behind it that still draw; and the same on a FULL card. -/
def remapQueue : State :=
  { flying 0 with
    engine := { (flying 0).engine with openTake := some 3 }
    media := { (flying 0).media with cursor := some 10000 }
    journal := { nextIndex := 4, mirror :=
      [slotOf { openRec with state := .closing, stop := some 900000, extents := [twoExtent] },
       slotOf { openRec with index := 2, state := .closing, stop := some 970005 }, slotOf { openRec with index := 3 }] }
    writer := { (flying 0).writer with queue :=
      [{ entry1 with sealedSegs := 1 }, { entry1 with index := 2, next := 960000 }, { entry1 with index := 3, next := 970005 }] } }
def remapOnFull : State :=
  { finishing with media := { finishing.media with state := .full }, engine := { finishing.engine with takeState := .offline } }
theorem witness_FailedSegmentIsRemapped_full_others :
    remapQueue.Coherent ∧ FailsAt remapQueue 4097 (oneSegment 0) twoBlocks twoExtent 0 ∧ remapQueue.media.state = .ready
      ∧ remapQueue.filling = some { entry1 with index := 2, next := 960000 } ∧ (remapQueue.grown 4097).allocate 2 = none
      ∧ remapOnFull.Coherent ∧ FailsAt remapOnFull 4097 (oneSegment 0) twoBlocks twoExtent 0 ∧ remapOnFull.media.state = .full
      ∧ (remapOnFull.grown 4097).allocate 2 = none :=
  ⟨by decide +kernel, by decide +kernel, by decide +kernel, by decide +kernel, by decide +kernel, by decide +kernel, by decide +kernel⟩

/-- Take 1 has 64 extents, of which the first holds a segment of one block: the open take, or a CLOSING one. -/
def threeExtent : Extent := { first := 4097, count := 3 }
def blockSeg : Segment :=
  { oneSegment 0 with
    run := { first := 4098, count := 1 }, blocksUsed := 1
    writes := [{ first := 4098, count := 1, segBlock := 0, state := .outstanding }] }
def blockPiece : Piece := { first := 4098, count := 1, segBlock := 0, state := .outstanding }
def overflowingRemap (x : Extent) : State :=
  { flying 0 with
    media := { (flying 0).media with cursor := some 5000 }
    journal := { nextIndex := 2, mirror := [slotOf { openRec with extents := extentsWith x 63 }] }
    writer := {
      queue := [{ entry1 with sealedSegs := 1 }]
      buffers := Vector.ofFn fun i => if i.val = 0 then .used .inFlight blockSeg else .free } }
def overflowingClosing (x : Extent) : State :=
  let s := overflowingRemap x
  { s with
    engine := ready.engine
    journal := { nextIndex := 2, mirror :=
      [slotOf { openRec with extents := extentsWith x 63, state := .closing, stop := some 900000 }] } }
/-- The tail does not fit: a block from the middle of three leaves 65 extents. A run does not fit: the second of two leaves 64. -/
theorem witness_FailedSegmentIsRemapped_overflow :
    (∀ x ∈ [threeExtent, twoExtent], (overflowingRemap x).Coherent ∧ (overflowingRemap x).engine.openTake = some 1)
      ∧ (∀ x ∈ [threeExtent, twoExtent], (overflowingClosing x).Coherent ∧ (overflowingClosing x).engine.openTake ≠ some 1)
      ∧ (∀ x ∈ [threeExtent, twoExtent], ∀ s ∈ [overflowingRemap x, overflowingClosing x], FailsAt s 4098 blockSeg blockPiece x 63)
      ∧ ∀ x ∈ [threeExtent, twoExtent],
        (((overflowingRemap x).grown 4098).allocate 1).map (·.1) = some { first := 5000, count := 1 } :=
  ⟨by decide +kernel, by decide +kernel, by decide +kernel, by decide +kernel⟩
/-- R139, R141: both ends are met, and the list takes no run. -/
theorem test_extent_overflow_at_a_remap :
    ∀ x ∈ [threeExtent, twoExtent],
      let t := run (.segmentWriteComplete 1 (some 4098)) (overflowingRemap x)
      (t.recordAt 1).map (fun r => (r.state, hasFlag r.flags .extentOverflow, r.extents.length)) = some (.interrupted, true, 64)
        ∧ t.engine.takeState = .standby
        ∧ t.media.cursor = (if x = twoExtent then some 5001 else some 5000) := by decide +kernel

theorem witness_FourthWriteFailureFaultsTheMedia :
    (flying 3).Coherent ∧ (flying 3).media.state ≠ .faulted ∧ (flying 3).buffer 0 = .used .inFlight (oneSegment 3)
      ∧ 3 ≤ (oneSegment 3).failures
      ∧ (oneSegment 3).writes[0]? = some { first := 4097, count := 2, segBlock := 0, state := .outstanding }
      ∧ (flying 3).outstandingOp 1 OpKind.isSegmentWrite = some { id := 1, kind := .segmentWrite 0 0, attempt := 1, block := none, isFinal := false } :=
  ⟨by decide +kernel, by decide +kernel⟩
/-- The journal write of slot 1 as operation 1, at an attempt. -/
def writingAt (attempt : Nat) (amend : Bool) : State := withOps [(.journalWrite 1, attempt, some [])]
  { settled with journal := { nextIndex := 2, mirror := [{ slotOf closedRec with inFlight := true, amend := amend }] } }
def journalOp (attempt : Nat) : Op := { id := 1, kind := .journalWrite 1, attempt := attempt, block := some [], isFinal := false }
theorem witness_FourthWriteFailureFaultsTheMedia_journal :
    (writingAt 4 false).Coherent ∧ (writingAt 4 false).media.state ≠ .faulted
      ∧ (writingAt 4 false).outstandingOp 1 OpKind.isJournalWrite = some (journalOp 4) :=
  ⟨by decide +kernel, by decide +kernel⟩

/-! #### The journal -/

theorem witness_JournalWriteCompletesAndTheNextIsAsked :
    (writingAt 1 false).outstandingOp 1 OpKind.isJournalWrite = some (journalOp 1)
      ∧ (writingAt 1 false).slotAt 1 = some { slotOf closedRec with inFlight := true, amend := false }
      ∧ (writingAt 1 true).slotAt 1 = some { slotOf closedRec with inFlight := true, amend := true }
      ∧ (writingAt 1 true).canWriteJournal = true ∧ (writingAt 3 false).outstandingOp 1 OpKind.isJournalWrite = some (journalOp 3)
      ∧ (writingAt 3 false).media.state ≠ .faulted ∧ (journalOp 3).block.isSome = true := by decide +kernel
/-- The final write of a CLOSING take. -/
def finalWriting : State :=
  { ready with
    journal := { nextIndex := 2, mirror := [{ slotOf closingRec with inFlight := true }] }
    writer := { ready.writer with queue := [entry1] }
    port := { waiting := [], nextOp := 2, outstanding := [{ journalOp 1 with isFinal := true }] } }
theorem witness_JournalWriteCompletesAndTheNextIsAsked_final :
    finalWriting.outstandingOp 1 OpKind.isJournalWrite = some { journalOp 1 with isFinal := true }
      ∧ (finalWriting.slotAt 1).map (·.amend) = some false
      ∧ (finalWriting.recordAt 1).map (·.state) = some .closing := by decide +kernel
theorem witness_JournalWriteCompletesAndTheNextIsAsked_deferred :
    (holding.slotAt 2).map (·.held) = some true ∧ (holding.slotAt 2).map (·.inFlight) = some false
      ∧ holding.provisionalHeld 2 = false ∧ (holding.slotAt 1).map (·.held) = some false ∧ holding.canWriteJournal = true
      ∧ settled.slotAt 1 = some (slotOf closedRec) ∧ (slotOf closedRec).held = false := by decide +kernel

/-- R85, R120: the journal write of a waiting checkpoint is composed at its grant; a segment write waits behind it. -/
def granting (r : Record) (phase : BufferPhase) (seg : Segment) : State :=
  { rollingWith r { entry1 with sealedSegs := 1 } [keyA] with
    writer := {
      queue := [{ entry1 with sealedSegs := 1, durSegs := 1, durBytes := 3 }]
      buffers := Vector.ofFn fun i => if i.val = 0 then .used phase seg else .free }
    port := { nextOp := 3, outstanding := [], waiting :=
      [{ id := 1, kind := .segmentWrite 0 0, attempt := 1, block := none, isFinal := false },
       { id := 2, kind := .journalWrite 1, attempt := 1, block := none, isFinal := false }] } }
theorem test_grant_takes_the_lowest_class :
    let s := granting { openRec with extents := [{ first := 4097, count := 2 }] } .ready { oneSegment 0 with tapped := false }
    s.grantOne.port.outstanding.map (·.kind) = [.journalWrite 1] ∧ s.grantOne.grantOne.port.outstanding.map (·.id) = [2, 1]
      ∧ (s.grantOne.entryOf 1).map (·.digest) = some entry1.digest
      ∧ (s.grantOne.grantOne.entryOf 1).map (·.digest) = some (.running (crc32Feed crc32Init [1, 2, 3])) := by decide +kernel
theorem witness_JournalWriteCompletesAndTheNextIsAsked_grant :
    let s := granting { openRec with extents := [{ first := 4097, count := 2 }] } .ready { oneSegment 0 with tapped := false }
    s.port.outstanding.length < 4 ∧ (s.port.waiting.map (·.id)).Nodup
      ∧ s.port.waiting = [{ id := 1, kind := .segmentWrite 0 0, attempt := 1, block := none, isFinal := false }]
          ++ { id := 2, kind := .journalWrite 1, attempt := 1, block := none, isFinal := false } :: []
      ∧ (OpKind.journalWrite 1).priority < (OpKind.segmentWrite 0 0).priority
      ∧ s.grantOne.port.waiting = [] ++ { id := 1, kind := .segmentWrite 0 0, attempt := 1, block := none, isFinal := false } :: []
      ∧ s.grantOne.buffer 0 = .used .ready { oneSegment 0 with tapped := false } ∧ (s.grantOne.entryOf 1).isSome = true
      ∧ ready.port.waiting = [] := by decide +kernel
/-- The final write of a CLOSING take completes with an amendment pending; an amendment is pending on a FAULTED card. -/
def finalAmending : State :=
  { finalWriting with journal := { finalWriting.journal with mirror := finalWriting.journal.mirror.map fun sl => { sl with amend := true } } }
def faultedWriting (attempt : Nat) (amend : Bool) : State :=
  { writingAt attempt amend with
    media := { settled.media with state := .faulted }, engine := { settled.engine with takeState := .offline } }
theorem test_amendment_on_a_faulted_card_is_unsaved :
    let t := run (.journalWriteComplete 1 true) (faultedWriting 1 true)
    (t.recordAt 1).map (fun r => hasFlag r.flags .unsaved) = some true ∧ t.port.outstanding = [] := by decide +kernel
theorem witness_JournalWriteCompletesAndTheNextIsAsked_amendments :
    finalAmending.outstandingOp 1 OpKind.isJournalWrite = some { journalOp 1 with isFinal := true }
      ∧ (finalAmending.slotAt 1).map (fun sl => (sl.amend, sl.held)) = some (true, false) ∧ finalAmending.canWriteJournal = true
      ∧ (finalAmending.recordAt 1).map (·.state) = some .closing
      ∧ (faultedWriting 1 true).outstandingOp 1 OpKind.isJournalWrite = some (journalOp 1)
      ∧ ((faultedWriting 1 true).slotAt 1).map (·.amend) = some true ∧ (faultedWriting 1 true).canWriteJournal = false := by
  decide +kernel

/-! #### The media manager -/

theorem witness_CardInsertionAndRemoval : station.media.state = .absent ∧ ready.media.state ≠ .absent := by decide +kernel

theorem witness_SizeReadSetsTheCapacity :
    sizing.Coherent ∧ sizing.media.mount = .sizing
      ∧ sizing.outstandingOp 1 OpKind.isSizeRead = some { id := 1, kind := .sizeRead, attempt := 1, block := none, isFinal := false } :=
  ⟨by decide +kernel, by decide +kernel⟩
/-- The fourth size read. -/
theorem witness_SizeReadSetsTheCapacity_fourth :
    (withOps [(.sizeRead, 4, none)] sizing).Coherent
      ∧ (withOps [(.sizeRead, 4, none)] sizing).outstandingOp 1 OpKind.isSizeRead = some { id := 1, kind := .sizeRead, attempt := 4, block := none, isFinal := false } :=
  ⟨by decide +kernel, by decide +kernel⟩

def header7 : Header := { generation := 7, profile := prof, overflowed := false, defects := [] }
/-- The header block of a card of generation 7 is read as that header. -/
theorem test_header_reads_back : decodeHeader 10000 (headerBlock header7) = some header7 := by
  have hc : checkMatches (headerBlock header7) = true := checkMatches_withCheck _ (by decide +kernel)
  have hd : decodeHeader 10000 (headerBlock header7)
      = if checkMatches (headerBlock header7) = true then some header7 else none := by
    unfold decodeHeader
    generalize checkMatches (headerBlock header7) = b
    revert b
    decide +kernel
  rw [hd, if_pos hc]
theorem witness_HeaderReadLoadsTheProfile :
    heading.Coherent ∧ heading.media.mount = .header ∧ heading.media.capacity = some 10000
      ∧ heading.outstandingOp 1 OpKind.isHeaderRead = some { id := 1, kind := .headerRead, attempt := 1, block := none, isFinal := false }
      ∧ decodeHeader 10000 [] = none :=
  ⟨by decide +kernel, by decide +kernel⟩
/-- The header is that of the rate in use, or of another, with the clock LOST or RUNNING. -/
theorem witness_HeaderReadLoadsTheProfile_valid :
    decodeHeader (heading.media.capacity.getD 0) (headerBlock header7) = some header7
      ∧ heading.intake.clock = .lost ∧ heading.intake.rate = header7.profile.rate
      ∧ (∀ r ∈ [SampleRate.hz48000, .hz96000], (headingAt r).Coherent)
      ∧ (∀ r ∈ [SampleRate.hz48000, .hz96000], (headingAt r).media.mount = .header
          ∧ ((headingAt r).outstandingOp 1 OpKind.isHeaderRead).map (·.kind) = some .headerRead
          ∧ (headingAt r).media.capacity = some 10000 ∧ (headingAt r).intake.clock = .running)
      ∧ (headingAt .hz96000).intake.rate ≠ header7.profile.rate :=
  ⟨test_header_reads_back, by decide +kernel, by decide +kernel, by decide +kernel, by decide +kernel, by decide +kernel⟩
theorem witness_HeaderReadLoadsTheProfile_fourth :
    (withOps [(.headerRead, 4, none)] heading).Coherent
      ∧ (withOps [(.headerRead, 4, none)] heading).outstandingOp 1 OpKind.isHeaderRead = some { id := 1, kind := .headerRead, attempt := 4, block := none, isFinal := false } :=
  ⟨by decide +kernel, by decide +kernel⟩

/-- The closed take as take 2. -/
def secondRec : Record := { closedRec with index := 2 }
/-- The journal block of a closed take is read as that take's record. -/
theorem test_record_reads_back : classifySlot 10000 7 2 (some (recordBlock secondRec)) = .record secondRec := by
  have hc : checkMatches (recordBlock secondRec) = true := checkMatches_withCheck _ (by decide +kernel)
  have hd : decodeRecord 10000 (recordBlock secondRec)
      = if checkMatches (recordBlock secondRec) = true then some secondRec else none := by
    unfold decodeRecord
    generalize checkMatches (recordBlock secondRec) = b
    revert b
    decide +kernel
  have hb : blankBlock (recordBlock secondRec) = false := by decide +kernel
  rw [if_pos hc] at hd
  simp only [classifySlot, hb, hd]
  decide +kernel
theorem witness_SlotReadGoesOnOrEndsTheScan :
    scanning.Coherent ∧ scanning.media.mount = .scan 1 32 0 []
      ∧ scanning.outstandingOp 1 OpKind.isSlotRead = some { id := 1, kind := .slotRead 1, attempt := 1, block := none, isFinal := false }
      ∧ scanning.media.capacity = some 10000 ∧ scanning.media.generation = some 7
      ∧ classifySlot 10000 7 1 (some (List.replicate 4096 0)) = .blank ∧ 1 < 32 ∧ 32 ≤ 4096 :=
  ⟨by decide +kernel, by decide +kernel⟩
/-- The scan stands at slot 2 with one record found OPEN. -/
def scanningOpen : State := withOps [(.slotRead 2, 1, none)]
  { scanning with
    journal := { nextIndex := 1, mirror := [slotOf openRec] }
    media := { scanning.media with mount := .scan 2 32 0 [] } }
theorem witness_SlotReadGoesOnOrEndsTheScan_recovers :
    scanningOpen.Coherent ∧ scanningOpen.recordAt 1 = some openRec ∧ openRec.state = .opened
      ∧ hasFlag openRec.flags .unsaved = false ∧ scanningOpen.media.protectMark = false
      ∧ scanningOpen.slotAt 1 = some (slotOf openRec) :=
  ⟨by decide +kernel, by decide +kernel⟩

/-- A scan at slot `next` over a mirror, with one slot read outstanding. -/
def scanAt (next last run slot attempt : Nat) (mirror : List MirrorSlot) (results : List (Nat × Option (List Byte))) : State :=
  withOps [(.slotRead slot, attempt, none)]
    { scanning with
      journal := { nextIndex := 1, mirror := mirror }
      media := { scanning.media with mount := .scan next last run results } }
def slotOp (slot attempt : Nat) : Op := { id := 1, kind := .slotRead slot, attempt := attempt, block := none, isFinal := false }
theorem witness_SlotReadGoesOnOrEndsTheScan_entries :
    (scanAt 2 32 7 2 1 [slotOf closedRec] []).Coherent
      ∧ (scanAt 2 32 7 2 1 [slotOf closedRec] []).outstandingOp 1 OpKind.isSlotRead = some (slotOp 2 1)
      ∧ (scanAt 1 32 0 1 4 [] [(2, some (recordBlock secondRec))]).Coherent
      ∧ (scanAt 1 32 0 1 4 [] [(2, some (recordBlock secondRec))]).outstandingOp 1 OpKind.isSlotRead = some (slotOp 1 4)
      ∧ classifySlot 10000 7 1 none = .unreadable ∧ 0 + 1 < 8 :=
  ⟨by decide +kernel, by decide +kernel, by decide +kernel, by decide +kernel⟩
theorem witness_SlotReadGoesOnOrEndsTheScan_batch_end :
    (scanAt 32 32 0 32 4 (List.replicate 31 (slotOf closedRec)) []).Coherent
      ∧ (scanAt 32 32 0 32 4 (List.replicate 31 (slotOf closedRec)) []).outstandingOp 1 OpKind.isSlotRead = some (slotOp 32 4) :=
  ⟨by decide +kernel, by decide +kernel⟩
theorem witness_SlotReadGoesOnOrEndsTheScan_last_slot :
    (scanAt 4096 4096 0 4096 4 (List.replicate 4095 (slotOf closedRec)) []).Coherent
      ∧ (scanAt 4096 4096 0 4096 4 (List.replicate 4095 (slotOf closedRec)) []).outstandingOp 1 OpKind.isSlotRead = some (slotOp 4096 4) := by
  refine ⟨⟨by decide +kernel, ⟨by decide +kernel, by decide +kernel, fun next h => ?_, by decide +kernel, by decide +kernel⟩,
    by decide +kernel, by decide +kernel⟩, by decide +kernel⟩
  obtain rfl : 4096 = next := Option.some.inj h
  refine ⟨by decide +kernel, by decide +kernel, fun sl hs => ?_⟩
  rw [List.eq_of_mem_replicate (a := slotOf closedRec) (n := 4095) hs]
  rfl
theorem witness_SlotReadGoesOnOrEndsTheScan_eighth_unreadable :
    (scanAt 8 32 7 8 4 (List.replicate 7 gone) []).Coherent
      ∧ (scanAt 8 32 7 8 4 (List.replicate 7 gone) []).outstandingOp 1 OpKind.isSlotRead = some (slotOp 8 4)
      ∧ classifySlot 10000 7 8 none = .unreadable :=
  ⟨by decide +kernel, by decide +kernel⟩
theorem test_eighth_unreadable_ends_the_scan :
    let t := run (.slotReadComplete 1 none) (scanAt 9 32 7 9 4 (slotOf closedRec :: List.replicate 7 gone) [])
    t.media.state = .ready ∧ t.journal.nextIndex = 2 ∧ t.media.cursor = some 4099 := by decide +kernel
theorem witness_SlotReadGoesOnOrEndsTheScan_other_reads :
    (scanAt 1 32 0 3 3 [] []).Coherent ∧ (scanAt 1 32 0 3 3 [] []).outstandingOp 1 OpKind.isSlotRead = some (slotOp 3 3)
      ∧ (scanAt 1 32 0 3 4 [] []).Coherent ∧ (scanAt 1 32 0 3 4 [] []).outstandingOp 1 OpKind.isSlotRead = some (slotOp 3 4)
      ∧ (withOps [(.slotRead 5, 1, none)] ready).media.mount = .none ∧ (withOps [(.slotRead 5, 1, none)] ready).port.waiting = []
      ∧ (withOps [(.slotRead 5, 1, none)] ready).outstandingOp 1 OpKind.isSlotRead = some (slotOp 5 1) :=
  ⟨by decide +kernel, by decide +kernel, by decide +kernel, by decide +kernel⟩

theorem witness_HeaderWriteCompletesOrIsRetried :
    headerWriting.Coherent ∧ headerWriting.media.headerPending = false ∧ headerWriting.media.state ≠ .faulted
      ∧ headerWriting.canWriteJournal = true
      ∧ headerWriting.outstandingOp 1 OpKind.isHeaderWrite = some { id := 1, kind := .headerWrite, attempt := 4, block := some [], isFinal := false }
      ∧ (withOps [(.headerWrite, 3, some [])] headerWriting).outstandingOp 1 OpKind.isHeaderWrite = some { id := 1, kind := .headerWrite, attempt := 3, block := some [], isFinal := false } :=
  ⟨by decide +kernel, by decide +kernel⟩
/-- With another rewrite pending. -/
def headerPending : State := { headerWriting with media := { headerWriting.media with headerPending := true } }
theorem witness_HeaderWriteCompletesOrIsRetried_pending :
    headerPending.Coherent ∧ headerPending.media.headerPending = true ∧ headerPending.canWriteJournal = true :=
  ⟨by decide +kernel, by decide +kernel⟩
/-- The same on a FAULTED card. -/
def headerPendingFaulted : State :=
  { headerPending with
    media := { headerPending.media with state := .faulted }, engine := { headerPending.engine with takeState := .offline } }
theorem witness_HeaderWriteCompletesOrIsRetried_pending_no_write :
    headerPendingFaulted.Coherent ∧ headerPendingFaulted.media.headerPending = true ∧ headerPendingFaulted.canWriteJournal = false
      ∧ (headerPendingFaulted.outstandingOp 1 OpKind.isHeaderWrite).isSome = true :=
  ⟨by decide +kernel, by decide +kernel⟩
theorem test_pending_rewrite_is_given_up_on_a_faulted_card :
    let t := run (.headerWriteComplete 1 true) headerPendingFaulted
    t.media.headerInFlight = false ∧ t.media.headerPending = false ∧ t.port.outstanding = [] := by decide +kernel

theorem witness_TimeoutIsAFailureOfTheOperation :
    (flying 0).port.Sound ∧ (flying 0).port.outstanding.map (·.id) = [1] ∧ (∀ o ∈ (flying 0).port.outstanding, o.id ≠ 2)
      ∧ (flying 0).firstBlockOf 0 0 = 4097 ∧ (flying 0).blockInWrite 0 0 4097 = true := by decide +kernel

theorem witness_PreparationWritesTheHeaderThenSlotOne :
    (preparing .waiting).Coherent ∧ (preparing .waiting).port.Sound ∧ (preparing .waiting).writesPending = false
      ∧ (preparing .waiting).verify.slot = .preparing { station := 9, tag := 1 } (plan .waiting)
      ∧ (withOps [(.journalWrite 1, 1, none)] (preparing .waiting)).writesPending = true
      ∧ (withOps [(.journalWrite 1, 1, none)] (preparing .waiting)).port.Sound :=
  ⟨by decide +kernel, by decide +kernel⟩
theorem witness_PreparationWritesTheHeaderThenSlotOne_header :
    (∀ a ∈ [1, 3, 4],
      (withOps [(.prepareHeader, a, some [])] (preparing .header)).outstandingOp 1 OpKind.isPrepareHeader
        = some { id := 1, kind := .prepareHeader, attempt := a, block := some [], isFinal := false }
      ∧ (withOps [(.prepareHeader, a, some [])] (preparing .header)).Coherent)
      ∧ (preparing .header).media.state ≠ .faulted ∧ (plan .header).phase = .header := by decide +kernel

theorem witness_PreparationAndReleaseComplete :
    (∀ a ∈ [1, 3, 4],
      (withOps [(.prepareZero, a, some [])] (preparing .zero)).outstandingOp 1 OpKind.isPrepareZero
        = some { id := 1, kind := .prepareZero, attempt := a, block := some [], isFinal := false }
      ∧ (withOps [(.prepareZero, a, some [])] (preparing .zero)).Coherent)
      ∧ (preparing .zero).media.state ≠ .faulted ∧ (plan .zero).phase = .zero := by decide +kernel
/-- The profile prepared has another rate than the one in use; and the card was UNPREPARED before. -/
def preparingIn (rate : SampleRate) (state : MediaState) : State := withOps [(.prepareZero, 1, some [])]
  { preparing .zero with
    intake := { ready.intake with rate := rate }
    engine := { ready.engine with takeState := if state = .ready then .standby else .offline }
    media := { ready.media with state := state } }
theorem witness_PreparationAndReleaseComplete_profile :
    (∀ x ∈ [(SampleRate.hz96000, MediaState.ready), (.hz48000, .unprepared)], (preparingIn x.1 x.2).Coherent)
      ∧ (∀ x ∈ [(SampleRate.hz96000, MediaState.ready), (.hz48000, .unprepared)],
        (preparingIn x.1 x.2).verify.slot = .preparing { station := 9, tag := 1 } (plan .zero)
        ∧ ((preparingIn x.1 x.2).outstandingOp 1 OpKind.isPrepareZero).map (·.kind) = some .prepareZero)
      ∧ (preparingIn .hz96000 .ready).intake.clock = .running ∧ (plan .zero).profile.rate ≠ .hz96000 :=
  ⟨by decide +kernel, by decide +kernel⟩
theorem witness_PreparationAndReleaseComplete_release :
    releasing.Coherent ∧ releasing.verify.slot = .releasing { station := 9, tag := 1 } ∧ releasing.writesPending = false
      ∧ releasing.media.state ≠ .released ∧ (withOps [(.journalWrite 1, 1, none)] releasing).writesPending = true :=
  ⟨by decide +kernel, by decide +kernel⟩

/-- A RELEASE MEDIA that waits for a write's fourth attempt, on a card in a state. -/
def releasingIn (state : MediaState) (kind : OpKind) : State := withOps [(kind, 4, some [])]
  { settled with
    verify := releasing.verify
    engine := { settled.engine with takeState := if state = .ready then .standby else .offline }
    media := { settled.media with state := state, headerInFlight := true } }
/-- R119, also on a card that was FAULTED before. -/
theorem test_fourth_failure_ends_a_release :
    ∀ m ∈ [MediaState.ready, .faulted], (reports (run (.journalWriteComplete 1 false) (releasingIn m (.journalWrite 1)))
        = [(.aborted, .none, [6])])
      ∧ reports (run (.headerWriteComplete 1 false) (releasingIn m .headerWrite)) = [(.aborted, .none, [6])] := by decide +kernel
theorem witness_PreparationAndReleaseComplete_aborted :
    ∀ m ∈ [MediaState.ready, .faulted], (releasingIn m (.journalWrite 1)).Coherent
      ∧ (releasingIn m (.journalWrite 1)).verify.slot = .releasing { station := 9, tag := 1 }
      ∧ (releasingIn m (.journalWrite 1)).outstandingOp 1 OpKind.isJournalWrite = some (journalOp 4) := by
  decide +kernel
theorem witness_PreparationAndReleaseComplete_aborted_header :
    ∀ m ∈ [MediaState.ready, .faulted], (releasingIn m .headerWrite).Coherent
      ∧ (releasingIn m .headerWrite).outstandingOp 1 OpKind.isHeaderWrite = some { id := 1, kind := .headerWrite, attempt := 4, block := some [], isFinal := false } := by
  decide +kernel

/-! #### The verify unit -/

/-- A verify of six positions, whose window stands at these entries. -/
def windowed (attempt : Nat) (window : List WindowEntry) : State :=
  { withOps [(.verifyRead 0 4097, attempt, none), (.verifyRead 1 4098, 1, none)] settled with
    verify := { verifying.verify with blockCount := 6, positions := 6, length := 24000, window := window
                                      extents := [{ first := 4097, count := 6 }] } }
theorem witness_VerifyReadMovesTheWindow :
    verifying.verify.Sound ∧ verifying.port.Sound ∧ verifying.verify.slot = .verifying { station := 9, tag := 0x1234 } 1
      ∧ verifying.outstandingOp 0 OpKind.isVerifyRead
          = some { id := 0, kind := .verifyRead 0 4097, attempt := 1, block := none, isFinal := false }
      ∧ verifying.verify.window = .outstanding 0 1 :: ([] ++ [.outstanding 1 1])
      ∧ (∀ x ∈ [WindowEntry.outstanding 1 1], x.reads 0 = false ∧ x.ended = false)
      ∧ verifying.verify.cursor + 1 + 0 < verifying.verify.positions := by decide +kernel
/-- The cursor runs on over a held and a given-up position, at the first and at the fourth read. -/
theorem witness_VerifyReadMovesTheWindow_runs_on :
    ∀ a ∈ [1, 4], (windowed a [.outstanding 1 a, .held 2 [7], .givenUp 4, .outstanding 2 1]).verify.Sound
      ∧ (windowed a [.outstanding 1 a, .held 2 [7], .givenUp 4, .outstanding 2 1]).port.Sound
      ∧ (windowed a [.outstanding 1 a, .held 2 [7], .givenUp 4, .outstanding 2 1]).outstandingOp 1 OpKind.isVerifyRead
          = some { id := 1, kind := .verifyRead 0 4097, attempt := a, block := none, isFinal := false }
      ∧ (∀ x ∈ [WindowEntry.held 2 [7], .givenUp 4], x.ended = true) ∧ 0 + 1 + 2 < 6 := by decide +kernel
/-- A position read out of order. -/
theorem witness_VerifyReadMovesTheWindow_out_of_order :
    verifying.outstandingOp 1 OpKind.isVerifyRead
        = some { id := 1, kind := .verifyRead 1 4098, attempt := 1, block := none, isFinal := false }
      ∧ verifying.verify.window = .outstanding 0 1 :: ([] ++ .outstanding 1 1 :: []) ∧ (WindowEntry.outstanding 0 1).ended = false
      ∧ (∀ x ∈ [WindowEntry.outstanding 0 1], x.reads 1 = false) := by decide +kernel
/-- With two positions passed, two come into the window; a failed read, at the cursor and behind it; and the read of an aborted verify. -/
theorem witness_VerifyReadMovesTheWindow_asks :
    (windowed 1 [.outstanding 1 1, .held 2 [7], .outstanding 2 1, .waiting 9 2]).verify.Sound
      ∧ (windowed 1 [.outstanding 1 1, .held 2 [7], .outstanding 2 1, .waiting 9 2]).port.Sound
      ∧ min 4 (6 - (0 + 1 + 1)) = 4 ∧ orderBlock [{ first := 4097, count := 6 }] 4 = some 4101
      ∧ orderBlock [{ first := 4097, count := 6 }] 5 = some 4102 := by decide +kernel
theorem witness_VerifyReadMovesTheWindow_asked_again :
    (∀ a ∈ [1, 3], (windowed a [.outstanding 1 a, .outstanding 2 1, .held 1 [7], .givenUp 4]).verify.Sound
        ∧ ((windowed a [.outstanding 1 a, .outstanding 2 1, .held 1 [7], .givenUp 4]).outstandingOp 1 OpKind.isVerifyRead).map
            (fun op => (op.kind, op.attempt)) = some (.verifyRead 0 4097, a)
        ∧ ((windowed a [.outstanding 1 a, .outstanding 2 1, .held 1 [7], .givenUp 4]).outstandingOp 2 OpKind.isVerifyRead).map
            (fun op => (op.kind, op.attempt)) = some (.verifyRead 1 4098, 1))
      ∧ (WindowEntry.outstanding 1 1).reads 2 = false := by decide +kernel
theorem witness_VerifyReadMovesTheWindow_ignored :
    ∀ s ∈ [run (.abort (ask .abort [])) verifying, windowed 1 [.outstanding 2 1]], s.port.Sound
      ∧ (s.outstandingOp 1 OpKind.isVerifyRead).isSome = true
      ∧ (s.verify.slot.isVerifying = false ∨ ∀ x ∈ s.verify.window, x.reads 1 = false) := by decide +kernel
theorem test_verify_reads_of_the_window_are_asked :
    let t := run (.verifyReadComplete 1 (some [7])) (windowed 1 [.outstanding 1 1, .held 2 [7], .outstanding 2 1, .waiting 9 2])
    t.port.outstanding.map (·.kind) = [.verifyRead 1 4098, .verifyRead 4 4101, .verifyRead 5 4102]
      ∧ t.verify.window = [.outstanding 2 1, .waiting 9 2, .outstanding 3 1, .outstanding 4 1] := by decide +kernel

/-- The last position's read outstanding as operation 1. -/
def lastRead : State := withOps [(.verifyRead 1 4098, 1, none)]
  { settled with verify := { verifying.verify with cursor := 1, readOk := 1, window := [.outstanding 1 1] } }
theorem witness_LastVerifyReadDecidesTheOutcome :
    lastRead.verify.slot = .verifying { station := 9, tag := 0x1234 } 1 ∧ lastRead.verify.window = .outstanding 1 1 :: []
      ∧ lastRead.outstandingOp 1 OpKind.isVerifyRead
          = some { id := 1, kind := .verifyRead 1 4098, attempt := 1, block := none, isFinal := false }
      ∧ lastRead.verify.cursor + 1 + 0 = lastRead.verify.positions ∧ lastRead.recordAt 1 = some closedRec ∧ lastRead.port.Sound
      ∧ closedRec.state ≠ .opened ∧ closedRec.state ≠ .closing := by decide +kernel
/-- The fourth read of the position at the cursor, before the last position, which is held. -/
def lastFailed : State := withOps [(.verifyRead 0 4097, 4, none)]
  { settled with verify := { verifying.verify with readOk := 1, window := [.outstanding 1 4, .held 1 [7]] } }
theorem witness_LastVerifyReadDecidesTheOutcome_failed :
    lastFailed.verify.window = .outstanding 1 4 :: [.held 1 [7]] ∧ (WindowEntry.held 1 [7]).ended = true
      ∧ lastFailed.verify.cursor + 1 + 1 = lastFailed.verify.positions ∧ lastFailed.recordAt 1 = some closedRec
      ∧ lastFailed.outstandingOp 1 OpKind.isVerifyRead
          = some { id := 1, kind := .verifyRead 0 4097, attempt := 4, block := none, isFinal := false } := by decide +kernel
theorem test_last_failed_read_reports_read_errors :
    (reports (run (.verifyReadComplete 1 none) lastFailed)).map (fun x => (x.1, x.2.1)) = [(.done, .readErrors)]
      ∧ ((run (.verifyReadComplete 1 none) lastFailed).recordAt 1).map (·.state) = some .damaged := by decide +kernel

/-! #### The link and the requests -/

theorem witness_UntakenFramesAndBadRequestsChangeNothing_listen_only :
    State.reset.link.station = 0
      ∧ (run (.reset { stn := 31, role := false, jamen := false }) ready).link.station = 31
      ∧ (run (.reset { stn := 31, role := false, jamen := false }) ready).takenFrame .roll rollWire
          = some { sender := 2, dest := 0, kind := .roll, payload := rollBytes 41 } := by decide +kernel
theorem witness_UntakenFramesAndBadRequestsChangeNothing :
    (ready.takenFrame .report (toAll .report 5 [])).isSome = true ∧ acceptFrame { bits := [] } = none
      ∧ (acceptFrame (wireOf 2 6 .roll (rollBytes 1))).map (takenBy ready.link.station) = some false
      ∧ (acceptFrame rollWire).map (takenBy (sending 1 .attempting).link.station) = some true
      ∧ (sending 1 .attempting).link.driving.isSome = true := by decide +kernel
/-- A REQUEST of a kind with these arguments, as it is taken. -/
def asked (k : RequestKind) (args : List Byte) : Request := { sender := 9, tag := 0x1234, code := k.code, args := args }
def askFrame (k : RequestKind) (args : List Byte) : Frame :=
  { sender := 9, dest := 5, kind := .request, payload := requestPayload 0x1234 k args }
theorem witness_UntakenFramesAndBadRequestsChangeNothing_bad_form :
    ready.TakesRequest .abort (ask .abort [0]) (askFrame .abort [0]) (asked .abort [0]) ∧ formOk .abort [0] = false := by decide +kernel
theorem witness_UntakenFramesAndBadRequestsChangeNothing_mounting :
    scanning.TakesRequest .queryMeters (ask .queryMeters []) (askFrame .queryMeters []) (asked .queryMeters [])
      ∧ formOk .queryMeters [] = true ∧ scanning.media.state = .mounting ∧ scanning.port.Sound := by decide +kernel

theorem witness_TransmitQueuePlacesFrames :
    State.reset.link.station = 0 ∧ (1 ≤ ready.link.station ∧ ready.link.station ≤ 30) ∧ ready.link.queue.length < 8
      ∧ (TxFrame.fresh (.state ready.stateContent)).waitingState = true
      ∧ (TxFrame.fresh (.report { dest := 9, tag := 1, kind := 1, outcome := .done, detail := .none, reply := [] })).waitingReport = true
      ∧ (TxFrame.fresh (.cut 1 .r25 { hh := 0, mm := 0, ss := 0, ff := 0 })).waitingState = false
      ∧ (TxFrame.fresh (.cut 1 .r25 { hh := 0, mm := 0, ss := 0, ff := 0 })).waitingReport = false := by decide +kernel

theorem witness_TransmitQueuePlacesFrames_state :
    rolling.engine.takeState = .rolling ∧ (tailing 1000000).engine.takeState = .tail ∧ rolling.engine.openTake = some 1
      ∧ rolling.recordAt 1 = some openRec ∧ rolling.stateContent.key = some keyA ∧ ready.stateContent.key = none := by decide +kernel
theorem witness_HeadFrameIsSentByAttempts :
    State.reset.link.initialDue = true ∧ ready.link.initialDue = false ∧ ready.link.queue = []
      ∧ (sending 0 .idle).link.queue = [{ body := .state station.stateContent, attempts := 0, phase := .idle }]
      ∧ (sending 7 .attempting).link.owed = false ∧ (sending 7 .attempting).link.queue.length = 1
      ∧ (sending 8 .attempting).link.driving = some sentBits ∧ sentBits = zerosBefore ++ true :: restAfter := by decide +kernel
theorem witness_HeadFrameIsSentByAttempts_owed :
    ({ sending 8 .attempting with link := { (sending 8 .attempting).link with owed := true } } : State).link.owed = true := by
  decide +kernel
/-- The STATE payload of a rolling station with every flag set (11.2). -/
theorem test_state_payload :
    (TxBody.state { rolling.stateContent with reason := some .backlog, flags := { jammed := true, linkTrouble := true, conflict := true } }).payload
      = [2, 3, 1, 7, 1, 2, 40, 0, 3] := by decide +kernel
theorem test_mark_and_roll_payloads :
    (TxBody.mark (some keyA) .df { hh := 1, mm := 2, ss := 3, ff := 4 } 15).payload = [1, 2, 40, 0, 29, 1, 1, 2, 3, 4, 15]
      ∧ (TxBody.roll 258 .r25 { hh := 1, mm := 2, ss := 3, ff := 4 }).payload = [2, 1, 25, 1, 1, 2, 3, 4] := by decide +kernel

theorem witness_QueriesReportTheStateAsItStands :
    ready.TakesRequest .queryStatus (ask .queryStatus []) (askFrame .queryStatus []) (asked .queryStatus [])
      ∧ ready.TakesRequest .queryMeters (ask .queryMeters []) (askFrame .queryMeters []) (asked .queryMeters [])
      ∧ ready.media.state ≠ .mounting := by decide +kernel
theorem witness_QueriesReportTheStateAsItStands_take :
    settled.TakesRequest .queryTake (ask .queryTake [1, 0, 4, 64]) (askFrame .queryTake [1, 0, 4, 64]) (asked .queryTake [1, 0, 4, 64])
      ∧ field [1, 0, 4, 64] 0 2 = 1 ∧ field [1, 0, 4, 64] 2 1 = 4 ∧ field [1, 0, 4, 64] 3 1 = 64 ∧ settled.media.state = .ready
      ∧ settled.recordAt 1 = some closedRec ∧ scened.recordAt 4 = none ∧ 4 < scened.journal.nextIndex
      ∧ settled.journal.nextIndex ≤ 4096 := by decide +kernel

/-- The pending slate on an ABSENT card, and the refusals of a section that needs a card. -/
def unprepared : State := { station with media := { station.media with state := .unprepared, capacity := some 10000 } }
theorem witness_QueriesReportTheStateAsItStands_no_card :
    (∀ args ∈ [[0, 0, 1, 0], [1, 0, 0, 0]], ∀ s ∈ [station, scanning, unprepared],
        s.TakesRequest .queryTake (ask .queryTake args) (askFrame .queryTake args) (asked .queryTake args))
      ∧ station.media.state = .absent ∧ scanning.media.state = .mounting ∧ unprepared.media.state = .unprepared := by decide +kernel
theorem test_queryTake_on_every_card :
    reports (run (.queryTake (ask .queryTake [1, 0, 0, 0])) station) = [(.refused, .noMedia, [])]
      ∧ reports (run (.queryTake (ask .queryTake [1, 0, 0, 0])) unprepared) = [(.refused, .notPrepared, [])]
      ∧ (reports (run (.queryTake (ask .queryTake [0, 0, 1, 0])) station)).map (·.2.2.length) = [21]
      ∧ reports (run (.queryTake (ask .queryTake [1, 0, 4, 1])) settled)
          = [(.done, .none, [1, 0, 2, 1, 1, 1, 1, 16, 0, 0, 2, 0, 0, 0, 0])] := by decide +kernel

def searchBytes : List Byte := [0, 0, 1, 0, 3, 3, 0x31, 0x34, 0x41]
theorem witness_SearchFindsMatchesInOrder :
    scened.TakesRequest .searchJournal (ask .searchJournal searchBytes) (askFrame .searchJournal searchBytes)
        (asked .searchJournal searchBytes)
      ∧ formOk .searchJournal searchBytes = true ∧ scened.media.state = .ready
      ∧ ¬ SearchOutOfRange 0 0 1 3 [0x31, 0x34, 0x41] := by
  unfold SearchOutOfRange
  decide +kernel
/-- An argument at, and one past, the end of its range. -/
theorem witness_SearchFindsMatchesInOrder_ranges :
    (∀ x ∈ ([(6, 0, 1, 3, []), (0, 4, 1, 3, []), (0, 0, 0, 3, []), (0, 0, 4097, 3, []), (0, 0, 1, 17, []), (1, 0, 1, 0, [232, 3]),
        (2, 0, 1, 0, [23, 59, 59, 30]), (3, 0, 1, 0, [2]), (4, 2, 1, 0, [1]), (5, 0, 1, 0, [32])] :
          List (Nat × Nat × Nat × Nat × List Byte)), SearchOutOfRange x.1 x.2.1 x.2.2.1 x.2.2.2.1 x.2.2.2.2)
      ∧ ∀ x ∈ ([(5, 3, 4096, 16, [31]), (1, 0, 1, 0, [231, 3]), (4, 1, 1, 0, [6]), (2, 0, 1, 0, [23, 59, 59, 29])] :
          List (Nat × Nat × Nat × Nat × List Byte)), ¬ SearchOutOfRange x.1 x.2.1 x.2.2.1 x.2.2.2.1 x.2.2.2.2 := by
  unfold SearchOutOfRange
  exact ⟨by decide +kernel, by decide +kernel⟩
theorem witness_SearchFindsMatchesInOrder_no_card :
    ∀ s ∈ [station, scanning, unprepared], s.TakesRequest .searchJournal (ask .searchJournal searchBytes)
      (askFrame .searchJournal searchBytes) (asked .searchJournal searchBytes) := by decide +kernel
theorem test_search_needs_a_prepared_card :
    reports (run (.searchJournal (ask .searchJournal searchBytes)) station) = [(.refused, .noMedia, [])]
      ∧ reports (run (.searchJournal (ask .searchJournal searchBytes)) unprepared) = [(.refused, .notPrepared, [])]
      ∧ reports (run (.searchJournal (ask .searchJournal [9, 0, 1, 0, 3, 0])) scened) = [(.refused, .badArgument, [])] := by decide +kernel

theorem witness_ArmAndMixAreApplied_arm :
    ready.TakesRequest .arm (ask .arm [15, 0]) (askFrame .arm [15, 0]) (asked .arm [15, 0]) ∧ ready.media.state ≠ .mounting
      ∧ ready.engine.Sound ∧ ready.engine.openTake = none ∧ BitVec.ofNat 16 (field [15, 0] 0 2) ≠ 0
      ∧ rolling.TakesRequest .arm (ask .arm [15, 0]) (askFrame .arm [15, 0]) (asked .arm [15, 0]) ∧ rolling.engine.Sound
      ∧ rolling.engine.openTake ≠ none ∧ BitVec.ofNat 16 (field [0, 0] 0 2) = 0 := by decide +kernel
theorem witness_ArmAndMixAreApplied_mix :
    ready.TakesRequest .mix (ask .mix [1, 15, 3, 10]) (askFrame .mix [1, 15, 3, 10]) (asked .mix [1, 15, 3, 10])
      ∧ formOk .mix [1, 15, 3, 10] = true ∧ field [1, 15, 3, 10] 1 1 = 15 ∧ field [1, 15, 3, 10] 2 1 = 3
      ∧ formOk .mix [1, 16, 0, 0] = true ∧ formOk .mix [0] = true ∧ formOk .mix [1, 0, 4, 0] = true := by decide +kernel

theorem witness_VerifyTakeStartsAVerify :
    settled.TakesRequest .verifyTake (ask .verifyTake [1, 0]) (askFrame .verifyTake [1, 0]) (asked .verifyTake [1, 0])
      ∧ settled.port.Sound ∧ settled.media.state ∉ [.absent, .mounting, .unprepared] ∧ settled.recordAt 1 = some closedRec
      ∧ settled.verify.slot = .idle ∧ (closedRec.recorded * closedRec.frameBytes + 4095) / 4096 = 2
      ∧ (closedRec.extents.map (·.count)).sum = 2 ∧ verifying.verify.slot ≠ .idle ∧ verifying.port.Sound := by decide +kernel
theorem witness_VerifyTakeStartsAVerify_refused :
    station.TakesRequest .verifyTake (ask .verifyTake [1, 0]) (askFrame .verifyTake [1, 0]) (asked .verifyTake [1, 0])
      ∧ station.port.Sound ∧ station.media.state = .absent ∧ settled.journal.nextIndex ≤ 2 ∧ scened.recordAt 4 = none
      ∧ rolling.recordAt 1 = some openRec ∧ openRec.state = .opened ∧ field [1, 16] 0 2 = 4097 := by decide +kernel
/-- A closed take of no bytes, with the digest of none and with another; and one whose bytes have no extent. -/
def emptyTake (recorded : Nat) (digest : Word32) : State :=
  { settled with journal := { nextIndex := 2, mirror :=
      [slotOf { closedRec with recorded := recorded, durable := recorded, extents := [], digest := some digest }] } }
theorem witness_VerifyTakeStartsAVerify_nothing_to_read :
    ∀ s ∈ [emptyTake 0 0, emptyTake 0 1, emptyTake 400 0],
      s.TakesRequest .verifyTake (ask .verifyTake [1, 0]) (askFrame .verifyTake [1, 0]) (asked .verifyTake [1, 0]) ∧ s.port.Sound
        ∧ s.verify.slot = .idle ∧ s.media.state = .ready ∧ 1 < s.journal.nextIndex
        ∧ (s.recordAt 1).map (fun r => (r.state, min ((r.recorded * r.frameBytes + 4095) / 4096) ((r.extents.map (·.count)).sum)))
            = some (.closed, 0) := by decide +kernel
theorem test_verify_with_nothing_to_read_ends_at_once :
    [emptyTake 0 0, emptyTake 0 1, emptyTake 400 0].map (fun s =>
        let t := run (.verifyTake (ask .verifyTake [1, 0])) s
        ((t.recordAt 1).map (·.state), (reports t).map fun x => (x.1, x.2.1)))
      = [(some .verified, [(.accepted, .none), (.done, .none)]),
         (some .damaged, [(.accepted, .none), (.done, .digestMismatch)]),
         (some .damaged, [(.accepted, .none), (.done, .digestMismatch)])] := by decide +kernel

theorem witness_PrepareAndReleaseStartOrAreTurnedAway_prepare :
    ready.TakesRequest .prepareMedia (ask .prepareMedia prepareArgs) (askFrame .prepareMedia prepareArgs) (asked .prepareMedia prepareArgs)
      ∧ formOk .prepareMedia prepareArgs = true ∧ ready.media.state ∈ [.unprepared, .ready, .full, .faulted, .released]
      ∧ 5121 ≤ ready.media.capacity.getD 0 ∧ ready.verify.slot = .idle ∧ ready.writer.queue = [] ∧ ready.engine.openTake = none
      ∧ ready.engine.takeState = .standby ∧ (ready.preparePlan prepareArgs).isSome = true ∧ ready.DefectsSound
      ∧ rolling.engine.Sound ∧ rolling.writer.queue ≠ [] := by decide +kernel
/-- A card with a GROWN block that the request names, and a GIVEN one that it does not. -/
def worn : State :=
  { ready with media := { ready.media with defects := [{ block := 4999, grown := false }, { block := 5000, grown := true }] } }
theorem witness_PrepareAndReleaseStartOrAreTurnedAway_merged :
    worn.DefectsSound ∧ prepareBlocks prepareArgs = [5000]
      ∧ (worn.preparePlan prepareArgs).map (·.defects) = some [{ block := 5000, grown := true }]
      ∧ (ready.preparePlan prepareArgs).map (·.defects) = some [{ block := 5000, grown := false }] := by decide +kernel
theorem witness_PrepareAndReleaseStartOrAreTurnedAway_refused :
    station.media.state = .absent
      ∧ ({ ready with media := { ready.media with state := .released, capacity := some 5120 } } : State).media.capacity.getD 0 < 5121
      ∧ formOk .prepareMedia (profileBytes prof ++ [1, 0] ++ le 4 4096) = true
      ∧ ready.preparePlan (profileBytes prof ++ [1, 0] ++ le 4 4096) = none := by decide +kernel
theorem witness_PrepareAndReleaseStartOrAreTurnedAway_arguments :
    ProfileAsked prepareArgs prof ∧ ready.DefectsSound ∧ ready.DefectsAdmitted (prepareBlocks prepareArgs)
      ∧ ready.DefectsAdmitted [4097, 9999] ∧ ¬ ready.DefectsAdmitted [4096] ∧ ¬ ready.DefectsAdmitted [10000]
      ∧ ¬ ready.DefectsAdmitted [5000, 5000] := by
  unfold ProfileAsked State.DefectsAdmitted
  decide +kernel
theorem witness_PrepareAndReleaseStartOrAreTurnedAway_release :
    ready.Coherent
      ∧ ready.TakesRequest .releaseMedia (ask .releaseMedia []) (askFrame .releaseMedia []) (asked .releaseMedia [])
      ∧ ready.writesPending = false ∧ (withOps [(.journalWrite 1, 1, none)] ready).writesPending = true :=
  ⟨by decide +kernel, by decide +kernel⟩

theorem witness_AbortEndsAVerifyOnly :
    verifying.TakesRequest .abort (ask .abort []) (askFrame .abort []) (asked .abort [])
      ∧ verifying.verify.slot = .verifying { station := 9, tag := 0x1234 } 1 ∧ verifying.media.state ≠ .mounting
      ∧ ready.verify.slot = .idle ∧ releasing.verify.slot.blocksJournal = true := by decide +kernel
theorem witness_AbortEndsAVerifyOnly_unknown :
    (ready.takenFrame .request (wireOf 9 5 .request [1, 0])).map (·.payload.length) = some 2
      ∧ (ready.takenFrame .request (wireOf 9 5 .request [1, 0, 11])).isSome = true
      ∧ (decodeRequest 9 [1, 0, 11]).map (fun q => decide (10 < q.code.toNat)) = some true
      ∧ (decodeRequest 9 [1, 0, 0]).map (·.code) = some 0 := by decide +kernel

/-! #### What the card carries, and the invariants -/

theorem witness_HeaderBlockReadsBack : header7.Valid 10000 := by decide +kernel
theorem witness_RecordBlockReadsBack : closedRec.Valid 10000 := by decide +kernel

/-- A state in which every invariant holds, with a command that changes much of it. -/
theorem witness_StepKeepsTheBlocksCoherent : rolling.Coherent ∧ rolling.HoldersSound ∧ rolling.MirrorSound :=
  ⟨by decide +kernel, by decide +kernel, by decide +kernel⟩
theorem witness_StepKeepsTheTransmitQueueSound :
    (sending 0 .idle).link.Sound ∧ (sending 7 .attempting).link.Sound := by decide +kernel
theorem witness_StepKeepsThePortSound : (flying 0).port.Sound ∧ verifying.port.Sound := by decide +kernel
theorem witness_StepKeepsTheVerifyWindowSound : verifying.verify.Sound ∧ lastRead.verify.Sound := by decide +kernel
theorem witness_StepKeepsEveryBlockWithinItsLimits_intake :
    drawing.intake.Sound ∧ ringCanonical drawing.intake.ring ∧ drawing.AnchorSound := by decide +kernel
theorem witness_StepKeepsEveryBlockWithinItsLimits_records : marked.RecordsFit ∧ marked.DefectsSound ∧ marked.writer.Sound := by
  decide +kernel
/-- A record with a flag, before and after a step. -/
theorem witness_StepKeepsEveryBlockWithinItsLimits_flags :
    dropped.recordAt 1 = some droppedRec ∧ hasFlag droppedRec.flags .markersDropped = true
      ∧ (match step { dropped with pending := [.clockLoss (.noEdge 31250000)] } with
        | .next t => (t.recordAt 1).map (fun r => hasFlag r.flags .markersDropped) | .fault _ => none | .refused _ => none)
        = some true := by decide +kernel
/-- A settled take, and an OPEN one of 300 drawn frames and 100 lost ones: its segments 1 and 3 have completed, segment 2 is being
written and its current buffer holds the rest. -/
def accountedRec : Record :=
  { openRec with index := 2, recorded := 300, lost := 100, notes := [.gap 0 100], extents := [{ first := 4099, count := 128 }] }
def accounted : State :=
  { withOps [(.segmentWrite 1 0, 1, none)] ready with
    engine := { ready.engine with takeState := .rolling, openTake := some 2, holders := [keyA] }
    journal := { nextIndex := 3, mirror := [slotOf closedRec, slotOf accountedRec] }
    media := { ready.media with cursor := some 4227 }
    writer := {
      queue := [{ entry1 with
        index := 2, next := 900400, sealedSegs := 3, completed := 2, durSegs := 1, durBytes := 900, above := [(3, 1200)]
        current := some 0 }]
      buffers := Vector.ofFn fun i =>
        if i.val = 0 then .used .filling { fillSeg with take := 2, run := { first := 4195, count := 32 }, data := List.replicate 900 0 }
        else if i.val = 1 then .used .inFlight { oneSegment 0 with take := 2, sequence := some 2, data := List.replicate 600 0 }
        else .free } }
theorem witness_StepKeepsTheAccountsOfEveryTake :
    accounted.Coherent ∧ accounted.HoldersSound ∧ accounted.port.Sound ∧ accounted.FramesSound ∧ accounted.SegmentsSound
      ∧ accounted.intake.position + 1 < 2 ^ 48 :=
  ⟨by decide +kernel, by decide +kernel, by decide +kernel, by decide +kernel, by decide +kernel, by decide +kernel⟩
theorem witness_StepKeepsTheAccountsOfEveryTake_settled :
    accounted.recordAt 1 = some closedRec ∧ closedRec.state = .closed ∧ closedRec.recorded + closedRec.lost = 900400 - closedRec.start := by
  decide +kernel
/-- A step of such a state answers a next state. -/
theorem witness_StepKeeps_next :
    (match step { rolling with pending := [.cardRemoval] } with
      | .next t => t.media.state | .fault _ => .ready | .refused _ => .ready) = .absent := by decide +kernel

end Sys2Proof.Tests
end

/-! Defect notes (R13, R16): the most recent note of a kind, its lengthening, and what a charge of lost frames does to a record. -/

namespace Sys2Proof.Machine

/-- The most recent element that `p` admits is the one that only elements not admitted follow. -/
theorem find?_reverse_eq_some_iff {α : Type} {p : α → Bool} {l : List α} {x : α} :
    l.reverse.find? p = some x ↔
      p x = true ∧ ∃ before after, l = before ++ x :: after ∧ after.all (fun y => !p y) = true := by
  rw [List.find?_eq_some_iff_append]
  constructor
  · rintro ⟨hx, recent, older, hl, hrecent⟩
    refine ⟨hx, older.reverse, recent.reverse, ?_, by simpa using hrecent⟩
    simpa using congrArg List.reverse hl
  · rintro ⟨hx, before, after, rfl, hafter⟩
    exact ⟨hx, after.reverse, before.reverse, by simp, by simpa using hafter⟩

theorem modifyFirst_append_cons {α : Type} {p : α → Bool} (f : α → α) {before : List α} {x : α} (after : List α)
    (hbefore : before.all (fun y => !p y) = true) (hx : p x = true) :
    modifyFirst p f (before ++ x :: after) = before ++ f x :: after := by
  induction before with
  | nil => simp [modifyFirst, hx]
  | cons y ys ih =>
    simp only [List.all_cons, Bool.and_eq_true, Bool.not_eq_true'] at hbefore
    simp [modifyFirst, hbefore.1, ih hbefore.2]

theorem modifyLast_append_cons {α : Type} {p : α → Bool} (f : α → α) (before : List α) {x : α} {after : List α}
    (hx : p x = true) (hafter : after.all (fun y => !p y) = true) :
    modifyLast p f (before ++ x :: after) = before ++ f x :: after := by
  have hfirst := modifyFirst_append_cons f before.reverse (by simpa using hafter : after.reverse.all _ = true) hx
  simp [modifyLast, hfirst]

theorem DefectNote.isGap_iff {note : DefectNote} : note.isGap = true ↔ ∃ f n, note = .gap f n := by
  cases note <;> simp [DefectNote.isGap]

/-! ### Adding a note -/

theorem Record.addNote_of_lt {r : Record} (note : DefectNote) (hroom : r.notes.length < maxNotes) :
    r.addNote note = { r with notes := r.notes ++ [note] } := if_pos hroom

theorem Record.addNote_of_full {r : Record} (note : DefectNote) (hfull : maxNotes ≤ r.notes.length) :
    r.addNote note = r.flag .notesDropped := if_neg hfull.not_gt

@[simp] theorem Record.addNote_lost (note : DefectNote) (r : Record) : (r.addNote note).lost = r.lost := by
  unfold Record.addNote
  split <;> rfl

/-! ### Lengthening the most recent note of a kind, or adding one -/

theorem Record.runNote_of_runEnd_eq {p : DefectNote → Bool} {q : Nat} (k : Nat) (note : DefectNote) {r : Record}
    {before after : List DefectNote} {x : DefectNote} (hnotes : r.notes = before ++ x :: after)
    (hafter : after.all (fun y => !p y) = true) (hx : p x = true) (hend : x.runEnd = q) :
    r.runNote p q k note = { r with notes := before ++ x.lengthen k :: after } := by
  have hrecent : r.notes.reverse.find? p = some x := find?_reverse_eq_some_iff.2 ⟨hx, before, after, hnotes, hafter⟩
  simp only [Record.runNote, hrecent, hend, if_true]
  rw [hnotes, modifyLast_append_cons _ before hx hafter]

theorem Record.runNote_of_runEnd_ne {p : DefectNote → Bool} {q : Nat} (k : Nat) (note : DefectNote) {r : Record}
    (hend : ∀ before x after, r.notes = before ++ x :: after → after.all (fun y => !p y) = true → p x = true →
      x.runEnd ≠ q) :
    r.runNote p q k note = r.addNote note := by
  unfold Record.runNote
  split
  next => rfl
  next x hrecent =>
    obtain ⟨hx, before, after, hnotes, hafter⟩ := find?_reverse_eq_some_iff.1 hrecent
    exact if_neg (hend before x after hnotes hafter hx)

@[simp] theorem Record.runNote_lost (p : DefectNote → Bool) (q k : Nat) (note : DefectNote) (r : Record) :
    (r.runNote p q k note).lost = r.lost := by
  unfold Record.runNote
  split
  next => exact r.addNote_lost note
  next => split <;> simp

/-! ### A charge of lost frames (R16) -/

@[simp] theorem Record.charge_lost (q k : Nat) (r : Record) : (r.charge q k).lost = r.lost + k :=
  Record.runNote_lost ..

/-- The most recent GAP ends where the lost frames begin. -/
theorem Record.charge_of_gap_end {r : Record} {before after : List DefectNote} {f n : Nat} (k : Nat)
    (hnotes : r.notes = before ++ .gap f n :: after) (hafter : after.all (fun x => !x.isGap) = true) :
    r.charge (f + n) k = { r with lost := r.lost + k, notes := before ++ .gap f (n + k) :: after } :=
  Record.runNote_of_runEnd_eq (r := { r with lost := r.lost + k }) k _ hnotes hafter rfl rfl

/-- There is no GAP, or the most recent one ends elsewhere. -/
theorem Record.charge_of_no_gap_end {r : Record} {q : Nat} (k : Nat)
    (hend : ∀ before after f n, r.notes = before ++ DefectNote.gap f n :: after →
      after.all (fun x => !x.isGap) = true → f + n ≠ q) :
    r.charge q k = { r with lost := r.lost + k }.addNote (.gap q k) := by
  refine Record.runNote_of_runEnd_ne k _ fun before x after hnotes hafter hx => ?_
  obtain ⟨f, n, rfl⟩ := DefectNote.isGap_iff.1 hx
  exact hend before after f n hnotes hafter

/-- Settles O7: the total by `charge_lost`, the notes by where the most recent GAP ends. -/
theorem chargeCountsAndNotesLostFrames : Obligations.ChargeCountsAndNotesLostFrames := by
  intro r q k
  refine ⟨r.charge_lost q k, ?_, fun hend => ?_⟩
  · rintro before after f n hnotes hafter rfl
    simp [Record.charge_of_gap_end k hnotes hafter]
  · rw [Record.charge_of_no_gap_end k hend]
    refine ⟨fun hroom => ?_, fun hfull => ?_⟩
    · simp [Record.addNote_of_lt (r := { r with lost := r.lost + k }) _ hroom]
    · simp [Record.addNote_of_full (r := { r with lost := r.lost + k }) _ hfull, Record.flag]

end Sys2Proof.Machine

/-! Labels and indices (R23–R25). Between the two stands a count of labels: index and count are each other's inverse on the counts that
are not skipped, and count and label on the labels with fields in range. -/

namespace Sys2Proof.Machine

/-! ### Counts of labels and labels -/

/-- The labels from midnight up to `l`, the skipped ones among them. -/
def Label.countAt (rate : Nat) (l : Label) : Nat := ((l.hh * 60 + l.mm) * 60 + l.ss) * rate + l.ff

theorem RateCode.nominal_pos (c : RateCode) : 0 < c.nominal := by cases c <;> decide

theorem splitCount_eq (rate k : Nat) :
    splitCount rate k = { hh := k / rate / 3600, mm := k / rate / 60 % 60, ss := k / rate % 60, ff := k % rate } := by
  simp [splitCount, Nat.div_div_eq_div_mul, Nat.mul_comm]

@[simp] theorem Label.countAt_splitCount (rate k : Nat) : (splitCount rate k).countAt rate = k := by
  have hseconds : (k / rate / 3600 * 60 + k / rate / 60 % 60) * 60 + k / rate % 60 = k / rate := by omega
  simp only [splitCount_eq, Label.countAt, hseconds]
  exact Nat.div_add_mod' k rate

theorem splitCount_countAt {rate : Nat} {l : Label} (hmm : l.mm ≤ 59) (hss : l.ss ≤ 59) (hff : l.ff < rate) :
    splitCount rate (l.countAt rate) = l := by
  obtain ⟨hdiv, hmod⟩ : l.countAt rate / rate = (l.hh * 60 + l.mm) * 60 + l.ss ∧ l.countAt rate % rate = l.ff :=
    (Nat.div_mod_unique (by omega)).2 ⟨by rw [Label.countAt, Nat.mul_comm rate, Nat.add_comm], hff⟩
  obtain ⟨hh, mm, ss, ff⟩ := l
  rw [splitCount_eq, hdiv, hmod]
  dsimp only at *
  rw [Label.mk.injEq]
  omega

/-! ### The counts that are labels of a rate code, and the indices -/

/-- The labels skipped under DF at the starts of the day's minutes 1 to `minutes` (R23): two at each, none at every tenth. -/
def skippedBy (minutes : Nat) : Nat := 2 * (minutes - minutes / 10)

/-- The count is the one of a label valid for the rate code (R23). -/
def RateCode.LabelCount (c : RateCode) (k : Nat) : Prop :=
  k < 86400 * c.nominal ∧ (c = .df → k / 1800 % 10 ≠ 0 → 2 ≤ k % 1800)

/-- The index of the label of a count. -/
def RateCode.indexOfCount (c : RateCode) (k : Nat) : Nat := k - if c = .df then skippedBy (k / 1800) else 0

/-- A day of labels, less the skipped ones, is a day of indices (R21). -/
theorem RateCode.perDay_eq (c : RateCode) : c.perDay = c.indexOfCount (86400 * c.nominal) := by cases c <;> rfl

/-- The count of the label of an index. -/
def RateCode.countOfIndex (c : RateCode) (f : Nat) : Nat := if c = .df then f + dfAdjust f else f

theorem labelValid_iff (c : RateCode) (l : Label) :
    labelValid c l = true ↔ l.hh ≤ 23 ∧ l.mm ≤ 59 ∧ l.ss ≤ 59 ∧ l.ff < c.nominal
      ∧ (c = .df → l.mm % 10 ≠ 0 → l.ss = 0 → 2 ≤ l.ff) := by
  have hkept : ¬ (c = .df ∧ l.ss = 0 ∧ l.ff ≤ 1 ∧ l.mm % 10 ≠ 0) ↔ (c = .df → l.mm % 10 ≠ 0 → l.ss = 0 → 2 ≤ l.ff) := by
    by_cases hdf : c = .df
    · simp only [hdf, true_and, forall_const]
      omega
    · simp only [hdf, false_and, not_false_eq_true, false_implies]
  simp only [labelValid, ← Bool.decide_and, ← decide_not, decide_eq_true_eq, and_assoc, hkept]

theorem indexOf_eq (c : RateCode) (l : Label) :
    indexOf c l = l.countAt c.nominal - if c = .df then skippedBy (60 * l.hh + l.mm) else 0 := by
  cases c <;> rfl

theorem labelOf_eq (c : RateCode) (f : Nat) : labelOf c f = splitCount c.nominal (c.countOfIndex f) := by
  cases c <;> rfl

theorem labelValid_splitCount (c : RateCode) (k : Nat) :
    labelValid c (splitCount c.nominal k) = true ↔ c.LabelCount k := by
  rw [labelValid_iff, splitCount_eq, RateCode.LabelCount]
  have hff := Nat.mod_lt k c.nominal_pos
  have hday : k / c.nominal < 86400 ↔ k < 86400 * c.nominal := Nat.div_lt_iff_lt_mul c.nominal_pos
  by_cases hdf : c = .df
  · subst hdf
    simp only [RateCode.nominal, forall_const] at *
    omega
  · simp only [hdf, false_implies, and_true]
    omega

theorem indexOf_splitCount (c : RateCode) (k : Nat) : indexOf c (splitCount c.nominal k) = c.indexOfCount k := by
  rw [indexOf_eq, Label.countAt_splitCount, RateCode.indexOfCount]
  by_cases hdf : c = .df
  · subst hdf
    have hminutes : 60 * (k / 30 / 3600) + k / 30 / 60 % 60 = k / 1800 := by omega
    simp only [splitCount_eq, RateCode.nominal, hminutes]
  · simp only [hdf, if_false]

/-- A valid label is the label of a count, which is one of its rate code. -/
theorem exists_labelCount_of_labelValid {c : RateCode} {l : Label} (hvalid : labelValid c l = true) :
    ∃ k, c.LabelCount k ∧ l = splitCount c.nominal k := by
  obtain ⟨-, hmm, hss, hff, -⟩ := (labelValid_iff c l).1 hvalid
  have hl := splitCount_countAt hmm hss hff
  exact ⟨l.countAt c.nominal, (labelValid_splitCount c _).1 (hl.symm ▸ hvalid), hl.symm⟩

/-! ### The drop-frame adjustment (R25) -/

theorem dfAdjust_eq (f : Nat) : dfAdjust f = 18 * (f / 17982) + 2 * ((f % 17982 - 2) / 1798) := by
  simp only [dfAdjust]
  split <;> omega

/-- Ten minutes hold 17,982 indices; within them the first minute holds 1,800 and each other one 1,798. -/
theorem dfAdjust_eq_skippedBy (f : Nat) : dfAdjust f = skippedBy ((f + dfAdjust f) / 1800) := by
  simp only [dfAdjust_eq, skippedBy]
  omega

theorem labelCount_add_dfAdjust {f : Nat} (hf : f < RateCode.perDay .df) : RateCode.LabelCount .df (f + dfAdjust f) := by
  simp only [RateCode.LabelCount, RateCode.perDay, RateCode.nominal, dfAdjust_eq] at *
  omega

theorem dfAdjust_sub_skippedBy {k : Nat} (hk : RateCode.LabelCount .df k) :
    dfAdjust (k - skippedBy (k / 1800)) = skippedBy (k / 1800) := by
  obtain ⟨-, hkept⟩ := hk
  simp only [forall_const] at hkept
  simp only [dfAdjust_eq, skippedBy]
  omega

theorem skippedBy_le (k : Nat) : skippedBy (k / 1800) ≤ k := by
  unfold skippedBy
  omega

/-! ### Indices and counts are each other's inverse -/

theorem RateCode.labelCount_countOfIndex {c : RateCode} {f : Nat} (hf : f < c.perDay) : c.LabelCount (c.countOfIndex f) := by
  by_cases hdf : c = .df
  · subst hdf
    exact labelCount_add_dfAdjust hf
  · simpa [countOfIndex, LabelCount, perDay_eq, indexOfCount, hdf] using hf

theorem RateCode.indexOfCount_countOfIndex (c : RateCode) (f : Nat) : c.indexOfCount (c.countOfIndex f) = f := by
  by_cases hdf : c = .df
  · subst hdf
    simp [indexOfCount, countOfIndex, ← dfAdjust_eq_skippedBy]
  · simp [indexOfCount, countOfIndex, hdf]

theorem RateCode.countOfIndex_indexOfCount {c : RateCode} {k : Nat} (hk : c.LabelCount k) :
    c.countOfIndex (c.indexOfCount k) = k := by
  by_cases hdf : c = .df
  · subst hdf
    simp [indexOfCount, countOfIndex, dfAdjust_sub_skippedBy hk, Nat.sub_add_cancel (skippedBy_le k)]
  · simp [indexOfCount, countOfIndex, hdf]

theorem RateCode.indexOfCount_lt {c : RateCode} {k : Nat} (hk : c.LabelCount k) : c.indexOfCount k < c.perDay := by
  obtain ⟨hday, -⟩ := hk
  by_cases hdf : c = .df
  · subst hdf
    simp only [perDay_eq, indexOfCount, nominal, skippedBy, if_true] at *
    omega
  · simpa [perDay_eq, indexOfCount, hdf] using hday

/-! ### Indices and labels -/

theorem labelValid_labelOf {c : RateCode} {f : Nat} (hf : f < c.perDay) : labelValid c (labelOf c f) = true := by
  rw [labelOf_eq, labelValid_splitCount]
  exact RateCode.labelCount_countOfIndex hf

theorem indexOf_labelOf (c : RateCode) (f : Nat) : indexOf c (labelOf c f) = f := by
  rw [labelOf_eq, indexOf_splitCount, RateCode.indexOfCount_countOfIndex]

theorem indexOf_lt_perDay {c : RateCode} {l : Label} (hvalid : labelValid c l = true) : indexOf c l < c.perDay := by
  obtain ⟨k, hk, rfl⟩ := exists_labelCount_of_labelValid hvalid
  rw [indexOf_splitCount]
  exact RateCode.indexOfCount_lt hk

theorem labelOf_indexOf {c : RateCode} {l : Label} (hvalid : labelValid c l = true) : labelOf c (indexOf c l) = l := by
  obtain ⟨k, hk, rfl⟩ := exists_labelCount_of_labelValid hvalid
  rw [labelOf_eq, indexOf_splitCount, RateCode.countOfIndex_indexOfCount hk]

/-- The count of an index in the words of R25. -/
theorem RateCode.countOfIndex_eq (c : RateCode) (f : Nat) :
    c.countOfIndex f = if c = .df then
      f + (if f % 17982 < 2 then 18 * (f / 17982) else 18 * (f / 17982) + 2 * ((f % 17982 - 2) / 1798)) else f := by
  simp only [countOfIndex, dfAdjust]
  split
  · congr 1
    split <;> rfl
  · rfl

/-- Settles O10, by way of the count of labels. -/
theorem labelsAndIndicesAreInverse : Obligations.LabelsAndIndicesAreInverse := by
  refine ⟨fun c f hf => ⟨?_, labelValid_labelOf hf, indexOf_labelOf c f⟩,
    fun c l hvalid => ⟨indexOf_eq c l, indexOf_lt_perDay hvalid, labelOf_indexOf hvalid⟩⟩
  rintro k rfl
  rw [labelOf_eq, splitCount_eq, RateCode.countOfIndex_eq]

end Sys2Proof.Machine

/-! JAM (R35, R36): what a taken frame hands on, and what the timecode unit makes of it. -/

namespace Sys2Proof.Machine

variable (s : State)

/-! ### Taken frames -/

theorem State.onFrame_of_taken {k : FrameKind} {w : Wire} {f : Frame} (owner : Frame → State → State)
    (htaken : s.takenFrame k w = some f) : s.onFrame k owner w = owner f (s.noteConflict f) := by
  simp only [State.onFrame, htaken]

@[simp] theorem State.noteConflict_jamen (f : Frame) : (s.noteConflict f).link.jamen = s.link.jamen := by
  unfold State.noteConflict
  split <;> rfl

/-! ### Acceptance -/

theorem State.jamAccepted_iff (rate : Byte) (l : Label) :
    s.jamAccepted rate l = true ↔ s.link.jamen = true ∧ (s.engine.takeState = .offline ∨ s.engine.takeState = .standby)
      ∧ rateOfByte rate = some s.timecode.rate ∧ labelValid s.timecode.rate l = true := by
  simp [State.jamAccepted, and_assoc]

@[simp] theorem State.jamAccepted_noteConflict (f : Frame) (rate : Byte) (l : Label) :
    (s.noteConflict f).jamAccepted rate l = s.jamAccepted rate l := by
  simp [State.jamAccepted]

/-- One condition of R35 that fails is enough. -/
theorem State.jamAccepted_eq_false {rate : Byte} {l : Label}
    (hfails : s.link.jamen = false ∨ s.engine.takeState = .rolling ∨ s.engine.takeState = .tail
      ∨ rateOfByte rate ≠ some s.timecode.rate ∨ labelValid s.timecode.rate l = false) :
    s.jamAccepted rate l = false := by
  rw [← Bool.not_eq_true, State.jamAccepted_iff]
  rintro ⟨hjamen, hidle, hrate, hvalid⟩
  rcases hfails with h | h | h | h | h <;> simp_all

/-! ### The command -/

theorem exec_jam_of_taken {w : Wire} {f : Frame} (htaken : s.takenFrame .jam w = some f) :
    exec (.jam w) s = .next ((s.noteConflict f).takeJam f) :=
  congrArg Host.Outcome.next (s.onFrame_of_taken State.takeJam htaken)

theorem State.takeJam_of_accepted {f : Frame}
    (haccepted : s.jamAccepted (BitVec.ofNat 8 (field f.payload 4 1)) (labelAtOffset f.payload 0) = true) :
    s.takeJam f = { s with timecode := jamAnchor s.timecode s.intake.position (labelAtOffset f.payload 0) } :=
  if_pos haccepted

theorem State.takeJam_of_not_accepted {f : Frame}
    (hrefused : s.jamAccepted (BitVec.ofNat 8 (field f.payload 4 1)) (labelAtOffset f.payload 0) = false) :
    s.takeJam f = s :=
  if_neg (Bool.eq_false_iff.1 hrefused)

/-- Settles O12: `takeJam` after `noteConflict`, accepted or not. -/
theorem jamSetsTheAnchorOrIsIgnored : Obligations.JamSetsTheAnchorOrIsIgnored := by
  rintro w s f l htaken rfl
  rw [exec_jam_of_taken s htaken]
  refine ⟨fun haccepted => ?_, fun hfails => ?_⟩
  · rw [State.takeJam_of_accepted _ (by simpa using (s.jamAccepted_iff _ _).2 haccepted)]
    simp [jamAnchor]
  · rw [State.takeJam_of_not_accepted _ (by simpa using s.jamAccepted_eq_false hfails)]

end Sys2Proof.Machine

/-! What a shared operation does to the port, the verify unit, the link controller and the queue of commands, said once: every one is a
chain of a few small moves. What a step keeps of these blocks is proved of the moves, and not of each operation again. -/

namespace Sys2Proof.Machine

/-- One small move: an operation is asked or withdrawn, a frame is queued, the own number is heard, a preparation or release moves on, or
blocks other than the port, the verify unit and the link controller change. -/
inductive State.Move : State → State → Prop
  | beside {s t : State}
      (h : t.port = s.port ∧ t.verify = s.verify ∧ t.link = s.link ∧ t.pending = s.pending) : State.Move s t
  | ask (s : State) (kind : OpKind) (attempt : Nat) (block : Option (List Byte)) (isFinal : Bool) :
      State.Move s (s.ask kind attempt block isFinal)
  | withdraw (s : State) (p : Op → Bool) : State.Move s (s.withdraw p)
  | slot (s : State) (l : LongOp) (hs : s.verify.slot.isVerifying = false) (hl : l.isVerifying = false) :
      State.Move s { s with verify := { s.verify with slot := l } }
  | state (s : State) (c : StateContent) : State.Move s { s with link := s.link.enqueueState c }
  | transport (s : State) (b : TxBody) (hb : b.isState = false) : State.Move s { s with link := s.link.enqueueTransport b }
  | report (s : State) (r : Report) : State.Move s { s with link := s.link.enqueueReport r }
  | conflict (s : State) : State.Move s { s with link := { s.link with conflict := true } }

/-- A chain of moves. -/
abbrev State.Moves : State → State → Prop := Relation.ReflTransGen State.Move

namespace State.Moves

variable {s t : State}

/-- What the moves keep, their chains keep. -/
theorem induct {P : State → Prop} (hmove : ∀ a b, State.Move a b → P a → P b) (h : s.Moves t) (hs : P s) : P t := by
  induction h with
  | refl => exact hs
  | tail _ hlast ih => exact hmove _ _ hlast ih

theorem pending_eq (h : s.Moves t) : t.pending = s.pending := by
  induction h with
  | refl => rfl
  | tail _ hlast ih =>
    rw [← ih]
    cases hlast with
    | beside h => exact h.2.2.2
    | _ => rfl

theorem beside {u : State} (h : s.Moves t)
    (hu : u.port = t.port ∧ u.verify = t.verify ∧ u.link = t.link ∧ u.pending = t.pending) : s.Moves u := .tail h (.beside hu)

theorem withBlocks (h : s.Moves t) (i : Intake) (tc : Timecode) (e : Engine) (sl : Slate) (j : Journal) (m : Media) (w : Writer) (d : Nat) :
    s.Moves ⟨i, tc, e, sl, j, m, t.port, w, t.verify, t.link, d, t.pending⟩ := h.beside ⟨rfl, rfl, rfl, rfl⟩

/-! ### Plain updates -/

theorem ask (h : s.Moves t) (k : OpKind) (a : Nat) (b : Option (List Byte)) (f : Bool) : s.Moves (t.ask k a b f) := .tail h (.ask ..)
theorem askNew (h : s.Moves t) (k : OpKind) : s.Moves (t.askNew k) := h.ask ..
theorem retry (h : s.Moves t) (op : Op) : s.Moves (t.retry op) := h.ask ..
theorem withdraw (h : s.Moves t) (p : Op → Bool) : s.Moves (t.withdraw p) := .tail h (.withdraw ..)
theorem queueState (h : s.Moves t) : s.Moves t.queueState := .tail h (.state ..)
theorem queueTransport (h : s.Moves t) {b : TxBody} (hb : b.isState = false) : s.Moves (t.queueTransport b) := .tail h (.transport _ _ hb)
theorem queueReport (h : s.Moves t) (r : Report) : s.Moves (t.queueReport r) := .tail h (.report ..)
theorem answer (h : s.Moves t) (q : Request) (c : OutcomeClass) (d : Detail) (y : List Byte) : s.Moves (t.answer q c d y) :=
  h.queueReport _
theorem finalReport (h : s.Moves t) (w : Requester) (k : RequestKind) (c : OutcomeClass) (d : Detail) (y : List Byte) :
    s.Moves (t.finalReport w k c d y) := h.queueReport _
theorem announce (h : s.Moves t) (s0 : State) : s.Moves (State.announce s0 t) := by
  unfold State.announce
  split
  · exact h
  · exact h.queueState
theorem modifySlot (h : s.Moves t) (n : Nat) (f : MirrorSlot → MirrorSlot) : s.Moves (t.modifySlot n f) := h.beside (by simp)
theorem modifyRecord (h : s.Moves t) (n : Nat) (f : Record → Record) : s.Moves (t.modifyRecord n f) := h.beside (by simp)
theorem flagRecord (h : s.Moves t) (n : Nat) (f : TakeFlag) : s.Moves (t.flagRecord n f) := h.beside (by simp)
theorem setQueue (h : s.Moves t) (q : List QueueEntry) : s.Moves (t.setQueue q) := h.beside ⟨rfl, rfl, rfl, rfl⟩
theorem modifyEntry (h : s.Moves t) (n : Nat) (f : QueueEntry → QueueEntry) : s.Moves (t.modifyEntry n f) := h.setQueue _
theorem dropEntry (h : s.Moves t) (n : Nat) : s.Moves (t.dropEntry n) := h.setQueue _
theorem setBuffer (h : s.Moves t) (b : Nat) (x : Buffer) : s.Moves (t.setBuffer b x) := h.beside ⟨rfl, rfl, rfl, rfl⟩
theorem fillBuffer (h : s.Moves t) (b : Nat) (y : List Byte) : s.Moves (t.fillBuffer b y) := h.beside (by simp)
theorem setTake (h : s.Moves t) (x : TakeState) : s.Moves (t.setTake x) := h.beside ⟨rfl, rfl, rfl, rfl⟩
theorem setMedia (h : s.Moves t) (x : MediaState) : s.Moves (t.setMedia x) := h.beside ⟨rfl, rfl, rfl, rfl⟩
theorem setMount (h : s.Moves t) (x : Mount) : s.Moves (t.setMount x) := h.beside ⟨rfl, rfl, rfl, rfl⟩
theorem clearOpen (h : s.Moves t) : s.Moves t.clearOpen := h.beside ⟨rfl, rfl, rfl, rfl⟩
theorem enterStandby (h : s.Moves t) : s.Moves t.enterStandby := h.beside ⟨rfl, rfl, rfl, rfl⟩
theorem refreshStation (h : s.Moves t) : s.Moves t.refreshStation := h.beside (by simp)
theorem endWrite (h : s.Moves t) (n : Nat) : s.Moves (t.endWrite n) := h.beside (by simp)
theorem endHeaderWrite (h : s.Moves t) : s.Moves t.endHeaderWrite := h.beside ⟨rfl, rfl, rfl, rfl⟩
theorem endUnprepared (h : s.Moves t) : s.Moves t.endUnprepared := h.beside ⟨rfl, rfl, rfl, rfl⟩
theorem noteConflict (h : s.Moves t) (f : Frame) : s.Moves (t.noteConflict f) := by
  unfold State.noteConflict
  split
  · exact .tail h (.conflict _)
  · exact h

/-! ### The journal's writes -/

theorem askWrite (h : s.Moves t) (n : Nat) : s.Moves (t.askWrite n) := by
  unfold State.askWrite
  split
  · exact h
  · split
    · exact h
    · split
      · split
        · exact h.modifySlot ..
        · exact h
      · exact (h.modifySlot ..).askNew _

theorem changeRecord (h : s.Moves t) (n : Nat) : s.Moves (t.changeRecord n) := by
  unfold State.changeRecord
  split
  · exact h
  · split
    · exact (h.modifyRecord ..).modifySlot ..
    · split
      · split
        · exact h.modifySlot ..
        · exact h
      · exact h.askWrite n

theorem askCheckpoint (h : s.Moves t) (n : Nat) : s.Moves (t.askCheckpoint n) := by
  unfold State.askCheckpoint
  split
  · exact h.askWrite n
  · exact h

theorem askHeaderRewrite (h : s.Moves t) : s.Moves t.askHeaderRewrite := by
  unfold State.askHeaderRewrite
  split
  · exact h
  · split
    · split
      · exact h.beside ⟨rfl, rfl, rfl, rfl⟩
      · exact h
    · exact (h.beside (u := { t with media := { t.media with headerInFlight := true } }) ⟨rfl, rfl, rfl, rfl⟩).askNew _

theorem askWrites (h : s.Moves t) (l : List Nat) : s.Moves (l.foldl (fun s n => s.askWrite n) t) := by
  induction l generalizing t with
  | nil => exact h
  | cons n l ih => exact ih (h.askWrite n)

theorem flagRecords (h : s.Moves t) (f : TakeFlag) (l : List Nat) : s.Moves (l.foldl (fun s n => s.flagRecord n f) t) := by
  induction l generalizing t with
  | nil => exact h
  | cons n l ih => exact ih (h.flagRecord n f)

/-! ### Sealing, charging, closing, opening and splitting -/

theorem sealCurrent (h : s.Moves t) (n : Nat) (l : Bool) : s.Moves (t.sealCurrent n l) := by
  unfold State.sealCurrent
  split
  · exact h
  · split
    · exact h
    · split
      · exact h
      · exact (((h.setBuffer ..).modifyEntry ..).modifyRecord ..).askNew _

theorem askFinalIfDue (h : s.Moves t) (n : Nat) : s.Moves (t.askFinalIfDue n) := by
  unfold State.askFinalIfDue
  split
  · exact h.askWrite n
  · exact h

theorem finishIfDone (h : s.Moves t) (n : Nat) : s.Moves (t.finishIfDone n) := by
  unfold State.finishIfDone
  split
  · split
    · exact (h.sealCurrent n true).askFinalIfDue n
    · exact h
  · exact h

theorem chargeTake (h : s.Moves t) (limit n : Nat) : s.Moves (State.chargeTake limit t n) := by
  unfold State.chargeTake
  split
  · split
    · exact ((h.modifyRecord ..).modifyEntry ..).finishIfDone n
    · exact h
  · exact h

theorem chargeAll (h : s.Moves t) (limit : Nat) : s.Moves (t.chargeAll limit) := by
  unfold State.chargeAll
  generalize t.writer.queue.map (·.index) = l
  induction l generalizing t with
  | nil => exact h
  | cons n l ih => exact ih (h.chargeTake limit n)

theorem trimMarkers (h : s.Moves t) (n : Nat) : s.Moves (t.trimMarkers n) := by
  unfold State.trimMarkers
  split
  · exact h
  · dsimp only
    split
    · exact h
    · exact (h.modifyRecord ..).changeRecord n

theorem closeTake (h : s.Moves t) (n stop : Nat) : s.Moves (t.closeTake n stop) :=
  ((h.modifyRecord ..).trimMarkers n).finishIfDone n

theorem addTake (h : s.Moves t) (r : Record) (w : Nat) : s.Moves (t.addTake r w) := by
  unfold State.addTake
  exact askWrite (h.withBlocks ..) _

theorem openTake (h : s.Moves t) (p : Profile) (k : TakeKey) (pt : Point) : s.Moves (t.openTake p k pt) :=
  beside (h.addTake _ _) ⟨rfl, rfl, rfl, rfl⟩

theorem doSplit (h : s.Moves t) (n x : Nat) : s.Moves (t.doSplit n x) := by
  unfold State.doSplit
  split
  · exact h
  · dsimp only
    refine finishIfDone ?_ n
    split
    · exact withBlocks (addTake (h.modifyRecord ..) ..) ..
    · exact changeRecord (changeRecord (withBlocks (addTake (h.modifyRecord ..) ..) ..) _) _

theorem refuseSplit (h : s.Moves t) (n x : Nat) : s.Moves (t.refuseSplit n x) :=
  ((h.clearOpen.flagRecord ..).closeTake n x).enterStandby

theorem splitAt (h : s.Moves t) (n x : Nat) : s.Moves (t.splitAt n x) := by
  unfold State.splitAt
  split
  · exact h.doSplit n x
  · exact h.refuseSplit n x

/-! ### Allocation, abandonment and faults -/

theorem allocate (h : s.Moves t) {n : Nat} {run : Extent} {u : State} (hu : t.allocate n = some (run, u)) : s.Moves u := by
  unfold State.allocate at hu
  split at hu
  · dsimp only at hu
    split at hu
    · cases hu
    · cases hu
      exact h.beside ⟨rfl, rfl, rfl, rfl⟩
  · cases hu

theorem abandonTake (h : s.Moves t) (f : TakeFlag) (n : Nat) : s.Moves (State.abandonTake f t n) := by
  unfold State.abandonTake
  split
  · dsimp only
    have hgone := fun e : QueueEntry => ((beside ((h.withdraw (t.writesOf n)).dropEntry n) (u := { (t.withdraw (t.writesOf n)).dropEntry n with
      writer := { ((t.withdraw (t.writesOf n)).dropEntry n).writer with
        buffers := Vector.ofFn fun i => (((t.withdraw (t.writesOf n)).dropEntry n).writer.buffers[i]).abandon n } }) ⟨rfl, rfl, rfl, rfl⟩).modifySlot n
        fun sl => { sl with entry := sl.entry.mapRecord (·.abandon f e.durBytes), keptBytes := some e.durBytes }).changeRecord n
    split
    · exact (hgone _).clearOpen.setTake _
    · exact hgone _
  · exact h

theorem abandonTakes (h : s.Moves t) (f : TakeFlag) (l : List Nat) : s.Moves (l.foldl (State.abandonTake f) t) := by
  induction l generalizing t with
  | nil => exact h
  | cons n l ih => exact ih (h.abandonTake f n)

theorem cutFull (h : s.Moves t) (n : Nat) : s.Moves (t.cutFull n) := by
  unfold State.cutFull
  split
  · exact h
  · dsimp only
    split
    · exact ((h.clearOpen.setTake _).flagRecord ..).closeTake ..
    · exact (h.flagRecord ..).closeTake ..

theorem runRefused (h : s.Moves t) (failing : Option Nat) : s.Moves (t.runRefused failing) := by
  have hfull := h.setMedia .full
  unfold State.runRefused
  cases failing with
  | none =>
    dsimp only
    split
    · exact h.refreshStation
    · split
      · exact hfull.refreshStation
      · exact ((hfull.cutFull _).abandonTakes _ _).refreshStation
  | some n =>
    have hgone := hfull.abandonTake .mediaFull n
    dsimp only
    split
    · exact (h.abandonTake ..).refreshStation
    · split
      · exact hgone.refreshStation
      · split
        · exact (hgone.abandonTakes _ _).refreshStation
        · exact ((hgone.cutFull _).abandonTakes _ _).refreshStation

theorem growDefect (h : s.Moves t) (b : Nat) : s.Moves (t.growDefect b) := by
  unfold State.growDefect
  split
  · split
    · exact askHeaderRewrite (h.beside ⟨rfl, rfl, rfl, rfl⟩)
    · split
      · exact h
      · exact askHeaderRewrite (h.beside ⟨rfl, rfl, rfl, rfl⟩)
  · exact h

theorem discardWrite (h : s.Moves t) (op : Op) : s.Moves (t.discardWrite op) := h.beside (by simp)

theorem discardWrites (h : s.Moves t) : s.Moves t.discardWrites := by
  unfold State.discardWrites
  have hw := h.withdraw fun op => op.kind.priority < 3
  revert hw
  generalize (t.withdraw fun op => op.kind.priority < 3) = u
  generalize t.port.waiting.filter _ = l
  intro hw
  induction l generalizing u with
  | nil => exact hw
  | cons op l ih => exact ih _ (hw.discardWrite op)

theorem abortRelease (h : s.Moves t) : s.Moves t.abortRelease := by
  unfold State.abortRelease
  split
  · next hslot => exact finalReport (.tail h (.slot _ .idle (by simp [hslot, LongOp.isVerifying]) rfl)) ..
  all_goals exact h

theorem abortPreparation (h : s.Moves t) : s.Moves t.abortPreparation := by
  unfold State.abortPreparation
  split
  · next hslot => exact finalReport (.tail h (.slot _ .idle (by simp [hslot, LongOp.isVerifying]) rfl)) ..
  · exact h.abortRelease
  all_goals exact h

theorem faultMedia (h : s.Moves t) : s.Moves t.faultMedia := by
  unfold State.faultMedia
  split
  · exact h.abortPreparation
  · exact ((((h.setMedia _).discardWrites).abandonTakes _ _).refreshStation.announce _).abortPreparation

theorem loadProfile (h : s.Moves t) (p : Profile) : s.Moves (t.loadProfile p) := h.beside ⟨rfl, rfl, rfl, rfl⟩

/-! ### Drawing, completing and remapping -/

theorem accountDraw (h : s.Moves t) (n : Nat) (f : RingFrame) (w : Nat) : s.Moves (t.accountDraw n f w) :=
  ((h.modifyRecord ..).modifyEntry ..).finishIfDone n

theorem openBuffer (h : s.Moves t) (n b : Nat) (run : Extent) (offset room : Nat) (bytes : List Byte) :
    s.Moves (t.openBuffer n b run offset room bytes) := by
  unfold State.openBuffer
  dsimp only
  split
  · exact (h.setBuffer ..).modifyEntry ..
  · exact (((h.fillBuffer ..).sealCurrent ..).setBuffer ..).modifyEntry ..

theorem openAndDraw (h : s.Moves t) (n b : Nat) (f : RingFrame) : s.Moves (t.openAndDraw n b f) := by
  unfold State.openAndDraw
  split
  · split
    · exact h.runRefused _
    · next hrun =>
      split
      · exact ((h.allocate hrun).abandonTake ..).refreshStation
      · exact (((h.allocate hrun).modifyRecord ..).openBuffer ..).accountDraw ..
  · exact h

theorem drawOpening (h : s.Moves t) (r : Record) (e : QueueEntry) (f : RingFrame) : s.Moves (t.drawOpening r e f) := by
  unfold State.drawOpening
  split
  · exact h
  · split
    · split
      · exact (h.doSplit ..).openAndDraw ..
      · exact h.refuseSplit ..
    · exact h.openAndDraw ..

theorem drawFrame (h : s.Moves t) : s.Moves t.drawFrame := by
  unfold State.drawFrame
  split
  · exact h
  · split
    · exact h
    · split
      · exact h
      · split
        · split
          · exact (h.fillBuffer ..).accountDraw ..
          · exact h.drawOpening ..
        · exact h.drawOpening ..

theorem reportCompletion (h : s.Moves t) (n : Nat) : s.Moves (t.reportCompletion n) := by
  unfold State.reportCompletion
  split
  · exact h.askWrite n
  · split
    · exact h
    · split
      · exact h.askCheckpoint n
      · exact h

theorem segmentDone (h : s.Moves t) (b i : Nat) : s.Moves (t.segmentDone b i) := by
  unfold State.segmentDone
  split
  · exact h
  · dsimp only
    split
    · exact h.setBuffer ..
    · split
      · exact ((h.setBuffer ..).modifyEntry ..).reportCompletion _
      · exact h.setBuffer ..

theorem remapRuns (fuel left segBlock room : Nat) (h : s.Moves t) : s.Moves (t.remapRuns fuel left segBlock room).2.2 := by
  induction fuel generalizing t left segBlock room with
  | zero => exact h
  | succ fuel ih =>
    unfold State.remapRuns
    split
    · exact h
    · split
      · exact h
      · next hrun =>
        split
        · exact h.allocate hrun
        · exact ih _ _ _ (h.allocate hrun)

theorem handOver (h : s.Moves t) (b k : Nat) (l : List Piece) : s.Moves (t.handOver b k l) := by
  induction l generalizing t k with
  | nil => exact h
  | cons _ l ih => exact ih (h.askNew _) _

theorem remapSegment (h : s.Moves t) (b : Nat) (seg : Segment) (p : Piece) (bad : Nat) : s.Moves (t.remapSegment b seg p bad) := by
  unfold State.remapSegment
  dsimp only
  split
  · exact h.growDefect bad
  · have hcut := fun f => (h.growDefect bad).modifyRecord seg.take f
    split
    · exact ((hcut _).abandonTake ..).refreshStation
    · split
      · exact ((remapRuns _ _ _ _ (hcut _)).abandonTake ..).refreshStation
      · exact ((remapRuns _ _ _ _ (hcut _)).modifyRecord ..).runRefused _
      · exact (((remapRuns _ _ _ _ (hcut _)).modifyRecord ..).setBuffer ..).handOver ..

theorem segmentFailed (h : s.Moves t) (b i bad : Nat) : s.Moves (t.segmentFailed b i bad) := by
  unfold State.segmentFailed
  split
  · exact h
  · split
    · exact h
    · dsimp only
      split
      · exact h.setBuffer ..
      · split
        · exact (h.setBuffer ..).faultMedia
        · exact ((h.setBuffer ..).remapSegment ..).announce _

/-! ### The card -/

theorem askSlots (h : s.Moves t) (first n : Nat) : s.Moves (t.askSlots first n) := by
  unfold State.askSlots
  generalize (List.range n).map (first + ·) = l
  induction l generalizing t with
  | nil => exact h
  | cons k l ih => exact ih (h.askNew _)

theorem setCapacity (h : s.Moves t) (blocks : Nat) : s.Moves (t.setCapacity blocks) := by
  unfold State.setCapacity
  dsimp only
  split
  · exact endUnprepared (h.beside ⟨rfl, rfl, rfl, rfl⟩)
  · exact askNew (setMount (h.withBlocks ..) _) _

theorem sizeEnded (h : s.Moves t) (blocks : Option Nat) (op : Op) : s.Moves (t.sizeEnded blocks op) := by
  unfold State.sizeEnded
  split
  · refine announce ?_ _
    split
    · exact h.setCapacity _
    · split
      · exact h.retry op
      · exact h.setCapacity _
  · exact h

theorem judgeHeader (h : s.Moves t) (block : Option (List Byte)) : s.Moves (t.judgeHeader block) := by
  unfold State.judgeHeader
  split
  · exact h.endUnprepared
  · exact askSlots (loadProfile (h.withBlocks ..) _) _ _

theorem headerReadEnded (h : s.Moves t) (block : Option (List Byte)) (op : Op) : s.Moves (t.headerReadEnded block op) := by
  unfold State.headerReadEnded
  split
  · refine announce ?_ _
    split
    · exact h.retry op
    · exact h.judgeHeader block
  · exact h

theorem recoverMirror (h : s.Moves t) : s.Moves t.recoverMirror := h.beside ⟨rfl, rfl, rfl, rfl⟩

theorem endMount (h : s.Moves t) : s.Moves t.endMount := by
  unfold State.endMount
  dsimp only
  split
  · exact ((h.recoverMirror.setMount _).setMedia _).flagRecords _ _
  · exact askWrites ((h.recoverMirror.setMount _).setMedia _).refreshStation _

theorem enterSlot (h : s.Moves t) (e : MirrorEntry) : s.Moves (t.enterSlot e) := h.beside ⟨rfl, rfl, rfl, rfl⟩

theorem scanOn (h : s.Moves t) (k last run : Nat) (results : List (Nat × Option (List Byte))) :
    s.Moves (t.scanOn k last run results) := by
  unfold State.scanOn
  split
  · exact h.endMount
  · split
    · exact (h.setMount _).askSlots ..
    · exact h.setMount _

theorem examineSlot (h : s.Moves t) (k last run : Nat) (results : List (Nat × Option (List Byte))) (content : Option (List Byte)) :
    s.Moves (t.examineSlot k last run results content) := by
  unfold State.examineSlot
  split
  · exact h.endMount
  · exact h.endMount
  · exact (h.enterSlot _).scanOn ..
  · split
    · exact endMount (h.beside ⟨rfl, rfl, rfl, rfl⟩)
    · exact (h.enterSlot _).scanOn ..

theorem examine (fuel : Nat) (h : s.Moves t) : s.Moves (t.examine fuel) := by
  induction fuel generalizing t with
  | zero => exact h
  | succ fuel ih =>
    unfold State.examine
    split
    · split
      · exact h
      · exact ih (h.examineSlot ..)
    all_goals exact h

theorem slotReadEnded (h : s.Moves t) (content : Option (List Byte)) (op : Op) : s.Moves (t.slotReadEnded content op) := by
  unfold State.slotReadEnded
  split
  · split
    · exact h.retry op
    · exact (examine _ (h.setMount _)).announce _
  · exact h

/-! ### Completions of journal and header writes -/

theorem closeFinal (h : s.Moves t) (n : Nat) : s.Moves (t.closeFinal n) := h.beside (by simp)

theorem journalDone (h : s.Moves t) (n : Nat) (op : Op) : s.Moves (t.journalDone n op) := by
  unfold State.journalDone
  dsimp only
  have hclosed : s.Moves (if op.isFinal then
      ((t.endWrite n).modifySlot n fun sl => { sl with firstDone := true }).closeFinal n
      else (t.endWrite n).modifySlot n fun sl => { sl with firstDone := true }) := by
    split
    · exact ((h.endWrite n).modifySlot ..).closeFinal n
    · exact (h.endWrite n).modifySlot ..
  revert hclosed
  generalize (if op.isFinal then _ else _ : State) = u
  intro hclosed
  split
  · split
    · exact hclosed.askWrite n
    · exact hclosed.flagRecord ..
  · exact hclosed

theorem dropWrite (h : s.Moves t) (n : Nat) : s.Moves (t.dropWrite n) := h.beside (by simp)

theorem failAfterFault (h : s.Moves t) (op : Op) : s.Moves (t.failAfterFault op) := by
  unfold State.failAfterFault
  split
  · exact h
  · exact h.abortRelease

theorem journalEnded (h : s.Moves t) (ok : Bool) (op : Op) : s.Moves (t.journalEnded ok op) := by
  unfold State.journalEnded
  split
  · split
    · exact h.journalDone ..
    · unfold State.journalFailed
      split
      · exact (h.dropWrite _).failAfterFault op
      · split
        · exact h.retry op
        · exact (h.dropWrite _).faultMedia
  · exact h

theorem headerWriteEnded (h : s.Moves t) (ok : Bool) (op : Op) : s.Moves (t.headerWriteEnded ok op) := by
  unfold State.headerWriteEnded
  split
  · split
    · exact h.endHeaderWrite.askHeaderRewrite
    · exact h.endHeaderWrite
  · split
    · exact h.endHeaderWrite.failAfterFault op
    · split
      · exact h.retry op
      · exact h.endHeaderWrite.faultMedia

theorem segmentEnded (h : s.Moves t) (failed : Option Nat) (op : Op) : s.Moves (t.segmentEnded failed op) := by
  unfold State.segmentEnded
  split
  · exact h.segmentDone ..
  · exact h.segmentFailed ..
  · exact h

/-! ### Preparing and releasing -/

theorem preparing_of_preparingIn {phase : PreparePhase} {x : Requester × PreparePlan} (hx : t.preparingIn phase = some x) :
    t.verify.slot.isVerifying = false := by
  unfold State.preparingIn at hx
  split at hx <;> simp_all [LongOp.isVerifying]

theorem setPhase (h : s.Moves t) (ht : t.verify.slot.isVerifying = false) (who : Requester) (plan : PreparePlan) (phase : PreparePhase) :
    s.Moves (t.setPhase who plan phase) := .tail h (.slot _ _ ht rfl)

theorem prepareFailed (h : s.Moves t) (op : Op) : s.Moves (t.prepareFailed op) := by
  unfold State.prepareFailed
  split
  · exact h.retry op
  · exact h.faultMedia

theorem prepareHeaderEnded (h : s.Moves t) (ok : Bool) (op : Op) : s.Moves (t.prepareHeaderEnded ok op) := by
  unfold State.prepareHeaderEnded
  split
  · exact h
  · next hx =>
    split
    · exact (h.setPhase (preparing_of_preparingIn hx) ..).ask ..
    · exact h.prepareFailed op

theorem prepared (h : s.Moves t) (ht : t.verify.slot.isVerifying = false) (plan : PreparePlan) : s.Moves (t.prepared plan) := by
  unfold State.prepared
  exact refreshStation (.tail (loadProfile (h.withBlocks ..) _) (.slot _ .idle ht rfl))

theorem prepareZeroEnded (h : s.Moves t) (ok : Bool) (op : Op) : s.Moves (t.prepareZeroEnded ok op) := by
  unfold State.prepareZeroEnded
  split
  · exact h
  · next hx =>
    split
    · exact ((h.prepared (preparing_of_preparingIn hx) _).announce _).finalReport ..
    · exact h.prepareFailed op

theorem releaseIfDrained (h : s.Moves t) : s.Moves t.releaseIfDrained := by
  unfold State.releaseIfDrained
  split
  · next hslot =>
    split
    · exact h
    · exact ((refreshStation (.tail (h.setMedia _) (.slot _ .idle (by simp [hslot, LongOp.isVerifying]) rfl))).announce _).finalReport ..
  all_goals exact h

/-! ### The clock and the events that fall due -/

theorem returnClock (h : s.Moves t) : s.Moves t.returnClock := by
  exact announce (refreshStation (h.withBlocks ..)) _

theorem storeFrame (h : s.Moves t) (words : Vector (Option Sample) 16) : s.Moves (t.storeFrame words) := by
  refine beside (h.chargeAll (t.intake.position + 1 - ringSlots)) ?_
  unfold State.storeFrame State.advancePosition
  dsimp only
  split <;> exact ⟨rfl, rfl, rfl, rfl⟩

theorem cutAtLoss (h : s.Moves t) (n : Nat) : s.Moves (t.cutAtLoss n) :=
  ((h.clearOpen.setTake _).flagRecord ..).closeTake ..

/-! ### Rolls, cuts, notes and marks -/

theorem joinTake (h : s.Moves t) (n : Nat) (k : TakeKey) : s.Moves (t.joinTake n k) := by
  exact announce (withBlocks (h.modifyRecord ..) ..) _

theorem refuseRoll (h : s.Moves t) (r : RefusalReason) : s.Moves (t.refuseRoll r) :=
  queueState (h.beside ⟨rfl, rfl, rfl, rfl⟩)

theorem lastHolderLeft (h : s.Moves t) (n : Nat) (pt : Point) : s.Moves (t.lastHolderLeft n pt) := by
  unfold State.lastHolderLeft
  split
  · dsimp only
    split
    · exact beside (h.modifyRecord ..) ⟨rfl, rfl, rfl, rfl⟩
    · exact ((h.modifyRecord ..).clearOpen.closeTake ..).enterStandby
  · exact h

theorem noteTake (h : s.Moves t) (st : SlateStamp) (fs : NoteFields) (n : Nat) : s.Moves (t.noteTake st fs n) := by
  unfold State.noteTake
  split
  · exact h
  · dsimp only
    split
    · exact h
    · exact (h.modifyRecord ..).changeRecord n

theorem insertMark (h : s.Moves t) (n : Nat) (m : Marker) : s.Moves (t.insertMark n m) := by
  unfold State.insertMark
  split
  · exact h
  · split
    · exact (h.modifyRecord ..).changeRecord n
    · split
      · exact h
      · exact (h.flagRecord ..).changeRecord n

end State.Moves

end Sys2Proof.Machine

/-! The transmit queue (R160, R166–R171): every way a frame enters it, and every step of an attempt, keeps it sound. -/

namespace Sys2Proof.Machine

/-! ### The head of the queue and what follows it -/

/-- The head's part of `Link.Sound`: only the head is past its first attempt, and what is sent is its own bits. -/
def Link.HeadSound (station : Nat) (driving : Option (List Bool)) (queue : List TxFrame) : Prop :=
  (∀ f ∈ queue.tail, f.attempts = 0 ∧ f.phase = .idle) ∧ (∀ f ∈ queue.head?, f.Head)
    ∧ (driving.isSome = true ↔ ∃ f ∈ queue.head?, f.phase = .attempting)
    ∧ ∀ f ∈ queue.head?, ∀ bits ∈ driving, bits = f.body.wireBits station

theorem Link.sound_iff (l : Link) : l.Sound ↔ l.queue.length ≤ maxTransmit
    ∧ (l.listenOnly = true → l.queue = [] ∧ l.owed = false ∧ l.linkTrouble = false)
    ∧ (l.queue.filter TxFrame.waitingState).length ≤ 1
    ∧ (l.owed = true → l.queue.length = maxTransmit ∧ l.queue.any TxFrame.waitingState = false
        ∧ l.queue.any TxFrame.waitingReport = false)
    ∧ Link.HeadSound l.station l.driving l.queue := Iff.rfl

/-- A frame in the state in which it enters the queue. -/
def TxFrame.Untried (f : TxFrame) : Prop := f.attempts = 0 ∧ f.phase = .idle

theorem TxFrame.untried_fresh (b : TxBody) : (TxFrame.fresh b).Untried := ⟨rfl, rfl⟩

/-- A queue of frames that wait is in order while nothing is sent. -/
theorem Link.headSound_of_untried {station : Nat} {queue : List TxFrame} (h : ∀ f ∈ queue, f.Untried) :
    Link.HeadSound station none queue := by
  refine ⟨fun f hf => h f (List.mem_of_mem_tail hf), fun f hf => ?_, ?_, by simp⟩
  · obtain ⟨hattempts, hphase⟩ := h f (List.mem_of_mem_head? hf)
    simp [TxFrame.Head, hattempts, hphase, maxSendAttempts]
  · simp only [Option.isSome_none, Bool.false_eq_true, false_iff]
    rintro ⟨f, hf, hphase⟩
    exact absurd ((h f (List.mem_of_mem_head? hf)).2.symm.trans hphase) nofun

/-- Frames that wait may take the place of the frames behind the head. -/
theorem Link.HeadSound.replaceTail {station : Nat} {driving : Option (List Bool)} {f : TxFrame} {rest rest' : List TxFrame}
    (h : Link.HeadSound station driving (f :: rest)) (hrest : ∀ x ∈ rest', x.Untried) :
    Link.HeadSound station driving (f :: rest') := ⟨hrest, h.2⟩

/-- With no head, or one that waits, nothing is sent. -/
theorem Link.HeadSound.driving_eq_none {station : Nat} {driving : Option (List Bool)} {queue : List TxFrame}
    (h : Link.HeadSound station driving queue) (hhead : ∀ f ∈ queue.head?, f.attempts = 0) : driving = none := by
  obtain ⟨_, hhead', hdriving, _⟩ := h
  cases driving with
  | none => rfl
  | some bits =>
    obtain ⟨f, hf, hphase⟩ := hdriving.1 rfl
    have := (hhead' f hf).2.2 (by simp [hphase])
    simp [hhead f hf] at this

theorem Link.HeadSound.append {station : Nat} {driving : Option (List Bool)} {queue : List TxFrame} {x : TxFrame}
    (h : Link.HeadSound station driving queue) (hx : x.Untried) : Link.HeadSound station driving (queue ++ [x]) := by
  cases queue with
  | nil =>
    rw [h.driving_eq_none (by simp)]
    exact headSound_of_untried (by simpa using hx)
  | cons f rest => exact h.replaceTail (fun y hy => by
    rcases List.mem_append.1 hy with hy | hy
    · exact h.1 y hy
    · exact List.eq_of_mem_singleton hy ▸ hx)

/-- A waiting frame leaves the queue. -/
theorem Link.HeadSound.eraseP {station : Nat} {driving : Option (List Bool)} {queue : List TxFrame} {p : TxFrame → Bool}
    (h : Link.HeadSound station driving queue) (hp : ∀ f, p f = true → f.attempts = 0) :
    Link.HeadSound station driving (queue.eraseP p) := by
  cases queue with
  | nil => exact h
  | cons f rest =>
    rw [List.eraseP_cons]
    cases hf : p f with
    | true =>
      rw [h.driving_eq_none (by simpa using hp f hf)]
      exact headSound_of_untried h.1
    | false => exact h.replaceTail fun x hx => h.1 x (List.mem_of_mem_eraseP hx)

theorem TxFrame.attempts_of_waitingState {f : TxFrame} (h : f.waitingState = true) : f.attempts = 0 := by
  simp_all [TxFrame.waitingState, TxFrame.waiting]
theorem TxFrame.attempts_of_waitingReport {f : TxFrame} (h : f.waitingReport = true) : f.attempts = 0 := by
  simp_all [TxFrame.waitingReport, TxFrame.waiting]

/-! ### Counting waiting STATE frames -/

theorem filter_waitingState_of_any {l : List TxFrame} (h : l.any TxFrame.waitingState = false) : l.filter TxFrame.waitingState = [] := by
  simpa [List.filter_eq_nil_iff] using h

theorem length_filter_waitingState_eraseP (l : List TxFrame) (p : TxFrame → Bool) :
    ((l.eraseP p).filter TxFrame.waitingState).length ≤ (l.filter TxFrame.waitingState).length :=
  (List.eraseP_sublist.filter _).length_le

theorem filter_waitingState_eraseP {l : List TxFrame} (h : (l.filter TxFrame.waitingState).length ≤ 1) :
    (l.eraseP TxFrame.waitingState).filter TxFrame.waitingState = [] := by
  induction l with
  | nil => rfl
  | cons f l ih =>
    rw [List.eraseP_cons]
    cases hf : f.waitingState with
    | true => simpa [hf] using h
    | false => simpa [hf] using ih (by simpa [hf] using h)

theorem length_eraseP_append {l : List TxFrame} {p : TxFrame → Bool} (h : l.any p = true) (x : TxFrame) :
    (l.eraseP p ++ [x]).length = l.length := by
  obtain ⟨f, hf, hp⟩ := List.any_eq_true.1 h
  have hpos := List.length_pos_of_mem hf
  rw [List.length_append, List.length_eraseP_of_mem hf hp, List.length_singleton]
  omega

/-! ### Frames that enter the queue -/

theorem Link.sound_enqueueState {l : Link} (h : l.Sound) (c : StateContent) : (l.enqueueState c).Sound := by
  unfold Link.enqueueState
  split
  · exact h
  next hlisten =>
  obtain ⟨hlength, -, hstates, howed, hhead⟩ := l.sound_iff.1 h
  have hfresh := TxFrame.untried_fresh (.state c)
  split
  · next hany =>
    refine ⟨(length_eraseP_append hany _).trans_le hlength, fun hl => absurd hl hlisten, ?_, fun ho => ?_,
      (hhead.eraseP fun _ => TxFrame.attempts_of_waitingState).append hfresh⟩
    · rw [List.filter_append, filter_waitingState_eraseP hstates]
      simp [TxFrame.fresh, TxFrame.waitingState, TxFrame.waiting, TxBody.isState]
    · exact absurd hany (by simp [(howed ho).2.1])
  next hnone =>
  rw [Bool.not_eq_true] at hnone
  split
  · next hroom =>
    refine ⟨by simpa using hroom, fun hl => absurd hl hlisten, ?_, fun ho => absurd (howed ho).1 (by omega), hhead.append hfresh⟩
    simp [filter_waitingState_of_any hnone, List.filter_cons, apply_ite List.length]
    split <;> omega
  next hfull =>
  split
  · next hany =>
    refine ⟨(length_eraseP_append hany _).trans_le hlength, fun hl => absurd hl hlisten, ?_, fun ho => ?_,
      (hhead.eraseP fun _ => TxFrame.attempts_of_waitingReport).append hfresh⟩
    · have hle := length_filter_waitingState_eraseP l.queue TxFrame.waitingReport
      rw [filter_waitingState_of_any hnone] at hle
      simp [List.eq_nil_of_length_eq_zero (Nat.le_zero.1 hle), List.filter_cons, apply_ite List.length]
      split <;> omega
    · exact absurd hany (by simp [(howed ho).2.2])
  · next hnoReport =>
    exact ⟨hlength, fun hl => absurd hl hlisten, hstates, fun _ => ⟨by exact Nat.le_antisymm hlength (not_lt.1 hfull), hnone, by simpa using hnoReport⟩, hhead⟩

theorem TxFrame.waitingState_fresh {b : TxBody} (hb : b.isState = false) : (TxFrame.fresh b).waitingState = false := by
  simp [TxFrame.fresh, TxFrame.waitingState, hb]

/-- A frame that is no STATE joins the end of a queue with room. -/
theorem Link.sound_append {l : Link} (h : l.Sound) (hlisten : ¬ l.listenOnly = true) (hroom : l.queue.length < maxTransmit) {b : TxBody}
    (hb : b.isState = false) : { l with queue := l.queue ++ [TxFrame.fresh b] }.Sound := by
  obtain ⟨-, -, hstates, howed, hhead⟩ := l.sound_iff.1 h
  refine ⟨by simpa using hroom, fun hl => absurd hl hlisten, ?_, fun ho => absurd (howed ho).1 (by omega),
    hhead.append (TxFrame.untried_fresh b)⟩
  simpa [List.filter_append, TxFrame.waitingState_fresh hb] using hstates

theorem Link.sound_enqueueTransport {l : Link} (h : l.Sound) {b : TxBody} (hb : b.isState = false) : (l.enqueueTransport b).Sound := by
  unfold Link.enqueueTransport
  split
  · exact h
  next hlisten =>
  split
  · next hroom => exact sound_append h hlisten hroom hb
  obtain ⟨hlength, -, hstates, howed, hhead⟩ := l.sound_iff.1 h
  split
  · next hany =>
    refine ⟨(length_eraseP_append hany _).trans_le hlength, fun hl => absurd hl hlisten, ?_, fun ho => ?_,
      (hhead.eraseP fun _ => TxFrame.attempts_of_waitingReport).append (TxFrame.untried_fresh b)⟩
    · rw [List.filter_append, List.length_append]
      simpa [TxFrame.waitingState_fresh hb] using (length_filter_waitingState_eraseP _ _).trans hstates
    · exact absurd hany (by simp [(howed ho).2.2])
  · exact ⟨hlength, fun hl => absurd hl hlisten, hstates, howed, hhead⟩

theorem Link.sound_enqueueReport {l : Link} (h : l.Sound) (r : Report) : (l.enqueueReport r).Sound := by
  unfold Link.enqueueReport
  split
  · exact h
  next hlisten =>
  split
  · next hroom => exact sound_append h hlisten hroom rfl
  · exact h

theorem State.Moves.link_sound {s t : State} (h : s.Moves t) (hs : s.link.Sound) : t.link.Sound := by
  refine h.induct (P := fun s => s.link.Sound) (fun a b hmove ha => ?_) hs
  cases hmove with
  | beside h => exact h.2.2.1 ▸ ha
  | state c => exact Link.sound_enqueueState ha c
  | transport b hb => exact Link.sound_enqueueTransport ha hb
  | report r => exact Link.sound_enqueueReport ha r
  | _ => exact ha

/-! ### Attempts -/

/-- A station that sends is not LISTEN-ONLY. -/
theorem Link.not_listenOnly {l : Link} (h : l.Sound) {f : TxFrame} {rest : List TxFrame} (hq : l.queue = f :: rest) :
    ¬ l.listenOnly = true := fun hl => by
  have hempty := (h.2.1 hl).1
  simp [hq] at hempty

/-- What follows the head waits. -/
theorem Link.untried_of_tail {l : Link} (h : l.Sound) {f : TxFrame} {rest : List TxFrame} (hq : l.queue = f :: rest) :
    ∀ x ∈ rest, x.Untried := by
  obtain ⟨-, -, -, -, htail, -⟩ := l.sound_iff.1 h
  rw [hq] at htail
  exact htail

theorem Link.head_of_sound {l : Link} (h : l.Sound) {f : TxFrame} {rest : List TxFrame} (hq : l.queue = f :: rest) : f.Head := by
  obtain ⟨-, -, -, -, -, hhead, -⟩ := l.sound_iff.1 h
  exact hhead f (by simp [hq])

/-- The head changes its phase or its count of attempts, which is not 0 after the change, or was 0 before it. -/
theorem Link.sound_replaceHead {l : Link} (h : l.Sound) {f g : TxFrame} {rest : List TxFrame} (hq : l.queue = f :: rest)
    (hbody : g.body = f.body) (hwaits : g.attempts = 0 → f.attempts = 0) {driving : Option (List Bool)}
    (hhead : Link.HeadSound l.station driving (g :: rest)) : { l with queue := g :: rest, driving := driving }.Sound := by
  have hstate : g.waitingState = true → f.waitingState = true := by
    simp only [TxFrame.waitingState, TxFrame.waiting, Bool.and_eq_true, beq_iff_eq, hbody]
    exact And.imp_left hwaits
  have hreport : g.waitingReport = true → f.waitingReport = true := by
    simp only [TxFrame.waitingReport, TxFrame.waiting, Bool.and_eq_true, beq_iff_eq, hbody]
    exact And.imp_left hwaits
  have hlisten := Link.not_listenOnly h hq
  obtain ⟨hlength, -, hstates, howed, -⟩ := l.sound_iff.1 h
  rw [hq] at hlength hstates howed
  refine ⟨hlength, fun hl => absurd hl hlisten, ?_, fun ho => ?_, hhead⟩
  · refine le_trans ?_ hstates
    simp only [List.filter_cons]
    cases hg : g.waitingState with
    | true => simp [hstate hg]
    | false => cases f.waitingState <;> simp
  · obtain ⟨hfull, hnoState, hnoReport⟩ := howed ho
    refine ⟨hfull, ?_, ?_⟩
    · cases hg : g.waitingState <;> simp_all
    · cases hg : g.waitingReport <;> simp_all

theorem Link.sound_beginAttempt {l : Link} (h : l.Sound) {f : TxFrame} {rest : List TxFrame} (hq : l.queue = f :: rest)
    (hidle : f.phase = .idle) : (l.beginAttempt f rest).Sound := by
  refine sound_replaceHead (g := { f with attempts := f.attempts + 1, phase := .attempting })
    (driving := some (f.body.wireBits l.station)) h hq rfl (by simp) ⟨untried_of_tail h hq, ?_, by simp, by simp⟩
  have := (head_of_sound h hq).2.1 (by simp [hidle])
  simp [TxFrame.Head]
  omega

theorem Link.sound_backOff {l : Link} (h : l.Sound) {f : TxFrame} {rest : List TxFrame} (hq : l.queue = f :: rest)
    (hphase : f.phase = .attempting) (hlast : f.attempts < maxSendAttempts) : (l.backOff f rest).Sound := by
  refine sound_replaceHead (g := { f with phase := .backoff (backoffSlots f.attempts l.station) }) (driving := none) h hq rfl id
    ⟨untried_of_tail h hq, ?_, by simp, by simp⟩
  have := (head_of_sound h hq).2.2 (by simp [hphase])
  simp [TxFrame.Head]
  omega

theorem Link.sound_endBackoff {l : Link} (h : l.Sound) {f : TxFrame} {rest : List TxFrame} (hq : l.queue = f :: rest)
    (hphase : f.inBackoff = true) : { l with queue := { f with phase := .idle } :: rest }.Sound := by
  have hhead := head_of_sound h hq
  have hnot : f.phase ≠ .attempting := by rintro hp; simp [TxFrame.inBackoff, hp] at hphase
  have hdriving : l.driving = none := by
    obtain ⟨-, -, -, -, -, -, hdriving, -⟩ := l.sound_iff.1 h
    simpa [hq, hnot] using hdriving
  have hsound : { l with queue := { f with phase := .idle } :: rest, driving := none }.Sound := by
    refine sound_replaceHead (g := { f with phase := .idle }) (driving := none) h hq rfl id
      ⟨untried_of_tail h hq, ?_, by simp, by simp⟩
    have := hhead.2.1 hnot
    simp [TxFrame.Head]
    omega
  rwa [← hdriving] at hsound

theorem State.link_sound_headLeaves {s : State} (h : s.link.Sound) {f : TxFrame} {rest : List TxFrame} (hq : s.link.queue = f :: rest)
    (trouble : Bool) : (s.headLeaves trouble rest).link.Sound := by
  have hlisten := Link.not_listenOnly h hq
  have hrest := Link.untried_of_tail h hq
  obtain ⟨hlength, -, hstates, -, -⟩ := s.link.sound_iff.1 h
  rw [hq] at hlength hstates
  have hpaid : { s.link with queue := rest, linkTrouble := trouble, driving := none, owed := false }.Sound := by
    refine ⟨(Nat.le_succ _).trans hlength, fun hl => absurd hl hlisten, ?_, nofun, Link.headSound_of_untried hrest⟩
    exact ((List.sublist_cons_self f rest).filter _).length_le.trans hstates
  unfold State.headLeaves State.payOwed
  split
  · exact Link.sound_enqueueState hpaid _
  · next howed =>
    simp only [Bool.not_eq_true] at howed
    simpa [howed] using hpaid

end Sys2Proof.Machine

/-! The port and the verify window: what the moves, the grants and the reads of a verify keep of them (R120, R150, R152). -/

namespace Sys2Proof.Machine

/-! ### The port -/

/-- The port before the grants of a step: `Port.Sound` but for the operations that may still wait beside a free slot. -/
def Port.Numbered (p : Port) : Prop :=
  p.outstanding.length ≤ maxOutstanding ∧ (∀ op ∈ p.waiting ++ p.outstanding, op.id < p.nextOp)
    ∧ ((p.waiting ++ p.outstanding).map (·.id)).Nodup

/-- No operation waits beside a free slot. -/
def Port.Settled (p : Port) : Prop := p.waiting = [] ∨ p.outstanding.length = maxOutstanding

theorem Port.sound_iff (p : Port) : p.Sound ↔ p.Numbered ∧ p.Settled := by
  unfold Port.Sound Port.Numbered Port.Settled
  tauto

/-- A part of a numbered port is numbered. -/
theorem Port.Numbered.mono {p q : Port} (h : p.Numbered) (hwaiting : q.waiting.Sublist p.waiting)
    (hout : q.outstanding.Sublist p.outstanding) (hnext : p.nextOp ≤ q.nextOp) : q.Numbered := by
  obtain ⟨hlength, hids, hnodup⟩ := h
  have hsub := hwaiting.append hout
  exact ⟨hout.length_le.trans hlength, fun op hop => (hids op (hsub.subset hop)).trans_le hnext, hnodup.sublist (hsub.map _)⟩

theorem State.port_numbered_ask {s : State} (h : s.port.Numbered) (k : OpKind) (a : Nat) (b : Option (List Byte)) (f : Bool) :
    (s.ask k a b f).port.Numbered := by
  obtain ⟨hlength, hids, hnodup⟩ := h
  refine ⟨hlength, fun op hop => ?_, ?_⟩
  · simp only [State.ask_port, List.append_assoc, List.mem_append, List.mem_singleton] at hop ⊢
    rcases hop with hop | rfl | hop
    · exact (hids op (List.mem_append_left _ hop)).trans (Nat.lt_succ_self _)
    · exact Nat.lt_succ_self _
    · exact (hids op (List.mem_append_right _ hop)).trans (Nat.lt_succ_self _)
  · simp only [State.ask_port, List.append_assoc, List.map_append, List.map_cons, List.singleton_append]
    rw [List.nodup_middle, ← List.map_append, List.nodup_cons]
    refine ⟨fun hmem => ?_, hnodup⟩
    obtain ⟨op, hop, hid⟩ := List.mem_map.1 hmem
    exact absurd (hids op hop) (by simp [hid])

theorem State.Moves.port_numbered {s t : State} (h : s.Moves t) (hs : s.port.Numbered) : t.port.Numbered := by
  refine h.induct (P := fun s => s.port.Numbered) (fun a b hmove ha => ?_) hs
  cases hmove with
  | beside h => exact h.1 ▸ ha
  | ask => exact a.port_numbered_ask ha ..
  | withdraw p => exact ha.mono List.filter_sublist (.refl _) le_rfl
  | _ => exact ha

/-- What a grant of an operation leaves of the port: the operation, composed or not, takes an outstanding slot. -/
theorem State.grantOp_port (s : State) (op : Op) : ∃ op', op'.id = op.id ∧ op'.kind = op.kind ∧ op'.attempt = op.attempt
    ∧ (s.grantOp op).port = { s.port with outstanding := s.port.outstanding ++ [op'] } := by
  unfold State.grantOp
  split
  · unfold State.composeJournal
    split
    · dsimp only
      rw [State.occupy_port, (State.modifyRecord_frame ..).2.2.2.2.2.1]
      refine ⟨_, ?_, ?_, ?_, rfl⟩ <;> rfl
    · exact ⟨op, rfl, rfl, rfl, rfl⟩
  · unfold State.composeHeader
    split
    · rw [State.occupy_port]
      refine ⟨_, ?_, ?_, ?_, rfl⟩ <;> rfl
    · exact ⟨op, rfl, rfl, rfl, rfl⟩
  · exact ⟨op, rfl, rfl, rfl, by simp⟩
  all_goals exact ⟨op, rfl, rfl, rfl, rfl⟩

theorem OpKind.priority_cases (k : OpKind) : k.priority = 1 ∨ k.priority = 2 ∨ k.priority = 3 := by
  cases k <;> simp [OpKind.priority]

/-- The arbiter picks an operation exactly while one waits. -/
theorem pickNext_eq_none {l : List Op} : pickNext l = none ↔ l = [] := by
  constructor
  · intro h
    simp only [pickNext, Option.or_eq_none_iff, List.find?_eq_none] at h
    obtain ⟨h1, h2, h3⟩ := h
    refine List.eq_nil_iff_forall_not_mem.2 fun op hop => ?_
    rcases op.kind.priority_cases with hp | hp | hp
    · exact h1 op hop (by simp [hp])
    · exact h2 op hop (by simp [hp])
    · exact h3 op hop (by simp [hp])
  · rintro rfl; rfl

theorem mem_of_pickNext {l : List Op} {op : Op} (h : pickNext l = some op) : op ∈ l := by
  simp only [pickNext, Option.or_eq_some_iff] at h
  rcases h with h | ⟨-, h | ⟨-, h⟩⟩ <;> exact List.mem_of_find?_eq_some h

/-- One grant, if one is possible: an operation that waited is outstanding. -/
theorem State.grantOne_cases (s : State) : (s.grantOne = s ∧ (s.port.waiting = [] ∨ maxOutstanding ≤ s.port.outstanding.length))
    ∨ ∃ op, s.port.outstanding.length < maxOutstanding ∧ pickNext s.port.waiting = some op
      ∧ s.grantOne = (s.withdraw fun x => x.id == op.id).grantOp op := by
  unfold State.grantOne
  split
  · next hroom =>
    split
    · next hnone => exact .inl ⟨rfl, .inl (pickNext_eq_none.1 hnone)⟩
    · next op hop => exact .inr ⟨op, hroom, hop, rfl⟩
  · next hfull => exact .inl ⟨rfl, .inr (not_lt.1 hfull)⟩

theorem State.grantOne_of_settled {s : State} (h : s.port.Settled) : s.grantOne = s :=
  h.elim s.grantOne_of_idle fun hfull => s.grantOne_of_full hfull.ge

theorem State.grantOne_port {s : State} (h : s.port.Numbered) : s.grantOne.port.Numbered
    ∧ (s.grantOne.port.Settled ∨ s.grantOne.port.outstanding.length = s.port.outstanding.length + 1) := by
  rcases s.grantOne_cases with ⟨heq, hdone⟩ | ⟨op, hroom, hpick, heq⟩
  · rw [heq]
    exact ⟨h, .inl (hdone.imp_right h.1.antisymm)⟩
  · obtain ⟨op', hid, -, -, hport⟩ := (s.withdraw fun x => x.id == op.id).grantOp_port op
    obtain ⟨hlength, hids, hnodup⟩ := h
    have hop := mem_of_pickNext hpick
    rw [heq, hport]
    refine ⟨⟨by simpa using hroom, fun x hx => ?_, ?_⟩, .inr (by simp)⟩
    · simp only [State.withdraw_port, List.mem_append, List.mem_filter, List.mem_singleton] at hx ⊢
      rcases hx with ⟨hx, -⟩ | hx | rfl
      · exact hids x (List.mem_append_left _ hx)
      · exact hids x (List.mem_append_right _ hx)
      · exact hid ▸ hids op (List.mem_append_left _ hop)
    · rw [List.map_append, List.nodup_append'] at hnodup
      obtain ⟨hwaiting, hout, hdisjoint⟩ := hnodup
      have hnot : op.id ∉ s.port.outstanding.map (·.id) := hdisjoint (List.mem_map_of_mem hop)
      have hsub := (List.filter_sublist (p := fun x : Op => !x.id == op.id) (l := s.port.waiting)).map (·.id)
      simp only [State.withdraw_port, List.map_append, List.map_cons, List.map_nil, hid]
      refine List.nodup_append'.2 ⟨hwaiting.sublist hsub, List.nodup_append'.2 ⟨hout, by simp, by simpa using hnot⟩, ?_⟩
      refine List.disjoint_append_right.2 ⟨fun _ hx => hdisjoint (hsub.subset hx), ?_⟩
      simp

/-- After the grants of a step no operation waits beside a free slot (R120). -/
theorem State.port_sound_grant {s : State} (h : s.port.Numbered) : s.grant.port.Sound := by
  have hstep (t : State) (k : Nat) (ht : t.port.Numbered ∧ (t.port.Settled ∨ k ≤ t.port.outstanding.length)) :
      t.grantOne.port.Numbered ∧ (t.grantOne.port.Settled ∨ k + 1 ≤ t.grantOne.port.outstanding.length) := by
    obtain ⟨hnum, hcount⟩ := ht
    refine ⟨(grantOne_port hnum).1, ?_⟩
    rcases hcount with hsettled | hk
    · exact .inl (by rwa [grantOne_of_settled hsettled])
    · exact (grantOne_port hnum).2.imp_right fun hlength => by omega
  obtain ⟨hnum, hcount⟩ := hstep _ 3 (hstep _ 2 (hstep _ 1 (hstep s 0 ⟨h, .inr (Nat.zero_le _)⟩)))
  exact (Port.sound_iff _).2 ⟨hnum, hcount.elim id fun hfull => .inr (hnum.1.antisymm hfull)⟩

/-! ### The verify window -/

theorem WindowEntry.ended_grantWindow (id : Nat) (x : WindowEntry) : (grantWindow id x).ended = x.ended := by
  cases x with
  | waiting op a => simp only [grantWindow]; split <;> rfl
  | _ => rfl

/-- A window whose entries change one by one without the first one ending stands as well as before. -/
theorem Verify.sound_map {v : Verify} (h : v.Sound) {f : WindowEntry → WindowEntry}
    (hf : ∀ e ∈ v.window.head?, e.ended = false → (f e).ended = false) : { v with window := v.window.map f }.Sound := by
  obtain ⟨hlength, hcursor, hrest⟩ := h
  refine ⟨by simpa using hlength, by simpa using hcursor, ?_⟩
  dsimp only
  split
  · next hverifying =>
    rw [if_pos hverifying] at hrest
    obtain ⟨hfull, e, he, hended⟩ := hrest
    exact ⟨by simpa using hfull, f e, by simp [Option.mem_def.1 he], hf e he hended⟩
  · next hverifying =>
    rw [if_neg hverifying] at hrest
    simpa using hrest

theorem State.grantOp_verify (s : State) (op : Op) : (s.grantOp op).verify = s.verify
    ∨ (s.grantOp op).verify = { s.verify with window := s.verify.window.map (grantWindow op.id) } := by
  unfold State.grantOp
  split <;> simp

theorem State.verify_sound_grantOne {s : State} (h : s.verify.Sound) : s.grantOne.verify.Sound := by
  rcases s.grantOne_cases with ⟨heq, -⟩ | ⟨op, -, -, heq⟩
  · rwa [heq]
  · rw [heq]
    rcases (s.withdraw fun x => x.id == op.id).grantOp_verify op with hv | hv
    · rwa [hv]
    · rw [hv]
      exact Verify.sound_map h fun e _ he => (WindowEntry.ended_grantWindow op.id e).trans he

theorem State.verify_sound_grant {s : State} (h : s.verify.Sound) : s.grant.verify.Sound :=
  verify_sound_grantOne (verify_sound_grantOne (verify_sound_grantOne (verify_sound_grantOne h)))

theorem State.Moves.verify_sound {s t : State} (h : s.Moves t) (hs : s.verify.Sound) : t.verify.Sound := by
  refine h.induct (P := fun s => s.verify.Sound) (fun a b hmove ha => ?_) hs
  cases hmove with
  | beside h => exact h.2.1 ▸ ha
  | slot l hidle hl =>
    obtain ⟨hlength, hcursor, hrest⟩ := ha
    refine ⟨hlength, hcursor, ?_⟩
    dsimp only
    rw [if_neg (by simp [hidle])] at hrest
    rwa [if_neg (by simp [hl])]
  | _ => exact ha

/-- A verify that has ended leaves a sound unit. -/
theorem Verify.sound_released {v : Verify} (h : v.cursor ≤ v.positions) : v.released.Sound := by
  simpa [Verify.Sound, Verify.released, LongOp.isVerifying] using h

theorem Verify.Sound.cursor_le {v : Verify} (h : v.Sound) : v.cursor ≤ v.positions := by
  have := h.2.1
  omega

/-- The window of a running verify before the positions at its cursor are taken and others come in. -/
def Verify.InOrder (v : Verify) : Prop := v.window.length ≤ windowSize ∧ v.cursor + v.window.length ≤ v.positions

/-- Positions are taken until the first has not ended (R152). -/
theorem Verify.takePositions_spec (fuel : Nat) (v : Verify) (h : v.InOrder) (hfuel : v.window.length ≤ fuel) :
    (v.takePositions fuel).InOrder ∧ (v.takePositions fuel).slot = v.slot ∧ (v.takePositions fuel).positions = v.positions
      ∧ ∀ e ∈ (v.takePositions fuel).window.head?, e.ended = false := by
  induction fuel generalizing v with
  | zero => exact ⟨h, rfl, rfl, by simp [Verify.takePositions, List.eq_nil_of_length_eq_zero (Nat.le_zero.1 hfuel)]⟩
  | succ fuel ih =>
    have htake (e : WindowEntry) (rest : List WindowEntry) (bytes : List Byte) (hw : v.window = e :: rest) :
        (v.takeBytes bytes rest).InOrder ∧ (v.takeBytes bytes rest).window.length ≤ fuel := by
      simp only [Verify.InOrder, hw, List.length_cons] at h hfuel
      simp only [Verify.InOrder, Verify.takeBytes]
      omega
    unfold Verify.takePositions
    split
    · next hw => exact ih _ (htake _ _ _ hw).1 (htake _ _ _ hw).2
    · next hw => exact ih _ (htake _ _ _ hw).1 (htake _ _ _ hw).2
    · next hheld hgiven =>
      refine ⟨h, rfl, rfl, fun e he => ?_⟩
      obtain ⟨rest, hw⟩ := List.head?_eq_some_iff.1 he
      cases e with
      | held a b => exact absurd hw (hheld a b rest)
      | givenUp a => exact absurd hw (hgiven a rest)
      | _ => rfl

/-- Reads are asked until the window is as long as it can be (R150). -/
theorem State.fillWindow_spec (fuel : Nat) (s : State) (h : s.verify.InOrder) (hfuel : windowSize ≤ s.verify.window.length + fuel) :
    (s.fillWindow fuel).verify.InOrder
      ∧ ((s.fillWindow fuel).verify.window.length = windowSize
        ∨ (s.fillWindow fuel).verify.cursor + (s.fillWindow fuel).verify.window.length = (s.fillWindow fuel).verify.positions)
      ∧ (s.fillWindow fuel).verify.slot = s.verify.slot
      ∧ ((∀ e ∈ s.verify.window.head?, e.ended = false) → ∀ e ∈ (s.fillWindow fuel).verify.window.head?, e.ended = false)
      ∧ (s.verify.cursor < s.verify.positions → (s.fillWindow fuel).verify.cursor < (s.fillWindow fuel).verify.positions) := by
  induction fuel generalizing s with
  | zero => exact ⟨h, .inl (h.1.antisymm hfuel), rfl, id, id⟩
  | succ fuel ih =>
    obtain ⟨hlength, hcursor⟩ := h
    unfold State.fillWindow
    dsimp only
    split
    · next hroom =>
      have hasked : (s.askRead (s.verify.cursor + s.verify.window.length)).verify
          = { s.verify with window := s.verify.window ++ [.waiting s.port.nextOp 1] } := rfl
      obtain ⟨hin, hfull, hslot, hhead, hleft⟩ := ih (s.askRead (s.verify.cursor + s.verify.window.length))
        (by simp only [hasked, Verify.InOrder, List.length_append, List.length_singleton]; omega)
        (by simp only [hasked, List.length_append, List.length_singleton]; omega)
      refine ⟨hin, hfull, hslot, fun hnot => hhead ?_, hleft⟩
      rw [hasked]
      cases hw : s.verify.window with
      | nil => simp [WindowEntry.ended]
      | cons e rest => simpa [hw] using hnot
    · next hdone => exact ⟨⟨hlength, hcursor⟩, by omega, rfl, id, id⟩

/-- The cursor moves on, and the verify goes on or ends, in good order (R150, R152, R153). -/
theorem State.verify_sound_advanceVerify {s : State} (h : s.verify.InOrder) (hslot : s.verify.slot.isVerifying = true)
    (who : Requester) (n : Nat) : (s.advanceVerify who n).verify.Sound := by
  obtain ⟨hin, hsame, hpositions, hhead⟩ := s.verify.takePositions_spec windowSize h h.1
  unfold State.advanceVerify
  dsimp only
  split
  · have hverify : ((s.setVerify (s.verify.takePositions windowSize)).endVerify who n).verify
        = (s.verify.takePositions windowSize).released := by
      simp [State.endVerify, State.finalReport]
    rw [hverify]
    have := hin.2
    exact Verify.sound_released (by omega)
  · next hgoes =>
    obtain ⟨hfilled, hfull, hslot', hhead', hleft⟩ :=
      State.fillWindow_spec windowSize (s.setVerify (s.verify.takePositions windowSize)) hin (Nat.le_add_left _ _)
    have hcursor := hleft (not_le.1 hgoes)
    refine ⟨hfilled.1, hfilled.2, ?_⟩
    rw [hslot', State.setVerify_verify, hsame, if_pos hslot]
    refine ⟨hfull, ?_⟩
    have hpos : 0 < ((s.setVerify (s.verify.takePositions windowSize)).fillWindow windowSize).verify.window.length := by
      have hsize : windowSize = 4 := rfl
      omega
    obtain ⟨e, he⟩ := Option.ne_none_iff_exists'.1 (List.head?_eq_none_iff.not.2 (List.ne_nil_of_length_pos hpos))
    exact ⟨e, he, hhead' hhead e he⟩

end Sys2Proof.Machine

/-! Every command completes, keeps the queue of commands, and keeps the transmit queue, the port and the verify window sound. -/

namespace Sys2Proof.Machine

/-- What a step keeps of the blocks that the shared operations only move: the queue of commands, and the soundness of the link
controller, the port and the verify unit. -/
structure State.Keeps (s t : State) : Prop where
  pending : t.pending = s.pending
  link : s.link.Sound → t.link.Sound
  port : s.port.Sound → t.port.Sound
  verify : s.verify.Sound → t.verify.Sound

namespace State.Keeps

variable {s t u : State}

theorem refl (s : State) : s.Keeps s := ⟨rfl, id, id, id⟩

theorem trans (h : s.Keeps t) (h' : t.Keeps u) : s.Keeps u :=
  ⟨h'.pending.trans h.pending, h'.link ∘ h.link, h'.port ∘ h.port, h'.verify ∘ h.verify⟩

/-- Moves that ask nothing. -/
theorem of_moves (h : s.Moves t) (hport : t.port = s.port) : s.Keeps t :=
  ⟨h.pending_eq, h.link_sound, fun hs => hport ▸ hs, h.verify_sound⟩

/-- Moves, and the grants at their end. -/
theorem of_grant (h : s.Moves t) : s.Keeps t.grant :=
  ⟨(t.grant_frame.2.2.2.2.2.2.2.1).trans h.pending_eq, fun hs => by simpa using h.link_sound hs,
    fun hs => State.port_sound_grant (h.port_numbered (s.port.sound_iff.1 hs).1), fun hs => State.verify_sound_grant (h.verify_sound hs)⟩

/-- A change beside the blocks that are kept. -/
theorem of_beside (h : t.port = s.port ∧ t.verify = s.verify ∧ t.link = s.link ∧ t.pending = s.pending) : s.Keeps t :=
  of_moves (.single (.beside h)) h.1

theorem withBlocks (s : State) (i : Intake) (tc : Timecode) (e : Engine) (sl : Slate) (j : Journal) (m : Media) (w : Writer) (d : Nat) :
    s.Keeps ⟨i, tc, e, sl, j, m, s.port, w, s.verify, s.link, d, s.pending⟩ := of_beside ⟨rfl, rfl, rfl, rfl⟩

/-- A change of the link controller alone. -/
theorem of_link {l : Link} (h : s.link.Sound → l.Sound) : s.Keeps { s with link := l } := ⟨rfl, h, id, id⟩

/-- The completion of an operation (R121): its slot is free, its outcome is acted on, and the freed slot is granted. -/
theorem complete (id : Nat) (p : OpKind → Bool) (act : Op → State → State) (h : ∀ (op : Op) (t : State), t.Moves (act op t)) : s.Keeps (s.complete id p act) := by
  unfold State.complete
  split
  · exact refl s
  · next op _ =>
    have hact := h op (s.release id)
    refine ⟨(State.grant_frame _).2.2.2.2.2.2.2.1.trans hact.pending_eq, fun hs => ?_,
      fun hs => State.port_sound_grant (hact.port_numbered ?_), fun hs => State.verify_sound_grant (hact.verify_sound hs)⟩
    · rw [(State.grant_frame _).2.2.2.2.2.1]
      exact hact.link_sound hs
    · exact (s.port.sound_iff.1 hs).1.mono (.refl _) List.filter_sublist le_rfl

end State.Keeps

/-! ### The word clock -/

theorem State.keeps_reset (s : State) (straps : Straps) : s.Keeps (s.resetWith straps) := by
  refine ⟨rfl, fun _ => ?_, fun _ => ?_, fun _ => ?_⟩
  · exact ⟨by simp [resetWith, reset], by simp [resetWith, reset], by simp [resetWith, reset], by simp [resetWith, reset],
      Link.headSound_of_untried (by simp [resetWith, reset])⟩
  · simp [resetWith, reset, Port.Sound]
  · simp [resetWith, reset, Verify.Sound, LongOp.isVerifying]

theorem State.keeps_clockReturnIfDue (s : State) : s.Keeps s.clockReturnIfDue := by
  unfold clockReturnIfDue
  split
  · exact .of_moves (State.Moves.returnClock .refl) (by simp [returnClock])
  · exact .refl s

theorem State.keeps_meterIfDue (s : State) : s.Keeps s.meterIfDue := by
  unfold meterIfDue
  split
  · exact .of_beside ⟨rfl, rfl, rfl, rfl⟩
  · exact .refl s

theorem State.keeps_tailIfDue (s : State) : s.Keeps s.tailIfDue := by
  unfold tailIfDue
  split
  · exact .refl s
  · exact .of_grant ((((Moves.clearOpen .refl).closeTake ..).enterStandby).announce _)

theorem State.keeps_lengthIfDue (s : State) : s.Keeps s.lengthIfDue := by
  unfold lengthIfDue
  split
  · exact .refl s
  · exact .of_grant ((Moves.splitAt .refl ..).announce _)

theorem State.keeps_settleDue (s : State) : s.Keeps s.settleDue :=
  (((s.keeps_clockReturnIfDue).trans (keeps_meterIfDue _)).trans (keeps_tailIfDue _)).trans (keeps_lengthIfDue _)

theorem State.keeps_loseClock (s : State) : s.Keeps s.loseClock := by
  refine .of_grant (Moves.announce ?_ _)
  split
  · exact (Moves.withBlocks .refl ..).refreshStation
  · exact (Moves.withBlocks .refl ..).cutAtLoss _

/-! ### Received frames and local lines -/

theorem State.keeps_onFrame (s : State) (k : FrameKind) (owner : Frame → State → State) (w : Wire) (h : ∀ (f : Frame) (t : State), t.Keeps (owner f t)) :
    s.Keeps (s.onFrame k owner w) := by
  unfold onFrame
  split
  · exact .refl s
  · exact (Keeps.of_moves (Moves.noteConflict .refl _) (by simp)).trans (h _ _)

theorem State.keeps_actRoll (s : State) (k : TakeKey) (pt : Point) : s.Keeps (s.actRoll k pt) := by
  unfold actRoll
  split
  · exact .of_moves (Moves.joinTake .refl ..) (by simp [joinTake])
  · split
    · exact .of_moves (Moves.refuseRoll .refl _) (by simp [refuseRoll])
    · exact .refl s
    · exact .of_grant ((Moves.openTake .refl ..).announce _)

theorem State.keeps_takeRoll (f : Frame) (s : State) : s.Keeps (s.takeRoll f) := by
  unfold takeRoll
  dsimp only
  split
  · split
    · exact (Keeps.withBlocks s ..).trans (keeps_actRoll _ _ _)
    · exact Keeps.withBlocks s ..
  · exact .refl s

theorem State.keeps_holderLeaves (s : State) (n station : Nat) (pt : Point) : s.Keeps (s.holderLeaves n station pt) := by
  refine .of_grant (Moves.announce ?_ _)
  split
  · exact (Moves.withBlocks .refl ..).lastHolderLeft ..
  · exact Moves.withBlocks .refl ..

theorem State.keeps_takeCut (f : Frame) (s : State) : s.Keeps (s.takeCut f) := by
  unfold takeCut
  split
  · exact .refl s
  · split
    · exact keeps_holderLeaves ..
    · exact .refl s

theorem State.keeps_takeState (f : Frame) (s : State) : s.Keeps (s.takeState_ f) := by
  unfold takeState_
  split
  · exact .refl s
  · split
    · exact keeps_holderLeaves ..
    · exact .refl s

theorem State.keeps_queueTransport (s : State) (b : TxBody) (hb : b.isState = false) : s.Keeps (s.queueTransport b) :=
  .of_moves (Moves.queueTransport .refl hb) rfl

theorem State.keeps_riseRoll (s : State) (edge : Nat) : s.Keeps (s.riseRoll edge) := by
  unfold riseRoll
  exact ((Keeps.withBlocks s ..).trans (keeps_queueTransport _ _ (by rfl))).trans (keeps_actRoll _ _ _)

theorem State.keeps_cutLocally (s : State) (edge : Nat) : s.Keeps (s.cutLocally edge) := by
  unfold cutLocally
  dsimp only
  refine (s.keeps_queueTransport (.cut s.engine.ownRoll s.timecode.rate (s.labelAt edge)) rfl).trans ?_
  split
  · exact .refl _
  · split
    · exact keeps_holderLeaves ..
    · exact .refl _

theorem State.keeps_takeNote (f : Frame) (s : State) : s.Keeps (s.takeNote f) := by
  unfold takeNote
  split
  · exact .refl s
  · dsimp only
    split
    · exact .of_beside ⟨rfl, rfl, rfl, rfl⟩
    · split
      · exact .refl s
      · exact .of_grant (Moves.noteTake .refl ..)
    · split
      · exact .refl s
      · exact .of_grant (Moves.noteTake .refl ..)

theorem State.keeps_placeMark (s : State) (n kind origin : Nat) (pt : Point) : s.Keeps (s.placeMark n kind origin pt) := by
  unfold placeMark
  split
  · exact .refl s
  · exact .of_grant ((Moves.modifyRecord .refl ..).insertMark ..)

theorem State.keeps_takeMark (f : Frame) (s : State) : s.Keeps (s.takeMark f) := by
  unfold takeMark
  split
  · exact .refl s
  · split
    · exact keeps_placeMark ..
    · exact .refl s

theorem State.keeps_pulseMark (s : State) (edge : Nat) : s.Keeps (s.pulseMark edge) := by
  unfold pulseMark
  dsimp only
  generalize hline : ({ s with engine := { s.engine with markLine := some true } } : State) = s0
  generalize (s0.openNow.bind fun n => (s0.recordAt n).map (·.key)) = key
  have hkeeps : s.Keeps (s0.queueTransport (.mark key s.timecode.rate (s0.labelAt edge) 0)) :=
    (hline ▸ Keeps.withBlocks s ..).trans (s0.keeps_queueTransport _ rfl)
  split
  · exact hkeeps
  · exact hkeeps.trans (keeps_placeMark ..)

theorem State.keeps_takeJam (f : Frame) (s : State) : s.Keeps (s.takeJam f) := by
  unfold takeJam
  dsimp only
  split
  · exact .of_beside ⟨rfl, rfl, rfl, rfl⟩
  · exact .refl s

/-! ### Requests -/

theorem State.keeps_answer (s : State) (q : Request) (c : OutcomeClass) (d : Detail) (y : List Byte) : s.Keeps (s.answer q c d y) :=
  .of_moves (Moves.answer .refl ..) rfl

theorem State.keeps_refuse (s : State) (q : Request) (d : Detail) : s.Keeps (s.refuse q d) := s.keeps_answer ..

theorem State.keeps_noteConflict (s : State) (f : Frame) : s.Keeps (s.noteConflict f) :=
  .of_moves (Moves.noteConflict .refl _) (by simp)

theorem State.keeps_onRequest (s : State) (k : RequestKind) (carry : Request → State → State) (w : Wire) (h : ∀ (q : Request) (t : State), t.Keeps (carry q t)) :
    s.Keeps (s.onRequest k carry w) := by
  unfold onRequest
  split
  · exact .refl s
  · split
    · exact .refl s
    · split
      · split
        · exact (keeps_noteConflict ..).trans (h _ _)
        · exact (keeps_noteConflict ..).trans (keeps_refuse ..)
      · exact .refl s

theorem State.keeps_gated (s : State) (bar : Option Detail) (q : Request) (carry : State → State) (h : s.Keeps (carry s)) :
    s.Keeps (s.gated bar q carry) := by
  unfold gated
  split
  · exact s.keeps_refuse ..
  · exact h

theorem State.keeps_queryTake (q : Request) (s : State) : s.Keeps (s.queryTake q) := by
  refine s.keeps_gated _ q _ ?_
  unfold answerTake
  split
  · exact s.keeps_refuse ..
  · split
    · exact s.keeps_answer ..
    · split
      · exact s.keeps_refuse ..
      · split <;> exact s.keeps_answer ..

theorem State.keeps_searchJournal (q : Request) (s : State) : s.Keeps (s.searchJournal q) := by
  refine s.keeps_gated _ q _ ?_
  split
  · exact s.keeps_refuse ..
  · exact s.keeps_answer ..

theorem State.keeps_arm (q : Request) (s : State) : s.Keeps (s.arm q) := by
  refine s.keeps_gated _ q _ ?_
  unfold applyArm
  split
  · exact s.keeps_refuse ..
  · refine (Keeps.of_beside ?_).trans (keeps_answer ..)
    unfold setArm
    split <;> exact ⟨rfl, rfl, rfl, rfl⟩

theorem State.keeps_mix (q : Request) (s : State) : s.Keeps (s.mix q) := by
  refine s.keeps_gated _ q _ ?_
  split
  · exact s.keeps_refuse ..
  · next l _ => exact (Keeps.of_beside (s := s) (t := s.applyMix l) ⟨rfl, rfl, rfl, rfl⟩).trans (keeps_answer ..)

theorem LongOp.eq_idle {l : LongOp} (h : l.isIdle = true) : l = .idle := by
  cases l <;> simp_all [LongOp.isIdle]

/-- A verify that starts (R149) and, with nothing to read, ends in the same step. -/
theorem State.verify_sound_startVerify (s : State) (q : Request) (n : Nat) (r : Record) : (s.startVerify q n r).verify.Sound :=
  State.verify_sound_advanceVerify (s := (s.setVerify (Verify.started q.requester n r)).answer q .accepted .none (le 2 n ++ le 4 r.blockCount))
    ⟨by exact Nat.zero_le _, by exact Nat.zero_le _⟩ rfl q.requester n

/-- What moves with the verify unit set anew: the queue of commands, the link controller and the port move as before. -/
theorem State.Moves.keeps_beside_verify {s u : State} {v : Verify} (h : (s.setVerify v).Moves u) :
    u.pending = s.pending ∧ (s.link.Sound → u.link.Sound) ∧ (s.port.Numbered → u.port.Numbered) :=
  ⟨h.pending_eq, h.link_sound, h.port_numbered⟩

/-- The queue of commands, the link controller and the port are kept up to the grants of the step; the verify unit is not spoken of. -/
structure State.Carries (s t : State) : Prop where
  pending : t.pending = s.pending
  link : s.link.Sound → t.link.Sound
  port : s.port.Numbered → t.port.Numbered

namespace State.Carries

variable {s t u : State}

theorem trans (h : s.Carries t) (h' : t.Carries u) : s.Carries u :=
  ⟨h'.pending.trans h.pending, h'.link ∘ h.link, h'.port ∘ h.port⟩

theorem of_moves (h : s.Moves t) : s.Carries t := ⟨h.pending_eq, h.link_sound, h.port_numbered⟩

theorem setVerify (s : State) (v : Verify) : s.Carries (s.setVerify v) := ⟨rfl, id, id⟩

theorem fillWindow (fuel : Nat) (s : State) : s.Carries (s.fillWindow fuel) := by
  induction fuel generalizing s with
  | zero => exact of_moves .refl
  | succ fuel ih =>
    unfold State.fillWindow
    dsimp only
    split
    · exact ((of_moves (State.Moves.askNew .refl _)).trans (setVerify _ _)).trans (ih _)
    · exact of_moves .refl

theorem advanceVerify (s : State) (who : Requester) (n : Nat) : s.Carries (s.advanceVerify who n) := by
  unfold State.advanceVerify
  dsimp only
  refine (setVerify s (s.verify.takePositions windowSize)).trans ?_
  split
  · exact (setVerify _ _).trans (of_moves (((State.Moves.modifyRecord .refl ..).changeRecord n).finalReport ..))
  · exact fillWindow ..

/-- With the verify unit sound too, and the grants at the end, everything is kept. -/
theorem keeps_grant (h : s.Carries t) (hverify : s.verify.Sound → t.verify.Sound) : s.Keeps t.grant :=
  ⟨(t.grant_frame.2.2.2.2.2.2.2.1).trans h.pending, fun hs => by simpa using h.link hs,
    fun hs => State.port_sound_grant (h.port (s.port.sound_iff.1 hs).1), fun hs => State.verify_sound_grant (hverify hs)⟩

end State.Carries

theorem State.keeps_verifyTake (q : Request) (s : State) : s.Keeps (s.verifyTake q) := by
  unfold verifyTake askVerify
  split
  · exact .of_grant (Moves.answer .refl ..)
  · exact .of_grant .refl
  · split
    · exact Carries.keeps_grant (((Carries.setVerify s _).trans (.of_moves (Moves.answer .refl ..))).trans (.advanceVerify ..))
        fun _ => s.verify_sound_startVerify ..
    · exact .of_grant (Moves.answer .refl ..)

/-- A PREPARE MEDIA or RELEASE MEDIA starts only with the slot IDLE (R116). -/
theorem State.idle_of_prepareGate {s : State} (h : s.prepareGate = .start) : s.verify.slot = .idle := by
  refine LongOp.eq_idle ?_
  unfold prepareGate at h
  split at h <;> (repeat' split at h) <;> simp_all [startWhen, quietStandby, quiet]

theorem State.idle_of_releaseGate {s : State} (h : s.releaseGate = .start) : s.verify.slot = .idle := by
  refine LongOp.eq_idle ?_
  unfold releaseGate at h
  split at h <;> simp_all [startWhen, quietStandby, quiet]

theorem State.keeps_prepareMedia (q : Request) (s : State) : s.Keeps (s.prepareMedia q) := by
  unfold prepareMedia
  split
  · exact s.keeps_refuse ..
  · exact s.keeps_answer ..
  · exact .refl s
  · next hgate =>
    split
    · exact s.keeps_refuse ..
    · refine .of_moves (Moves.answer (.single (.slot s _ ?_ rfl)) ..) rfl
      rw [idle_of_prepareGate hgate]; rfl

theorem State.keeps_releaseIfDrained (s : State) : s.Keeps s.releaseIfDrained := by
  refine .of_moves (Moves.releaseIfDrained .refl) ?_
  unfold releaseIfDrained
  split
  · split
    · rfl
    · simp [completeRelease, finalReport]
  all_goals rfl

theorem State.keeps_releaseMedia (q : Request) (s : State) : s.Keeps (s.releaseMedia q) := by
  unfold releaseMedia
  split
  · exact s.keeps_refuse ..
  · exact s.keeps_answer ..
  · exact s.keeps_answer ..
  · next hgate =>
    refine Keeps.trans (.of_moves (Moves.answer (.single (.slot s (.releasing q.requester) ?_ rfl)) ..) rfl) (keeps_releaseIfDrained _)
    rw [idle_of_releaseGate hgate]; rfl

/-- A port with operations withdrawn is as sound as before. -/
theorem State.port_sound_withdraw {s : State} (h : s.port.Sound) (p : Op → Bool) : (s.withdraw p).port.Sound := by
  obtain ⟨hnum, hsettled⟩ := s.port.sound_iff.1 h
  refine (Port.sound_iff _).2 ⟨hnum.mono List.filter_sublist (.refl _) le_rfl, hsettled.imp_left fun hw => ?_⟩
  simp [hw]

theorem State.keeps_abort (q : Request) (s : State) : s.Keeps (s.abort q) := by
  refine s.keeps_gated _ q _ ?_
  unfold applyAbort
  split
  · exact s.keeps_answer ..
  · refine Keeps.trans ?_ (keeps_answer ..)
    refine ⟨rfl, fun hs => Link.sound_enqueueReport hs _, fun hs => port_sound_withdraw hs _, fun hs => ?_⟩
    exact Verify.sound_released hs.cursor_le
  · exact s.keeps_answer ..
  · exact s.keeps_answer ..

theorem State.keeps_takeUnknown (f : Frame) (s : State) : s.Keeps (s.takeUnknown f) := by
  unfold takeUnknown
  split
  · exact s.keeps_noteConflict f
  · split
    · exact .refl s
    · exact (s.keeps_noteConflict f).trans (keeps_refuse ..)

/-! ### The card and its operations -/

theorem State.keeps_removeCard (s : State) : s.Keeps s.removeCard := by
  have hdrop : s.Keeps s.dropCard := by
    refine ⟨rfl, id, fun _ => ?_, fun hs => Verify.sound_released hs.cursor_le⟩
    simp [dropCard, Port.Sound]
  unfold removeCard reportRemoval
  refine (hdrop.trans (.of_moves (Moves.announce .refl s) (by simp))).trans ?_
  split
  · exact .refl _
  all_goals exact .of_moves (Moves.finalReport .refl ..) rfl

/-- A read of the verify window has ended (R151). -/
theorem State.verify_sound_verifyReadEnded {s : State} (hs : s.verify.Sound) (block : Option (List Byte)) (op : Op) :
    (s.verifyReadEnded block op).verify.Sound := by
  unfold verifyReadEnded
  split
  · next hslot =>
    have hverifying : s.verify.slot.isVerifying = true := by rw [hslot]; rfl
    split
    · have hin (x : WindowEntry) (a b : Nat) : ({ s.verify.setEntry op.id x with readOk := a, badBlocks := b } : Verify).InOrder := by
        simpa [Verify.InOrder, Verify.setEntry] using ⟨hs.1, hs.2.1⟩
      unfold windowReadEnded
      split
      · exact verify_sound_advanceVerify (s := s.setVerify _) (hin (.held op.attempt _) _ _) hverifying _ _
      · split
        · rw [State.setVerify_verify]
          refine Verify.sound_map hs fun e _ he => ?_
          split
          · rfl
          · exact he
        · exact verify_sound_advanceVerify (s := s.setVerify _) (hin (.givenUp op.attempt) _ _) hverifying _ _
    · exact hs
  all_goals exact hs

theorem State.carries_verifyReadEnded (s : State) (block : Option (List Byte)) (op : Op) : s.Carries (s.verifyReadEnded block op) := by
  unfold verifyReadEnded
  split
  · split
    · unfold windowReadEnded
      split
      · exact (Carries.setVerify _ _).trans (.advanceVerify ..)
      · split
        · exact (Carries.of_moves (Moves.retry .refl op)).trans (.setVerify ..)
        · exact (Carries.setVerify _ _).trans (.advanceVerify ..)
    · exact .of_moves .refl
  all_goals exact .of_moves .refl

/-- The completion of an operation whose outcome the verify unit may act on. -/
theorem State.Keeps.complete_of_carries {s : State} (id : Nat) (p : OpKind → Bool) (act : Op → State → State)
    (h : ∀ (op : Op) (t : State), t.Carries (act op t)) (hverify : ∀ (op : Op) (t : State), t.verify.Sound → (act op t).verify.Sound) : s.Keeps (s.complete id p act) := by
  unfold State.complete
  split
  · exact .refl s
  · next op _ =>
    refine State.Carries.keeps_grant (Carries.trans (s := s) (t := s.release id) ⟨rfl, fun h => h, fun hs => ?_⟩ (h op (s.release id))) (hverify op (s.release id))
    exact hs.mono (.refl _) List.filter_sublist le_rfl

theorem State.keeps_prepareHeaderWriteAsk (s : State) : s.Keeps (match s.preparingIn .waiting with
    | none => s
    | some x =>
      if s.writesPending then s
      else ((s.setPhase x.1 x.2 .header).ask .prepareHeader 1 (some (headerBlock x.2.header)) false).grant) := by
  split
  · exact .refl s
  · next hx =>
    split
    · exact .refl s
    · exact .of_grant ((Moves.setPhase .refl (Moves.preparing_of_preparingIn hx) ..).ask ..)

theorem State.keeps_timedOut (s : State) (id : Nat) : s.Keeps (s.complete id (fun _ => true) State.timedOut) := by
  refine .complete_of_carries _ _ _ (fun op t => ?_) (fun op t ht => ?_)
  · unfold timedOut
    split
    · exact .of_moves (Moves.sizeEnded .refl ..)
    · exact .of_moves (Moves.headerReadEnded .refl ..)
    · exact .of_moves (Moves.slotReadEnded .refl ..)
    · exact t.carries_verifyReadEnded ..
    · exact .of_moves (Moves.journalEnded .refl ..)
    · exact .of_moves (Moves.headerWriteEnded .refl ..)
    · exact .of_moves (Moves.prepareHeaderEnded .refl ..)
    · exact .of_moves (Moves.prepareZeroEnded .refl ..)
    · exact .of_moves (Moves.segmentFailed .refl ..)
  · unfold timedOut
    split
    · exact (Moves.sizeEnded .refl ..).verify_sound ht
    · exact (Moves.headerReadEnded .refl ..).verify_sound ht
    · exact (Moves.slotReadEnded .refl ..).verify_sound ht
    · exact verify_sound_verifyReadEnded ht ..
    · exact (Moves.journalEnded .refl ..).verify_sound ht
    · exact (Moves.headerWriteEnded .refl ..).verify_sound ht
    · exact (Moves.prepareHeaderEnded .refl ..).verify_sound ht
    · exact (Moves.prepareZeroEnded .refl ..).verify_sound ht
    · exact (Moves.segmentFailed .refl ..).verify_sound ht

theorem State.keeps_deferredProvisionalWrite (s : State) : s.Keeps (match s.deferredSlot with
    | none => s
    | some n =>
      let s1 := s.modifySlot n fun sl => { sl with held := false }
      (if s1.canWriteJournal then s1.askWrite n else s1.flagRecord n .unsaved).grant) := by
  split
  · exact .refl s
  · refine .of_grant ?_
    split
    · exact (Moves.modifySlot .refl ..).askWrite _
    · exact (Moves.modifySlot .refl ..).flagRecord ..

/-! ### Attempts -/

theorem State.keeps_attemptStart (s : State) : s.Keeps (match s.link.queue with
    | [] => s
    | f :: rest => if f.phase = .idle then ({ s with link := s.link.beginAttempt f rest } : State).clearNotice f else s) := by
  split
  · exact .refl s
  · next hq =>
    split
    · next hidle =>
      refine (Keeps.of_link fun hs => Link.sound_beginAttempt hs hq hidle).trans (.of_beside ?_)
      unfold clearNotice
      split <;> exact ⟨rfl, rfl, rfl, rfl⟩
    · exact .refl s

theorem State.keeps_headLeaves (s : State) {f : TxFrame} {rest : List TxFrame} (hq : s.link.queue = f :: rest) (trouble : Bool) :
    s.Keeps (s.headLeaves trouble rest) :=
  ⟨by simp, fun hs => link_sound_headLeaves hs hq trouble, fun hs => by simpa using hs, fun hs => by simpa using hs⟩

theorem State.keeps_transmitComplete (s : State) : s.Keeps (match s.link.queue with
    | [] => s
    | f :: rest => if f.phase = .attempting then s.headLeaves false rest else s) := by
  split
  · exact .refl s
  · next hq =>
    split
    · exact s.keeps_headLeaves hq false
    · exact .refl s

theorem State.keeps_collision (s : State) : s.Keeps (match s.link.queue with
    | [] => s
    | f :: rest =>
      if f.phase = .attempting then
        (if f.attempts < maxSendAttempts then { s with link := s.link.backOff f rest } else s.headLeaves true rest)
      else s) := by
  split
  · exact .refl s
  · next hq =>
    split
    · next hphase =>
      split
      · next hlast => exact .of_link fun hs => Link.sound_backOff hs hq hphase hlast
      · exact s.keeps_headLeaves hq true
    · exact .refl s

theorem State.keeps_backoffComplete (s : State) : s.Keeps (match s.link.queue with
    | [] => s
    | f :: rest => if f.inBackoff then { s with link := { s.link with queue := { f with phase := .idle } :: rest } } else s) := by
  split
  · exact .refl s
  · next hq =>
    split
    · next hphase => exact .of_link fun hs => Link.sound_endBackoff hs hq hphase
    · exact .refl s

/-! ### Every command -/

theorem State.Keeps.ite {s t u : State} {p : Prop} [Decidable p] (ht : s.Keeps t) (hu : s.Keeps u) : s.Keeps (if p then t else u) := by
  split
  · exact ht
  · exact hu

/-- Every command completes, and keeps what `State.Keeps` says. -/
theorem exec_keeps (c : Instr) (s : State) : ∃ t, exec c s = .next t ∧ s.Keeps t := by
  cases c with
  | reset straps => exact ⟨_, rfl, s.keeps_reset straps⟩
  | frameStore interval words =>
    exact ⟨_, rfl, .ite (s.keeps_settleDue.trans (.of_grant (State.Moves.storeFrame .refl words))) (.refl s)⟩
  | clockLoss why => exact ⟨_, rfl, .ite (s.keeps_clockReturnIfDue.trans (State.keeps_loseClock _)) (.refl s)⟩
  | qualifyingPeriod interval => exact ⟨_, rfl, .ite (.of_beside ⟨rfl, rfl, rfl, rfl⟩) (.refl s)⟩
  | clockReturn => exact ⟨_, rfl, s.keeps_clockReturnIfDue⟩
  | meterWindowComplete => exact ⟨_, rfl, s.keeps_meterIfDue⟩
  | tailEnd => exact ⟨_, rfl, s.keeps_tailIfDue⟩
  | lengthSplit => exact ⟨_, rfl, s.keeps_lengthIfDue⟩
  | frameDraw => exact ⟨_, rfl, .of_grant ((State.Moves.drawFrame .refl).announce s)⟩
  | roll w => exact ⟨_, rfl, s.keeps_onFrame _ _ w State.keeps_takeRoll⟩
  | cut w => exact ⟨_, rfl, s.keeps_onFrame _ _ w State.keeps_takeCut⟩
  | state w => exact ⟨_, rfl, s.keeps_onFrame _ _ w State.keeps_takeState⟩
  | mark w => exact ⟨_, rfl, s.keeps_onFrame _ _ w State.keeps_takeMark⟩
  | note w => exact ⟨_, rfl, s.keeps_onFrame _ _ w State.keeps_takeNote⟩
  | jam w => exact ⟨_, rfl, s.keeps_onFrame _ _ w State.keeps_takeJam⟩
  | reportReceived w => exact ⟨_, rfl, s.keeps_onFrame _ _ w fun _ t => .refl t⟩
  | receiveFilterDiscard w => exact ⟨_, rfl, .refl s⟩
  | queryStatus w => exact ⟨_, rfl, s.keeps_onRequest _ _ w fun q t => t.keeps_answer ..⟩
  | queryMeters w => exact ⟨_, rfl, s.keeps_onRequest _ _ w fun q t => t.keeps_gated _ q _ (t.keeps_answer ..)⟩
  | queryTake w => exact ⟨_, rfl, s.keeps_onRequest _ _ w State.keeps_queryTake⟩
  | searchJournal w => exact ⟨_, rfl, s.keeps_onRequest _ _ w State.keeps_searchJournal⟩
  | arm w => exact ⟨_, rfl, s.keeps_onRequest _ _ w State.keeps_arm⟩
  | mix w => exact ⟨_, rfl, s.keeps_onRequest _ _ w State.keeps_mix⟩
  | verifyTake w => exact ⟨_, rfl, s.keeps_onRequest _ _ w State.keeps_verifyTake⟩
  | prepareMedia w => exact ⟨_, rfl, s.keeps_onRequest _ _ w State.keeps_prepareMedia⟩
  | releaseMedia w => exact ⟨_, rfl, s.keeps_onRequest _ _ w State.keeps_releaseMedia⟩
  | abort w => exact ⟨_, rfl, s.keeps_onRequest _ _ w State.keeps_abort⟩
  | rollLineRise edge => exact ⟨_, rfl, .ite (s.keeps_riseRoll edge) (.refl s)⟩
  | rollLineFall edge =>
    have hline : s.Keeps { s with engine := { s.engine with rollLine := some false } } := .of_beside ⟨rfl, rfl, rfl, rfl⟩
    exact ⟨_, rfl, .ite (.ite (hline.trans (State.keeps_cutLocally _ edge)) hline) (.refl s)⟩
  | markPulse edge => exact ⟨_, rfl, .ite (s.keeps_pulseMark edge) (.refl s)⟩
  | cardInsertion wprot =>
    exact ⟨_, rfl, .ite (.of_grant ((State.Moves.askNew (.withBlocks .refl ..) _).announce s)) (.refl s)⟩
  | cardRemoval => exact ⟨_, rfl, .ite (.refl s) s.keeps_removeCard⟩
  | sizeReadComplete op blocks => exact ⟨_, rfl, .complete _ _ _ fun _ _ => .sizeEnded .refl ..⟩
  | headerReadComplete op block => exact ⟨_, rfl, .complete _ _ _ fun _ _ => .headerReadEnded .refl ..⟩
  | slotReadComplete op block => exact ⟨_, rfl, .complete _ _ _ fun _ _ => .slotReadEnded .refl ..⟩
  | journalWriteComplete op ok => exact ⟨_, rfl, .complete _ _ _ fun _ _ => .journalEnded .refl ..⟩
  | deferredProvisionalWrite => exact ⟨_, rfl, s.keeps_deferredProvisionalWrite⟩
  | headerWriteComplete op ok => exact ⟨_, rfl, .complete _ _ _ fun _ _ => .headerWriteEnded .refl ..⟩
  | segmentWriteComplete op failed => exact ⟨_, rfl, .ite (.complete _ _ _ fun _ _ => .segmentEnded .refl ..) (.refl s)⟩
  | operationTimeout op => exact ⟨_, rfl, s.keeps_timedOut op⟩
  | prepareHeaderWriteAsk => exact ⟨_, rfl, s.keeps_prepareHeaderWriteAsk⟩
  | prepareHeaderWriteComplete op ok => exact ⟨_, rfl, .complete _ _ _ fun _ _ => .prepareHeaderEnded .refl ..⟩
  | prepareZeroWriteComplete op ok => exact ⟨_, rfl, .complete _ _ _ fun _ _ => .prepareZeroEnded .refl ..⟩
  | releaseComplete => exact ⟨_, rfl, s.keeps_releaseIfDrained⟩
  | verifyReadComplete op block =>
    exact ⟨_, rfl, .complete_of_carries _ _ _ (fun op t => t.carries_verifyReadEnded block op)
      fun op _ ht => State.verify_sound_verifyReadEnded ht block op⟩
  | initialState =>
    exact ⟨_, rfl, .ite ((State.Keeps.of_link (s := s) (l := { s.link with initialDue := false }) id).trans (.of_moves (State.Moves.queueState .refl) rfl)) (.refl s)⟩
  | transmitAttemptStart => exact ⟨_, rfl, s.keeps_attemptStart⟩
  | transmitComplete => exact ⟨_, rfl, s.keeps_transmitComplete⟩
  | collision => exact ⟨_, rfl, s.keeps_collision⟩
  | backoffComplete => exact ⟨_, rfl, s.keeps_backoffComplete⟩
  | unknownRequest w =>
    refine ⟨_, rfl, ?_⟩
    split
    · exact .refl s
    · exact s.keeps_takeUnknown _
  | lineLevelAdopted line level =>
    refine ⟨_, rfl, ?_⟩
    split <;> exact .ite (.of_beside ⟨rfl, rfl, rfl, rfl⟩) (.refl s)

/-- Settles O2: `exec_keeps`, command by command. -/
theorem everyCommandCompletesAndKeepsTheQueue : Obligations.EveryCommandCompletesAndKeepsTheQueue := by
  intro c s
  obtain ⟨t, hexec, hkeeps⟩ := exec_keeps c s
  exact ⟨t, hexec, hkeeps.pending⟩

/-- A step runs a command, or idles; either way it keeps what `State.Keeps` says but for the queue of commands. -/
theorem step_keeps {s t : State} (h : step s = .next t) : ∃ u : State, u.Keeps t ∧ u.link = s.link ∧ u.port = s.port ∧ u.verify = s.verify := by
  unfold step at h
  split at h
  · cases h
    exact ⟨s, .refl s, rfl, rfl, rfl⟩
  · next c rest _ =>
    obtain ⟨t', hexec, hkeeps⟩ := exec_keeps c (s.withPending rest)
    cases hexec.symm.trans h
    exact ⟨_, hkeeps, rfl, rfl, rfl⟩

/-- Settles O54: the moves of the shared operations and the steps of an attempt keep the transmit queue sound. -/
theorem stepKeepsTheTransmitQueueSound : Obligations.StepKeepsTheTransmitQueueSound := by
  intro s t hs hstep
  obtain ⟨u, hkeeps, hlink, -, -⟩ := step_keeps hstep
  exact hkeeps.link (hlink ▸ hs)

/-- Settles O55: what is asked is numbered anew, and a step that asks or frees a slot ends with its grants. -/
theorem stepKeepsThePortSound : Obligations.StepKeepsThePortSound := by
  intro s t hs hstep
  obtain ⟨u, hkeeps, -, hport, -⟩ := step_keeps hstep
  exact hkeeps.port (hport ▸ hs)

/-- Settles O56: a read that ends takes all positions that it can, and then reads are asked for all that came into the window. -/
theorem stepKeepsTheVerifyWindowSound : Obligations.StepKeepsTheVerifyWindowSound := by
  intro s t hs hstep
  obtain ⟨u, hkeeps, -, -, hverify⟩ := step_keeps hstep
  exact hkeeps.verify (hverify ▸ hs)

end Sys2Proof.Machine

/-! A step, the reset, and what holds of the state after it. -/

namespace Sys2Proof.Machine

/-- Settles O1, by the two equations of `step`. -/
theorem stepRunsTheFrontCommand : Obligations.StepRunsTheFrontCommand := by
  refine ⟨fun s c rest h => ?_, fun s h => ?_⟩ <;> simp only [step, h]

/-- With no slot written the ring holds nothing. -/
theorem Intake.frameAt_of_ring_nil {i : Intake} (h : i.ring = []) (p : Nat) : i.frameAt p = none := by
  simp [frameAt, h, slotGet]

/-- Settles O3: every after-reset value stands in `State.reset`, and the straps give the link controller's levels. -/
theorem resetRestoresEveryBlock : Obligations.ResetRestoresEveryBlock := by
  intro straps s
  refine ⟨s.resetWith straps, rfl, ?_, rfl, ?_, rfl, rfl, ?_, ⟨rfl, rfl⟩, ⟨rfl, ?_⟩, ?_, ?_⟩
  · exact ⟨rfl, rfl, rfl, rfl, rfl, rfl, rfl, rfl, by simp [State.resetWith, State.reset],
      by simp [State.resetWith, State.reset], Intake.frameAt_of_ring_nil rfl⟩
  · exact ⟨rfl, rfl, rfl, rfl, by simp [State.resetWith, State.reset], rfl, rfl, rfl, rfl, rfl, rfl⟩
  · exact ⟨rfl, rfl, rfl, rfl, rfl, rfl, rfl, rfl, rfl, rfl, rfl, rfl, rfl⟩
  · simp [State.resetWith, State.reset]
  · exact ⟨rfl, rfl, rfl, rfl, rfl, rfl, rfl⟩
  · exact ⟨rfl, rfl, rfl, rfl, rfl, rfl, rfl, rfl, rfl⟩

/-! ### The state after reset -/

theorem State.reset_coherent : State.reset.Coherent := by
  refine ⟨?_, ?_, ?_, ?_⟩
  · simp [Engine.Sound, State.reset]
  · simp [State.MountSound, State.reset, Mount.scanning, journalSlots]
  · simp [State.QueueSound, State.reset]
  · simp [State.StationSound, State.reset, LongOp.blocksJournal, LongOp.index]

theorem State.reset_framesSound : State.reset.FramesSound := by
  simp [State.FramesSound, State.reset, LongOp.index, LongOp.plan]

theorem State.reset_segmentsSound : State.reset.SegmentsSound := by
  simp [State.SegmentsSound, State.reset, State.bufferOk]

/-- Settles O60: with nothing queued, asked, recorded or inserted there is nothing to be out of order. -/
theorem resetStateIsSound : Obligations.ResetStateIsSound := by
  refine ⟨State.reset_coherent, by decide, by decide, by decide, ?_, by decide, by decide, ?_, ?_, by decide, ?_, ?_,
    State.reset_framesSound, State.reset_segmentsSound⟩
  · simp [Intake.Sound, Intake.Quiet, State.reset, positionLimit]
  · simp [State.RecordsFit, Slate.Fits, State.reset, Slate.unset]
  · simp [State.DefectsSound, defectsSound, State.reset, LongOp.plan]
  · simp [State.HoldersSound, State.reset, Mount.scanning]
  · simp [State.MirrorSound, State.reset]

end Sys2Proof.Machine

/-! The frame that a period gives, the return of the word clock, and the meter window. -/

namespace Sys2Proof.Machine

/-! ### Lane sets -/

/-- A set built up lane by lane holds what it held, and the lanes gone through for which the condition holds. -/
theorem getLsbD_foldl_lanes (p : Fin 16 → Bool) (l : List (Fin 16)) (m : Word16) (k : Nat) :
    (l.foldl (fun m i => if p i then m ||| (1#16 <<< i.val) else m) m).getLsbD k = (m.getLsbD k || l.any fun i => i.val == k && p i) := by
  induction l generalizing m with
  | nil => simp
  | cons i l ih =>
    rw [List.foldl_cons, ih, List.any_cons, ← Bool.or_assoc]
    congr 1
    by_cases hp : p i
    · have hbit : (1#16 <<< i.val).getLsbD k = (i.val == k) := by
        rw [Bool.eq_iff_iff]
        simp [BitVec.getLsbD_shiftLeft, BitVec.getLsbD_one]
        omega
      simp [hp, hbit]
    · simp [hp]

@[simp] theorem getLsbD_laneSet (p : Fin 16 → Bool) (t : Fin 16) : (laneSet p).getLsbD t = p t := by
  rw [laneSet, getLsbD_foldl_lanes, Bool.eq_iff_iff]
  simp [← Fin.ext_iff]

/-! ### The mix buses -/

theorem toInt_saturate (x : Int) : (saturate x).toInt = max busMin (min busMax x) := by
  rw [saturate, BitVec.toInt_ofInt, Int.bmod_eq_of_le]
  all_goals simp only [busMin, busMax]
  all_goals omega

theorem clips_iff (x : Int) : clips x = true ↔ x < busMin ∨ busMax < x := by
  simp [clips]

/-- Settles O5: `busSum` is the exact sum, `saturate` and `clips` judge it. -/
theorem formedFrameFollowsTheMixRule : Obligations.FormedFrameFollowsTheMixRule := by
  intro i words sum hsum
  have hbus : ∀ feeds, busSum feeds i words = sum feeds := by
    intro feeds
    simp only [hsum, busSum, contribution, storedValue, Bool.and_eq_true]
  refine ⟨fun t => ⟨?_, ?_⟩, ?_, ?_, ?_, ?_⟩
  · simp [Intake.formFrame, storedValue]
  · exact getLsbD_laneSet _ t
  · simp only [Intake.formFrame, hbus, toInt_saturate, busMin, busMax]
  · simp only [Intake.formFrame, hbus, toInt_saturate, busMin, busMax]
  · intro x
    cases x <;> decide
  · simp [Intake.formFrame, hbus, clips_iff, busMin, busMax]

/-! ### The clock and the meter window -/

theorem SampleRate.tenth_eq (r : SampleRate) : r.tenth = r.hz / 10 := rfl

theorem State.clockReturnIfDue_of_early {s : State} (h : s.intake.qualification < 64) : s.clockReturnIfDue = s := by
  have : ¬ qualifyCount ≤ s.intake.qualification := by simpa [qualifyCount] using h
  simp [clockReturnIfDue, clockReturnDue, this]

theorem State.clockReturnIfDue_of_running {s : State} (h : s.intake.clock = .running) : s.clockReturnIfDue = s := by
  simp [clockReturnIfDue, clockReturnDue, h]

theorem State.clockReturnIfDue_of_due {s : State} (hclock : s.intake.clock = .lost) (h : 64 ≤ s.intake.qualification) :
    s.clockReturnIfDue = s.returnClock := by
  simp [clockReturnIfDue, clockReturnDue, hclock, qualifyCount, h]

theorem State.meterIfDue_of_early {s : State} (h : s.intake.windowCount < s.intake.rate.hz / 10) : s.meterIfDue = s := by
  simp [meterIfDue, meterDue, SampleRate.tenth_eq, Nat.not_le.2 h]

theorem State.meterIfDue_of_due {s : State} (h : s.intake.rate.hz / 10 ≤ s.intake.windowCount) : s.meterIfDue = s.completeWindow := by
  simp [meterIfDue, meterDue, SampleRate.tenth_eq, h]

/-- A change of the announced states queues one STATE frame. -/
theorem State.announce_of_ne {before s : State} (h : before.announced ≠ s.announced) : State.announce before s = s.queueState :=
  if_neg h

theorem State.announce_of_eq {before s : State} (h : before.announced = s.announced) : State.announce before s = s :=
  if_pos h

@[simp] theorem Link.linkTrouble_enqueueState (c : StateContent) (l : Link) : (l.enqueueState c).linkTrouble = l.linkTrouble := by
  unfold enqueueState
  (repeat' split) <;> rfl

@[simp] theorem Link.conflict_enqueueState (c : StateContent) (l : Link) : (l.enqueueState c).conflict = l.conflict := by
  unfold enqueueState
  (repeat' split) <;> rfl

/-- Of the link controller a STATE frame carries its two flags alone. -/
theorem State.stateContent_withLink {s : State} {l : Link} (htrouble : l.linkTrouble = s.link.linkTrouble)
    (hconflict : l.conflict = s.link.conflict) : ({ s with link := l } : State).stateContent = s.stateContent := by
  simp only [stateContent, linkFlags, htrouble, hconflict]
  rfl

@[simp] theorem State.stateContent_queueState (s : State) : s.queueState.stateContent = s.stateContent :=
  stateContent_withLink (Link.linkTrouble_enqueueState ..) (Link.conflict_enqueueState ..)

/-- The STATE frame queued is the one that the state after it would queue. -/
theorem State.queueState_link_eq (s : State) : s.queueState.link = s.link.enqueueState s.queueState.stateContent := by
  simp

theorem State.refreshStation_of_offline {s : State} (h : s.engine.takeState = .offline) :
    s.refreshStation = if s.media.state = .ready ∧ s.intake.clock = .running then s.enterStandby else s := by
  simp [refreshStation, h, usable]

/-- Settles O9: the count, the return at 64, and the window of fs/10 frames. -/
theorem clockReturnsAndMeterWindowsComplete : Obligations.ClockReturnsAndMeterWindowsComplete := by
  refine ⟨fun s hlost => ⟨fun interval hcount => ?_, fun hcount => ?_, fun hcount hoffline => ?_⟩,
    fun s => ⟨fun hdue => ?_, fun hearly => ?_⟩⟩
  · have : s.intake.qualification < qualifyCount := hcount
    show Host.Outcome.next _ = _
    rw [if_pos ⟨hlost, this⟩]
  · exact congrArg Host.Outcome.next (State.clockReturnIfDue_of_early hcount)
  · refine ⟨s.returnClock, congrArg Host.Outcome.next (State.clockReturnIfDue_of_due hlost hcount), ?_⟩
    have hannounce : s.returnClock = ({ s with intake := { s.intake with clock := .running } } : State).refreshStation.queueState := by
      refine State.announce_of_ne fun h => ?_
      have hclock := congrArg (·.2.2) h
      rw [State.refreshStation_of_offline (by exact hoffline)] at hclock
      split at hclock <;> simp [State.announced, hlost, State.enterStandby] at hclock
    rw [hannounce, State.refreshStation_of_offline (by exact hoffline)]
    by_cases hready : s.media.state = .ready
    · simp only [hready, and_self, if_true]
      exact ⟨rfl, rfl, State.queueState_link_eq _, rfl⟩
    · simp only [hready, false_and, if_false, ← hoffline]
      exact ⟨rfl, rfl, State.queueState_link_eq _, rfl⟩
  · refine ⟨s.completeWindow, congrArg Host.Outcome.next (State.meterIfDue_of_due hdue), ?_⟩
    simp [State.completeWindow]
  · exact congrArg Host.Outcome.next (State.meterIfDue_of_early hearly)

end Sys2Proof.Machine

/-! From stamp to point, from point to start, stop and marker position, and back to the index (R26 to R33). -/

namespace Sys2Proof.Machine

/-! ### The window of half a day (R27) -/

/-- One step of a day brings the difference of two indices of one day into the window. -/
theorem wrapDifference_bounds {c : RateCode} {d : Int} (hlow : -(c.perDay : Int) < d) (hhigh : d < c.perDay) :
    -((c.perDay : Int) / 2) ≤ wrapDifference c d ∧ wrapDifference c d < (c.perDay : Int) / 2 := by
  unfold wrapDifference
  cases c <;> simp only [RateCode.perDay] at * <;> omega

/-- Reducing a difference leaves it as it is modulo the day. -/
theorem wrapDifference_emod (c : RateCode) (d : Int) : ∃ k : Int, wrapDifference c d = d + k * c.perDay := by
  unfold wrapDifference
  dsimp only
  split
  · exact ⟨-1, by omega⟩
  · split
    · exact ⟨1, by omega⟩
    · exact ⟨0, by omega⟩

/-! ### From stamp to point (R26, R28, R29) -/

theorem admission_of_no_label {c : RateCode} {st : Stamp} (h : st.label = none) : admission c st = .absent := by
  simp [admission, h]

theorem admission_of_other_rate {c : RateCode} {st : Stamp} {l : Label} (h : st.label = some l) (hrate : rateOfByte st.rate ≠ some c) :
    admission c st = .mismatch := by
  simp [admission, h, hrate]

theorem admission_of_invalid {c : RateCode} {st : Stamp} {l : Label} (h : st.label = some l) (hrate : rateOfByte st.rate = some c)
    (hvalid : labelValid c l = false) : admission c st = .absent := by
  simp [admission, h, hrate, hvalid]

theorem admission_of_valid {c : RateCode} {st : Stamp} {l : Label} (h : st.label = some l) (hrate : rateOfByte st.rate = some c)
    (hvalid : labelValid c l = true) : admission c st = .admitted (indexOf c l) := by
  simp [admission, h, hrate, hvalid]

theorem sampleOffset_eq (c : RateCode) (fs : Nat) (d : Int) :
    sampleOffset c fs d = if c = .df then d * fs * 1001 / 30000 else d * fs / c.nominal := by
  cases c <;> simp [sampleOffset]

theorem SampleRate.cast_half (r : SampleRate) : (r.half : Int) = (r.hz : Int) / 2 := by
  simp [SampleRate.half]

/-- An admitted stamp gives its own position, unless that lies too far ahead. -/
theorem convertStamp_of_admitted {tc : Timecode} {st : Stamp} {f : Nat} (r : SampleRate) (n : Nat) (d : Int)
    (h : admission tc.rate st = .admitted f) (hd : d = wrapDifference tc.rate ((f : Int) - tc.anchorIndex)) :
    convertStamp tc r n st =
      if (n : Int) + (r.hz : Int) / 2 < tc.anchorPosition + sampleOffset tc.rate r.hz d then ⟨n, false, true⟩
      else ⟨tc.anchorPosition + sampleOffset tc.rate r.hz d, false, false⟩ := by
  simp only [convertStamp, h, hd, SampleRate.cast_half]

/-! ### Back to the index (R33) -/

/-- The steps of the own index over an offset in sample-frames (R33). -/
def indexSteps (c : RateCode) (r : SampleRate) (offset : Int) : Int :=
  match c with
  | .df => (offset * 30000) / (r.hz * 1001)
  | x => (offset * x.nominal) / r.hz

/-- At a whole rate an index is a whole number of samples. -/
theorem indexSteps_of_whole {c : RateCode} (hc : c ≠ .df) (r : SampleRate) (d : Int) :
    indexSteps c r (sampleOffset c r.hz d) = d := by
  cases c with
  | df => exact absurd rfl hc
  | r24 | r25 | r30 => cases r <;> simp only [indexSteps, sampleOffset, RateCode.nominal, SampleRate.hz] <;> omega

/-- Under DF 5 indices are 8,008 samples at 48,000, and a difference that is no multiple of 5 lands in the index before it. -/
theorem indexSteps_of_df (r : SampleRate) (d : Int) :
    indexSteps .df r (sampleOffset .df r.hz d) = if d % 5 ≠ 0 then d - 1 else d := by
  obtain ⟨q, m, hm, hm', rfl⟩ : ∃ q m : Int, 0 ≤ m ∧ m < 5 ∧ d = 5 * q + m := ⟨d / 5, d % 5, by omega, by omega, by omega⟩
  have hmod : (5 * q + m) % 5 = m := by omega
  rw [hmod]
  interval_cases m <;> cases r <;> simp only [indexSteps, sampleOffset, SampleRate.hz] <;> omega

theorem indexSteps_sampleOffset (c : RateCode) (r : SampleRate) (d : Int) :
    indexSteps c r (sampleOffset c r.hz d) = if c = .df ∧ d % 5 ≠ 0 then d - 1 else d := by
  by_cases hc : c = .df
  · subst hc
    simp [indexSteps_of_df]
  · simp [indexSteps_of_whole hc, hc]

/-- The own index of a position that lies at the offset of a difference. -/
theorem ownIndex_of_sampleOffset {tc : Timecode} {r : SampleRate} {p : Nat} {d : Int}
    (hp : (p : Int) = tc.anchorPosition + sampleOffset tc.rate r.hz d) :
    (ownIndex tc r p : Int) = (tc.anchorIndex + if tc.rate = .df ∧ d % 5 ≠ 0 then d - 1 else d) % tc.rate.perDay := by
  have hdiff : (p : Int) - tc.anchorPosition = sampleOffset tc.rate r.hz d := by omega
  have hday : (0 : Int) < tc.rate.perDay := by cases tc.rate <;> simp [RateCode.perDay]
  rw [← indexSteps_sampleOffset tc.rate r d, ownIndex, hdiff, Int.toNat_of_nonneg (Int.emod_nonneg _ (by omega))]
  rfl

/-- Settles O11, part by part. -/
theorem stampsBecomePositionsAndBack : Obligations.StampsBecomePositionsAndBack := by
  refine ⟨?_, ?_, ?_, ?_, ?_, ?_⟩
  · rintro c f fa half d hf hfa rfl rfl
    obtain ⟨hlow, hhigh⟩ := wrapDifference_bounds (c := c) (d := (f : Int) - fa) (by omega) (by omega)
    refine ⟨hlow, hhigh, fun h => ?_, fun h => ?_, fun h h' => ?_⟩
    · simp [wrapDifference, h]
    · simp [wrapDifference, h]
      omega
    · rw [wrapDifference, if_neg (by omega), if_neg (by omega)]
  · refine fun tc r n st => ⟨fun h => ?_, fun l h => ⟨fun hrate => ?_, fun hrate hvalid => ?_, fun d p hrate hvalid hd hp => ?_⟩⟩
    · simp [convertStamp, admission_of_no_label h]
    · simp [convertStamp, admission_of_other_rate h hrate]
    · simp [convertStamp, admission_of_invalid h hrate hvalid]
    · rw [convertStamp_of_admitted r n d (admission_of_valid h hrate hvalid) hd, sampleOffset_eq, ← hp]
      refine ⟨fun hnear => if_neg (by omega), fun hfar => if_pos hfar⟩
  · rintro r preRoll n rollPoint earliest rfl
    have htenth : ((preRoll * r.tenth : Nat) : Int) = preRoll * r.hz / 10 := by
      cases r <;> simp only [SampleRate.tenth, SampleRate.hz] <;> omega
    have hreach : earliestReach = 480000 := rfl
    unfold takeStart
    rw [htenth]
    dsimp only
    split
    · exact ⟨by dsimp only; omega, by simp only [true_iff]; omega⟩
    · exact ⟨by dsimp only; omega, by simp only [Bool.false_eq_true, false_iff]; omega⟩
  · intro r postRoll start cutPoint
    cases r <;> simp only [takeStop, SampleRate.tenth, SampleRate.hz] <;> omega
  · intro start n markPoint
    refine ⟨fun h => if_pos h, fun h => ?_⟩
    rw [markerPosition, if_neg (by omega)]
    omega
  · intro tc r n p st l d hanchor hlabel hrate hvalid hpoint hd
    have hindex := indexOf_lt_perDay hvalid
    obtain ⟨k, hk⟩ := wrapDifference_emod tc.rate ((indexOf tc.rate l : Int) - tc.anchorIndex)
    rw [convertStamp_of_admitted r n d (admission_of_valid hlabel hrate hvalid) hd] at hpoint
    have hp : (p : Int) = tc.anchorPosition + sampleOffset tc.rate r.hz d := by
      split at hpoint
      · simp at hpoint
      · exact (congrArg Point.position hpoint).symm
    rw [ownIndex_of_sampleOffset hp]
    have hsum : (tc.anchorIndex : Int) + d = indexOf tc.rate l + k * tc.rate.perDay := by omega
    split
    · rw [show (tc.anchorIndex : Int) + (d - 1) = indexOf tc.rate l - 1 + k * tc.rate.perDay by omega, Int.add_mul_emod_self_right]
    · rw [hsum, Int.add_mul_emod_self_right, Int.emod_eq_of_lt (by omega) (by omega)]

end Sys2Proof.Machine

/-! Merging NOTEs into slates (R63, R69): the relation, and that the order of merging does not matter. -/

namespace Sys2Proof.Machine

/-! ### The order of stamps -/

theorem SlateStamp.gt_iff (a b : SlateStamp) : a.gt b = true ↔ a.Beats b := by
  simp [gt, Beats]

theorem SlateStamp.beats_iff (a b : SlateStamp) :
    a.Beats b ↔ b.revision.toNat < a.revision.toNat ∨ (a.revision.toNat = b.revision.toNat ∧ b.station < a.station) := by
  simp only [Beats, BitVec.toNat_inj]

theorem SlateStamp.beats_trans {a b c : SlateStamp} (h : a.Beats b) (h' : b.Beats c) : a.Beats c := by
  simp only [beats_iff] at *
  omega

theorem SlateStamp.not_beats_of_beats {a b : SlateStamp} (h : a.Beats b) : ¬ b.Beats a := by
  simp only [beats_iff] at *
  omega

/-- Of two different stamps one is greater. -/
theorem SlateStamp.beats_or_beats {a b : SlateStamp} (h : a ≠ b) : a.Beats b ∨ b.Beats a := by
  have hne : ¬ (a.revision.toNat = b.revision.toNat ∧ a.station = b.station) := by
    rintro ⟨hrev, hstation⟩
    cases a
    cases b
    simp_all [BitVec.toNat_inj]
  simp only [beats_iff]
  omega


/-! ### One field -/

section Field

variable {α : Type}

theorem mergeField_of_none (st : SlateStamp) (old : α × SlateStamp) : mergeField st none old = old := rfl

theorem mergeField_of_beats {st : SlateStamp} {old : α × SlateStamp} (v : α) (h : st.Beats old.2) :
    mergeField st (some v) old = (v, st) :=
  if_pos ((SlateStamp.gt_iff ..).2 h)

theorem mergeField_of_not_beats {st : SlateStamp} {old : α × SlateStamp} (new : Option α) (h : ¬ st.Beats old.2) :
    mergeField st new old = old := by
  cases new with
  | none => rfl
  | some v => exact if_neg fun hgt => h ((SlateStamp.gt_iff ..).1 hgt)

/-- What the relation of R69 says of a field is what `mergeField` makes of it. -/
theorem fieldMerged_iff (st : SlateStamp) (new : Option α) (old now : α) (oldStamp nowStamp : SlateStamp) :
    FieldMerged st new old oldStamp now nowStamp ↔ (now, nowStamp) = mergeField st new (old, oldStamp) := by
  unfold FieldMerged
  by_cases hbeats : st.Beats oldStamp
  · cases new with
    | none => simp [mergeField_of_none]
    | some v => simp [mergeField_of_beats (old := (old, oldStamp)) v hbeats, hbeats]
  · simp [mergeField_of_not_beats (old := (old, oldStamp)) new hbeats, hbeats]

/-- Two merges where the first stamp is the greater: the second changes nothing that the first would not. -/
theorem mergeField_comm_of_beats {a b : SlateStamp} (hab : a.Beats b) (newA newB : Option α) (old : α × SlateStamp) :
    mergeField b newB (mergeField a newA old) = mergeField a newA (mergeField b newB old) := by
  cases newA with
  | none => simp only [mergeField_of_none]
  | some v =>
    cases newB with
    | none => simp only [mergeField_of_none]
    | some x =>
      by_cases hb : b.Beats old.2
      · rw [mergeField_of_beats v (SlateStamp.beats_trans hab hb),
          mergeField_of_beats x hb, mergeField_of_beats v hab, mergeField_of_not_beats _ (SlateStamp.not_beats_of_beats hab)]
      · rw [mergeField_of_not_beats (some x) hb]
        by_cases ha : a.Beats old.2
        · rw [mergeField_of_beats v ha, mergeField_of_not_beats _ (SlateStamp.not_beats_of_beats hab)]
        · rw [mergeField_of_not_beats _ ha, mergeField_of_not_beats _ hb]

theorem mergeField_comm {a b : SlateStamp} (hne : a ≠ b) (newA newB : Option α) (old : α × SlateStamp) :
    mergeField b newB (mergeField a newA old) = mergeField a newA (mergeField b newB old) := by
  rcases SlateStamp.beats_or_beats hne with h | h
  · exact mergeField_comm_of_beats h newA newB old
  · exact (mergeField_comm_of_beats h newB newA old).symm

end Field

/-! ### The whole slate -/

theorem Slate.merged_iff (sl : Slate) (st : SlateStamp) (fs : NoteFields) (now : Slate) :
    sl.Merged st fs now ↔ now = mergeSlate st fs sl := by
  cases now
  simp only [Merged, fieldMerged_iff, mergeSlate, Slate.mk.injEq, Prod.ext_iff]
  tauto

/-- Settles O24, field by field. -/
theorem slateMergesCommute : Obligations.SlateMergesCommute := by
  refine ⟨fun st fs sl now => sl.merged_iff st fs now, fun a b fa fb sl hne => ?_⟩
  simp only [mergeSlate, Prod.mk.eta, mergeField_comm hne]

end Sys2Proof.Machine

/-! Allocation (R112): the lowest good run from the cursor on. -/

namespace Sys2Proof.Machine

theorem State.defectAt_iff (s : State) (b : Nat) : s.defectAt b = true ↔ ∃ d ∈ s.media.defects, d.block = b := by
  simp [defectAt]

/-! ### The first good block -/

/-- More places than there are defects hold a good one. -/
theorem State.exists_good (s : State) (c : Nat) : ∃ k < s.media.defects.length + 1, s.defectAt (c + k) = false := by
  by_contra hnone
  have hsub : (List.range (s.media.defects.length + 1)).map (c + ·) ⊆ s.media.defects.map (·.block) := by
    intro b hb
    obtain ⟨k, hk, rfl⟩ := List.mem_map.1 hb
    have hdefect : s.defectAt (c + k) = true := by
      by_contra hgood
      exact hnone ⟨k, List.mem_range.1 hk, by simpa using hgood⟩
    simpa using (s.defectAt_iff _).1 hdefect
  have hnodup : ((List.range (s.media.defects.length + 1)).map (c + ·)).Nodup :=
    List.nodup_range.map fun a b h => by simpa using h
  have hlength := (hnodup.subperm hsub).length_le
  simp at hlength

theorem State.firstGood_spec (s : State) (c : Nat) :
    c ≤ s.firstGood c ∧ s.defectAt (s.firstGood c) = false ∧ ∀ b, c ≤ b → b < s.firstGood c → s.defectAt b = true := by
  obtain ⟨k, hk, hgood⟩ := s.exists_good c
  cases hfind : (List.range (s.media.defects.length + 1)).find? fun k => !s.defectAt (c + k) with
  | none =>
    have := List.find?_eq_none.1 hfind k (List.mem_range.2 hk)
    simp [hgood] at this
  | some j =>
    obtain ⟨hj, -, hbefore⟩ := List.find?_range_eq_some.1 hfind
    simp only [firstGood, hfind, Option.getD_some]
    refine ⟨by omega, by simpa using hj, fun b hb hb' => ?_⟩
    have := hbefore (b - c) (by omega)
    simpa [show c + (b - c) = b by omega] using this

/-! ### The length of a run -/

/-- The numbers below the first of `n` for which the condition fails. -/
theorem length_takeWhile_range (p : Nat → Bool) (n : Nat) : ∃ k ≤ n, ((List.range n).takeWhile p).length = k
    ∧ (∀ j < k, p j = true) ∧ (k < n → p k = false) := by
  induction n with
  | zero => exact ⟨0, le_rfl, rfl, by simp, by simp⟩
  | succ n ih =>
    obtain ⟨k, hk, hlength, hbelow, hat⟩ := ih
    rw [List.range_succ, List.takeWhile_append, List.length_range]
    by_cases hkn : k = n
    · subst hkn
      rw [if_pos hlength]
      cases hp : p k with
      | true =>
        refine ⟨k + 1, le_rfl, by simp [hp], fun j hj => ?_, by simp⟩
        rcases Nat.lt_succ_iff_lt_or_eq.1 hj with h | rfl
        · exact hbelow j h
        · exact hp
      | false => exact ⟨k, Nat.le_succ k, by simp [hp], hbelow, fun _ => hp⟩
    · rw [if_neg (by omega)]
      exact ⟨k, by omega, hlength, hbelow, fun _ => hat (by omega)⟩

theorem State.runLength_spec (s : State) (c n capacity : Nat) :
    s.runLength c n capacity ≤ n
      ∧ (∀ j < s.runLength c n capacity, c + j < capacity ∧ s.defectAt (c + j) = false)
      ∧ (s.runLength c n capacity < n →
          capacity ≤ c + s.runLength c n capacity ∨ s.defectAt (c + s.runLength c n capacity) = true) := by
  obtain ⟨k, hk, hlength, hbelow, hat⟩ := length_takeWhile_range (fun k => decide (c + k < capacity) && !s.defectAt (c + k)) n
  have hrun : s.runLength c n capacity = k := hlength
  rw [hrun]
  refine ⟨hk, fun j hj => by simpa using hbelow j hj, fun hlt => ?_⟩
  have := hat hlt
  simp only [Bool.and_eq_false_iff, decide_eq_false_iff_not, Bool.not_eq_false'] at this
  rcases this with h | h
  · exact .inl (by omega)
  · exact .inr h

/-! ### The answer to a request -/

/-- A run is given from the first good block on, unless that lies beyond the end of the card (R112, R113). -/
theorem State.allocate_eq {s : State} {cursor capacity : Nat} (n : Nat) (hcursor : s.media.cursor = some cursor)
    (hcapacity : s.media.capacity = some capacity) : s.allocate n =
      if s.media.state = .full ∨ capacity ≤ s.firstGood cursor ∨ s.runLength (s.firstGood cursor) n capacity = 0 then none
      else some ({ first := s.firstGood cursor, count := s.runLength (s.firstGood cursor) n capacity },
        { s with media := { s.media with cursor := some (s.firstGood cursor + s.runLength (s.firstGood cursor) n capacity) } }) := by
  simp only [allocate, hcursor, hcapacity]

/-- Settles O27. -/
theorem allocationGivesTheLowestGoodRun : Obligations.AllocationGivesTheLowestGoodRun := by
  intro s n cursor capacity hn hcursor hcapacity hfull
  obtain ⟨hfrom, hgood, hbefore⟩ := s.firstGood_spec cursor
  obtain ⟨hle, hrun, hend⟩ := s.runLength_spec (s.firstGood cursor) n capacity
  rw [State.allocate_eq n hcursor hcapacity]
  simp only [hfull, false_or]
  refine ⟨fun run s' h => ?_, ?_⟩
  · split at h
    · cases h
    · next hroom =>
      cases h
      have hlast := hrun (s.runLength (s.firstGood cursor) n capacity - 1) (by omega)
      refine ⟨hfrom, by dsimp only; omega, hle, by dsimp only; omega, fun b hb hb' => (s.defectAt_iff b).1 (hbefore b hb hb'),
        fun b hb hb' d hd hblock => ?_, ?_, rfl⟩
      · have := (hrun (b - s.firstGood cursor) (by dsimp only at hb'; omega)).2
        rw [show s.firstGood cursor + (b - s.firstGood cursor) = b by dsimp only at hb; omega] at this
        exact Bool.false_ne_true (this.symm.trans ((s.defectAt_iff b).2 ⟨d, hd, hblock⟩))
      · rcases Nat.lt_or_eq_of_le hle with hshort | hfull
        · rcases hend hshort with h | h
          · exact .inr (.inl (by dsimp only; omega))
          · exact .inr (.inr ((s.defectAt_iff _).1 h))
        · exact .inl hfull
  · have hnone : (capacity ≤ s.firstGood cursor ∨ s.runLength (s.firstGood cursor) n capacity = 0)
        ↔ capacity ≤ s.firstGood cursor := by
      refine ⟨fun h => h.elim id fun hzero => ?_, .inl⟩
      rcases hend (by omega) with h | h
      · omega
      · rw [hzero, Nat.add_zero, hgood] at h
        cases h
    rw [ite_eq_left_iff, hnone]
    constructor
    · intro h b hb hb'
      have : capacity ≤ s.firstGood cursor := by
        by_contra hlt
        cases h hlt
      exact (s.defectAt_iff b).1 (hbefore b hb (by omega))
    · intro hall hlt
      have := (s.defectAt_iff _).2 (hall (s.firstGood cursor) hfrom (by omega))
      rw [hgood] at this
      cases this

end Sys2Proof.Machine

/-! The cart link: the receive filter, frames and requests that are turned away, and the transmit queue. -/

namespace Sys2Proof.Machine

/-! ### Bits and bytes -/

theorem bitsMsb_bitsValue (a b c d e f g h : Bool) : bitsMsb (BitVec.ofNat 8 (bitsValue [a, b, c, d, e, f, g, h])) = [a, b, c, d, e, f, g, h] := by
  revert a b c d e f g h
  decide

theorem bitsOf_cons (b : Byte) (bs : List Byte) : bitsOf (b :: bs) = bitsMsb b ++ bitsOf bs := rfl

/-- Bits that make whole bytes are the bits of those bytes. -/
theorem bitsOf_of_bytesOf {l : List Bool} {bs : List Byte} (h : bytesOf l = some bs) : bitsOf bs = l := by
  induction l using bytesOf.induct generalizing bs with
  | case1 =>
    cases h
    rfl
  | case2 a b c d e f g h' rest ih =>
    rw [bytesOf, Option.map_eq_some_iff] at h
    obtain ⟨bs', hbs', rfl⟩ := h
    rw [bitsOf_cons, bitsMsb_bitsValue, ih hbs']
    rfl
  | case3 l hnil hcons =>
    rw [bytesOf] at h
    · cases h
    · exact hnil
    · exact hcons

theorem bytesOf_eq_some {l : List Bool} {bs : List Byte} : bytesOf l = some bs ↔ l = bitsOf bs :=
  ⟨fun h => (bitsOf_of_bytesOf h).symm, fun h => h ▸ bytesOf_bitsOf bs⟩

theorem fromLe_lt (bs : List Byte) : fromLe bs < 256 ^ bs.length := by
  induction bs with
  | nil => simp [fromLe]
  | cons b bs ih =>
    rw [fromLe, List.length_cons, pow_succ]
    have := b.isLt
    omega

/-- Bytes are those of the number that they spell. -/
theorem le_fromLe (bs : List Byte) : le bs.length (fromLe bs) = bs := by
  induction bs with
  | nil => rfl
  | cons b bs ih =>
    have := b.isLt
    have hhead : BitVec.ofNat 8 (fromLe (b :: bs)) = b := by
      apply BitVec.eq_of_toNat_eq
      simp only [BitVec.toNat_ofNat, fromLe]
      omega
    have htail : fromLe (b :: bs) / 256 = fromLe bs := by
      rw [fromLe]
      omega
    rw [List.length_cons, le, hhead, htail, ih]

/-! ### The filter -/

theorem kindOfCode_eq_some {b : Byte} {k : FrameKind} : kindOfCode b = some k ↔ k.code = b := by
  constructor
  · intro h
    simpa using List.find?_some h
  · rintro rfl
    cases k <;> rfl

theorem payloadLengthOk_iff (k : FrameKind) (m : Nat) : payloadLengthOk k m = true ↔
    ∀ n, (k, n) ∈ [(FrameKind.roll, 8), (.cut, 8), (.mark, 11), (.jam, 5), (.state, 9)] → m = n := by
  cases k <;> simp [payloadLengthOk]

theorem judgeFrame_eq_some {sender dest : Nat} {kind : Byte} {payload : List Byte} {f : Frame} :
    judgeFrame sender dest kind payload = some f ↔ f.kind.code = kind ∧ f.sender = sender ∧ f.dest = dest ∧ f.payload = payload
      ∧ 1 ≤ sender ∧ sender ≤ 30 ∧ dest ≤ 30 ∧ payloadLengthOk f.kind payload.length = true := by
  unfold judgeFrame
  cases hkind : kindOfCode kind with
  | none =>
    refine ⟨fun h => by simp at h, fun h => ?_⟩
    rw [kindOfCode_eq_some.2 h.1] at hkind
    cases hkind
  | some k =>
    have hcode := kindOfCode_eq_some.1 hkind
    dsimp only
    constructor
    · intro h
      split at h
      · next hok =>
        cases h
        exact ⟨hcode, rfl, rfl, rfl, hok⟩
      · cases h
    · rintro ⟨hf, rfl, rfl, rfl, hok⟩
      have hk : k = f.kind := Option.some.inj (hkind.symm.trans (kindOfCode_eq_some.2 hf))
      rw [if_pos (hk ▸ hok), hk]

/-- The bytes of a frame, its header byte by byte. -/
theorem frameBytes_eq (sender dest : Nat) (kind : FrameKind) (payload : List Byte) : frameBytes sender dest kind payload =
    BitVec.ofNat 8 sender :: BitVec.ofNat 8 dest :: kind.code :: BitVec.ofNat 8 payload.length :: (payload
      ++ le 2 (crc16 (BitVec.ofNat 8 sender :: BitVec.ofNat 8 dest :: kind.code :: BitVec.ofNat 8 payload.length :: payload)).toNat) := rfl

/-- A frame whose number and length fit their bytes passes the filter as it was sent (R162, R163). -/
theorem acceptFrame_of_frameBytes {w : Wire} {f : Frame} (hsender : 1 ≤ f.sender ∧ f.sender ≤ 30) (hdest : f.dest ≤ 30)
    (hlength : f.payload.length ≤ 240) (hkind : payloadLengthOk f.kind f.payload.length = true)
    (hbits : w.bits = bitsOf (frameBytes f.sender f.dest f.kind f.payload)) : acceptFrame w = some f := by
  have hbyte : ∀ n, n ≤ 240 → (BitVec.ofNat 8 n).toNat = n := fun n hn => by simp only [BitVec.toNat_ofNat]; omega
  rw [acceptFrame, hbits, bytesOf_bitsOf, frameBytes_eq]
  dsimp only
  rw [hbyte _ hlength, List.take_left' rfl, List.drop_left' rfl,
    fromLe_le 2 _ (by exact (crc16 _).isLt), if_pos ⟨hlength, by simp, rfl⟩, hbyte _ (by omega), hbyte _ (by omega)]
  exact judgeFrame_eq_some.2 ⟨rfl, rfl, rfl, rfl, hsender.1, hsender.2, hdest, hkind⟩

/-- What passes the filter is a frame as it is sent (R162, R163). -/
theorem frameBytes_of_acceptFrame {w : Wire} {f : Frame} (h : acceptFrame w = some f) :
    (1 ≤ f.sender ∧ f.sender ≤ 30) ∧ f.dest ≤ 30 ∧ f.payload.length ≤ 240 ∧ payloadLengthOk f.kind f.payload.length = true
      ∧ w.bits = bitsOf (frameBytes f.sender f.dest f.kind f.payload) := by
  unfold acceptFrame at h
  split at h
  · next snd dst kind len rest hbytes =>
    dsimp only at h
    split at h
    · next hok =>
      obtain ⟨hn, hrest, hcrc⟩ := hok
      obtain ⟨hkind, hsender, hdest, hpayload, hok⟩ := judgeFrame_eq_some.1 h
      have hlength : (rest.take len.toNat).length = len.toNat := by simp [hrest]
      have hcheck : rest.drop len.toNat = le 2 (crc16 (snd :: dst :: kind :: len :: rest.take len.toNat)).toNat := by
        rw [← hcrc, ← show (rest.drop len.toNat).length = 2 by simp [hrest], le_fromLe]
      rw [hsender, hdest, hpayload, hlength]
      refine ⟨⟨hok.1, hok.2.1⟩, hok.2.2.1, hn, hlength ▸ hok.2.2.2, ?_⟩
      rw [bytesOf_eq_some.1 hbytes, frameBytes_eq, hkind, hlength]
      simp only [BitVec.ofNat_toNat, BitVec.setWidth_eq, ← hcheck, List.take_append_drop]
    · cases h
  · cases h

/-- Settles O43: `acceptFrame` undoes `frameBytes` and takes nothing else. -/
theorem filterTakesExactlyTheFrames : Obligations.FilterTakesExactlyTheFrames := by
  intro w f
  rw [← payloadLengthOk_iff]
  constructor
  · intro h
    obtain ⟨hsender, hdest, hlength, hkind, hbits⟩ := frameBytes_of_acceptFrame h
    exact ⟨hsender.1, hsender.2, hdest, hlength, hkind, hbits⟩
  · rintro ⟨hlow, hhigh, hdest, hlength, hkind, hbits⟩
    exact acceptFrame_of_frameBytes ⟨hlow, hhigh⟩ hdest hlength hkind hbits

end Sys2Proof.Machine

/-! Frames that are not taken, and requests that are refused for their form or for a card that is being scanned. -/

namespace Sys2Proof.Machine

variable {s : State} {w : Wire} {f : Frame} {q : Request} {k : RequestKind}

/-! ### Frames that are not taken -/

theorem State.takenFrame_eq_none (h : acceptFrame w = none ∨ s.link.driving.isSome = true ∨
    ∃ f, acceptFrame w = some f ∧ takenBy s.link.station f = false) (k : FrameKind) : s.takenFrame k w = none := by
  rw [Option.eq_none_iff_forall_ne_some]
  intro f hf
  obtain ⟨hdriving, haccept, -, htaken⟩ := s.takenFrame_eq_some.1 hf
  rcases h with h | h | ⟨g, hg, h⟩
  · simp [h] at haccept
  · simp [hdriving] at h
  · rw [haccept] at hg
    cases hg
    rw [htaken] at h
    cases h

theorem State.onFrame_of_not_taken {k : FrameKind} (owner : Frame → State → State) (h : s.takenFrame k w = none) :
    s.onFrame k owner w = s := by
  simp only [onFrame, h]

theorem State.onRequest_of_not_taken (carry : Request → State → State) (h : s.takenFrame .request w = none) :
    s.onRequest k carry w = s := by
  simp only [onRequest, h]

theorem takenBy_iff (own : Nat) (f : Frame) :
    takenBy own f = true ↔ (f.dest = 0 ∧ f.kind ≠ .request) ∨ (f.dest ≠ 0 ∧ f.dest = own) := by
  unfold takenBy
  split <;> simp_all

/-- The frames that the filter takes are of stations 1 to 30, and for stations up to 30 (R163). -/
theorem dest_le_of_acceptFrame (h : acceptFrame w = some f) : f.dest ≤ 30 := (frameBytes_of_acceptFrame h).2.1

/-! ### The effect of a taken frame on STATION CONFLICT -/

theorem State.noteConflict_eq (s : State) (f : Frame) : s.noteConflict f =
    { s with link := { s.link with conflict := s.link.conflict || decide (f.sender = s.link.station) } } := by
  unfold noteConflict
  by_cases h : f.sender = s.link.station <;> simp [h]

/-- Nothing but the link controller notes a conflict. -/
theorem State.noteConflict_withLink (s : State) (f : Frame) : s.noteConflict f = { s with link := (s.noteConflict f).link } := by
  rw [noteConflict_eq]

/-- The answer to a request that was just taken. -/
theorem State.noteConflict_answer (s : State) (f : Frame) (q : Request) (c : OutcomeClass) (d : Detail) (reply : List Byte) :
    (s.noteConflict f).answer q c d reply = { s with link := (s.noteConflict f).link.enqueueReport (q.report c d reply) } := by
  rw [noteConflict_withLink]
  rfl

theorem State.noteConflict_refuse (s : State) (f : Frame) (q : Request) (d : Detail) :
    (s.noteConflict f).refuse q d = { s with link := (s.noteConflict f).link.enqueueReport (q.report .refused d []) } :=
  s.noteConflict_answer f q .refused d []

/-! ### Requests -/

/-- What carries on a request of a kind. -/
def RequestKind.handler : RequestKind → Request → State → State
  | .queryStatus => State.queryStatus
  | .queryMeters => State.queryMeters
  | .queryTake => State.queryTake
  | .searchJournal => State.searchJournal
  | .arm => State.arm
  | .mix => State.mix
  | .verifyTake => State.verifyTake
  | .prepareMedia => State.prepareMedia
  | .releaseMedia => State.releaseMedia
  | .abort => State.abort

theorem exec_command (k : RequestKind) (w : Wire) (s : State) : exec (k.command w) s = .next (s.onRequest k k.handler w) := by
  cases k <;> rfl

/-- A REQUEST of a kind that is taken is carried on when its form is that of the kind. -/
theorem exec_command_of_formOk (h : s.TakesRequest k w f q) (hform : formOk k q.args = true) :
    exec (k.command w) s = .next (k.handler q (s.noteConflict f)) := by
  obtain ⟨htaken, hdecode, hcode⟩ := h
  simp [exec_command, State.onRequest, htaken, hdecode, hcode, hform]

theorem exec_command_of_badForm (h : s.TakesRequest k w f q) (hform : formOk k q.args = false) :
    exec (k.command w) s = .next ((s.noteConflict f).refuse q .badArgument) := by
  obtain ⟨htaken, hdecode, hcode⟩ := h
  simp [exec_command, State.onRequest, htaken, hdecode, hcode, hform]

/-- While the card is being scanned every request but QUERY STATUS is refused (R116, R148, R177). -/
theorem RequestKind.handler_of_mounting {u : State} (k : RequestKind) (q : Request) (hk : k ≠ .queryStatus)
    (hmounting : u.media.state = .mounting) (hport : u.port.Sound) : k.handler q u = u.refuse q .noMedia := by
  have hany : u.media.state.barsAny = some .noMedia := by simp [hmounting, MediaState.barsAny]
  have hmirror : u.media.state.barsMirror = some .noMedia := by simp [hmounting, MediaState.barsMirror]
  cases k with
  | queryStatus => exact absurd rfl hk
  | queryTake => simp [handler, State.queryTake, hany, hmirror, State.gated]
  | queryMeters | arm | mix | abort =>
    simp [handler, State.queryMeters, State.arm, State.mix, State.abort, hany, State.gated]
  | searchJournal => simp [handler, State.searchJournal, hmirror, State.gated]
  | verifyTake =>
    have hask : u.askVerify q (field q.args 0 2) = u.refuse q .noMedia := by
      simp [State.askVerify, State.verifyRefusal, hmirror]
    rw [handler, State.verifyTake, hask]
    exact State.grant_of_portSound _ hport
  | prepareMedia => simp [handler, State.prepareMedia, State.prepareGate, hmounting]
  | releaseMedia => simp [handler, State.releaseMedia, State.releaseGate, hmounting]

/-- Settles O42. -/
theorem untakenFramesAndBadRequestsChangeNothing : Obligations.UntakenFramesAndBadRequestsChangeNothing := by
  refine ⟨fun w s => ⟨rfl, fun f hf => ?_, fun h c hc => ?_⟩, takenBy_iff, fun s k w f => ?_, fun s k w hlisten => ?_,
    fun k w s f q h => ⟨fun hform => ?_, fun hform hmounting hk hport => ?_⟩⟩
  · refine congrArg Host.Outcome.next ((s.onFrame_of_taken _ hf).trans ?_)
    exact s.noteConflict_eq f
  · have hnone := s.takenFrame_eq_none h
    simp only [List.mem_cons, List.not_mem_nil, or_false] at hc
    rcases hc with rfl | rfl | rfl | rfl | rfl | rfl | rfl | rfl | rfl | rfl | rfl | rfl | rfl | rfl | rfl | rfl | rfl | rfl
    iterate 7 exact congrArg Host.Outcome.next (State.onFrame_of_not_taken _ (hnone _))
    · show Host.Outcome.next _ = _
      rw [hnone]
    iterate 10 exact congrArg Host.Outcome.next (State.onRequest_of_not_taken _ (hnone _))
  · rw [s.takenFrame_eq_some, takenBy_iff]
    constructor
    · rintro ⟨hdriving, haccept, rfl, h⟩
      exact ⟨hdriving, haccept, rfl, h⟩
    · rintro ⟨hdriving, haccept, rfl, h⟩
      exact ⟨hdriving, haccept, rfl, h⟩
  · have hdest : ∀ {k f}, s.takenFrame k w = some f → f.dest = 0 := by
      intro k f hf
      obtain ⟨-, haccept, -, htaken⟩ := s.takenFrame_eq_some.1 hf
      have := dest_le_of_acceptFrame haccept
      rcases (takenBy_iff ..).1 htaken with h | h <;> omega
    refine ⟨Option.eq_none_iff_forall_ne_some.2 fun f hf => ?_, fun f => hdest⟩
    obtain ⟨-, -, hkind, htaken⟩ := s.takenFrame_eq_some.1 hf
    rcases (takenBy_iff ..).1 htaken with h | h
    · exact h.2 hkind
    · exact h.1 (hdest hf)
  · rw [exec_command_of_badForm h hform, State.noteConflict_refuse]
  · rw [exec_command_of_formOk h hform, RequestKind.handler_of_mounting k q hk (by simpa using hmounting) (by simpa using hport),
      State.noteConflict_refuse]

end Sys2Proof.Machine

/-! The transmit queue: where a frame to be queued is placed, and the attempts of the frame at its head. -/

namespace Sys2Proof.Machine

/-! ### Where a frame is placed -/

section Placing

variable {l : Link} {c : StateContent} {b : TxBody} {rep : Report}

theorem Link.listenOnly_iff (l : Link) : l.listenOnly = true ↔ l.station = 0 ∨ 31 ≤ l.station := by
  simp [listenOnly]

theorem Link.listenOnly_eq_false (hlow : 1 ≤ l.station) (hhigh : l.station ≤ 30) : l.listenOnly = false := by
  rw [← Bool.not_eq_true, listenOnly_iff]
  omega

/-- The first element that a condition admits leaves a list. -/
theorem eraseP_of_first {α : Type} {p : α → Bool} {before after : List α} {x : α} (hx : p x = true)
    (hbefore : ∀ y ∈ before, p y = false) : (before ++ x :: after).eraseP p = before ++ after := by
  rw [List.eraseP_append_right _ fun y hy => by simp [hbefore y hy], List.eraseP_cons_of_pos hx]

theorem any_of_mem_middle {α : Type} {p : α → Bool} {before after : List α} {x : α} (hx : p x = true) :
    (before ++ x :: after).any p = true := by
  simp [hx]

theorem any_eq_false_of_forall {α : Type} {p : α → Bool} {q : List α} (h : ∀ y ∈ q, p y = false) : q.any p = false := by
  simpa using h

theorem Link.enqueueState_of_waiting {before after : List TxFrame} {x : TxFrame} (hsends : l.listenOnly = false)
    (hqueue : l.queue = before ++ x :: after) (hx : x.waitingState = true) (hbefore : ∀ y ∈ before, y.waitingState = false) :
    l.enqueueState c = { l with queue := before ++ after ++ [TxFrame.fresh (.state c)] } := by
  simp [enqueueState, hsends, hqueue, any_of_mem_middle hx, eraseP_of_first hx hbefore]

theorem Link.enqueueState_of_room (hsends : l.listenOnly = false) (hnone : ∀ y ∈ l.queue, y.waitingState = false)
    (hroom : l.queue.length < 8) : l.enqueueState c = { l with queue := l.queue ++ [TxFrame.fresh (.state c)] } := by
  have : l.queue.length < maxTransmit := hroom
  simp [enqueueState, hsends, any_eq_false_of_forall hnone, this]

theorem Link.enqueueState_of_report {before after : List TxFrame} {x : TxFrame} (hsends : l.listenOnly = false)
    (hnone : ∀ y ∈ l.queue, y.waitingState = false) (hfull : 8 ≤ l.queue.length) (hqueue : l.queue = before ++ x :: after)
    (hx : x.waitingReport = true) (hbefore : ∀ y ∈ before, y.waitingReport = false) :
    l.enqueueState c = { l with queue := before ++ after ++ [TxFrame.fresh (.state c)] } := by
  have : ¬ l.queue.length < maxTransmit := Nat.not_lt.2 hfull
  rw [enqueueState, if_neg (by simp [hsends]), if_neg (by simp [any_eq_false_of_forall hnone]), if_neg this, hqueue,
    if_pos (any_of_mem_middle hx), eraseP_of_first hx hbefore]

theorem Link.enqueueState_of_full (hsends : l.listenOnly = false) (hnone : ∀ y ∈ l.queue, y.waitingState = false)
    (hfull : 8 ≤ l.queue.length) (hreports : ∀ y ∈ l.queue, y.waitingReport = false) :
    l.enqueueState c = { l with owed := true } := by
  have : ¬ l.queue.length < maxTransmit := Nat.not_lt.2 hfull
  simp [enqueueState, hsends, any_eq_false_of_forall hnone, this, any_eq_false_of_forall hreports]

theorem Link.enqueueTransport_of_room (hsends : l.listenOnly = false) (hroom : l.queue.length < 8) :
    l.enqueueTransport b = { l with queue := l.queue ++ [TxFrame.fresh b] } := by
  have : l.queue.length < maxTransmit := hroom
  simp [enqueueTransport, hsends, this]

theorem Link.enqueueTransport_of_report {before after : List TxFrame} {x : TxFrame} (hsends : l.listenOnly = false)
    (hfull : 8 ≤ l.queue.length) (hqueue : l.queue = before ++ x :: after) (hx : x.waitingReport = true)
    (hbefore : ∀ y ∈ before, y.waitingReport = false) :
    l.enqueueTransport b = { l with queue := before ++ after ++ [TxFrame.fresh b] } := by
  have : ¬ l.queue.length < maxTransmit := Nat.not_lt.2 hfull
  rw [enqueueTransport, if_neg (by simp [hsends]), if_neg this, hqueue, if_pos (any_of_mem_middle hx), eraseP_of_first hx hbefore]

theorem Link.enqueueTransport_of_full (hsends : l.listenOnly = false) (hfull : 8 ≤ l.queue.length)
    (hreports : ∀ y ∈ l.queue, y.waitingReport = false) : l.enqueueTransport b = { l with linkTrouble := true } := by
  have : ¬ l.queue.length < maxTransmit := Nat.not_lt.2 hfull
  simp [enqueueTransport, hsends, this, any_eq_false_of_forall hreports]

theorem Link.enqueueReport_of_room (hsends : l.listenOnly = false) (hroom : l.queue.length < 8) :
    l.enqueueReport rep = { l with queue := l.queue ++ [TxFrame.fresh (.report rep)] } := by
  have : l.queue.length < maxTransmit := hroom
  simp [enqueueReport, hsends, this]

theorem Link.enqueueReport_of_full (hsends : l.listenOnly = false) (hfull : 8 ≤ l.queue.length) : l.enqueueReport rep = l := by
  have : ¬ l.queue.length < maxTransmit := Nat.not_lt.2 hfull
  simp [enqueueReport, hsends, this]

end Placing

theorem State.openKey_of_open {s : State} {n : Nat} {r : Record} (hopen : s.engine.openTake = some n) (hr : s.recordAt n = some r) :
    s.openKey = some r.key := by
  simp [openKey, hopen, hr]

/-- Settles O44: what `stateContent` holds, and where each of the three kinds is placed. -/
theorem transmitQueuePlacesFrames : Obligations.TransmitQueuePlacesFrames := by
  refine ⟨?_, fun l c b rep => ⟨fun hlisten => ?_, fun hlow hhigh => ?_⟩⟩
  · rintro s c rfl
    refine ⟨rfl, rfl, rfl, rfl, rfl, fun n r hstate hopen hr => ?_, fun hstate => ?_⟩
    · rw [State.stateContent, if_pos hstate, State.openKey_of_open hopen hr]
    · refine if_neg ?_
      rcases hstate with h | h <;> simp [h]
  · have := l.listenOnly_iff.2 hlisten
    simp [Link.enqueueState, Link.enqueueTransport, Link.enqueueReport, this]
  · have hsends := Link.listenOnly_eq_false hlow hhigh
    exact ⟨fun before x after hqueue hx hbefore => Link.enqueueState_of_waiting hsends hqueue hx hbefore,
      Link.enqueueState_of_room hsends,
      fun hroom => ⟨Link.enqueueTransport_of_room hsends hroom, Link.enqueueReport_of_room hsends hroom⟩,
      fun hfull => ⟨Link.enqueueReport_of_full hsends hfull,
        fun before x after hqueue hx hbefore => ⟨Link.enqueueTransport_of_report hsends hfull hqueue hx hbefore,
          fun hnone => Link.enqueueState_of_report hsends hnone hfull hqueue hx hbefore⟩,
        fun hreports => ⟨Link.enqueueTransport_of_full hsends hfull hreports,
          fun hnone => Link.enqueueState_of_full hsends hnone hfull hreports⟩⟩⟩

/-! ### The attempts of the head -/

section Attempts

variable {s : State} {f : TxFrame} {rest : List TxFrame}

theorem exec_transmitAttemptStart (hqueue : s.link.queue = f :: rest) : exec .transmitAttemptStart s =
    .next (if f.phase = .idle then ({ s with link := s.link.beginAttempt f rest } : State).clearNotice f else s) := by
  show Host.Outcome.next _ = _
  rw [hqueue]

theorem exec_transmitComplete (hqueue : s.link.queue = f :: rest) : exec .transmitComplete s =
    .next (if f.phase = .attempting then s.headLeaves false rest else s) := by
  show Host.Outcome.next _ = _
  rw [hqueue]

theorem exec_collision (hqueue : s.link.queue = f :: rest) : exec .collision s =
    .next (if f.phase = .attempting then
      (if f.attempts < 8 then { s with link := s.link.backOff f rest } else s.headLeaves true rest) else s) := by
  show Host.Outcome.next _ = _
  rw [hqueue]
  rfl

theorem exec_backoffComplete (hqueue : s.link.queue = f :: rest) : exec .backoffComplete s =
    .next (if f.inBackoff then { s with link := { s.link with queue := { f with phase := .idle } :: rest } } else s) := by
  show Host.Outcome.next _ = _
  rw [hqueue]

theorem TxBody.carries_state (notice : Option RefusalReason) (c : StateContent) :
    (TxBody.state c).carries notice = true ↔ c.reason ≠ none ∧ c.reason = notice := by
  simp [carries, Option.isSome_iff_ne_none]

theorem State.clearNotice_eq (s : State) (f : TxFrame) : s.clearNotice f = { s with engine := { s.engine with refusal :=
    (match f.body with
      | .state c => if f.attempts = 0 ∧ c.reason ≠ none ∧ c.reason = s.engine.refusal then none else s.engine.refusal
      | _ => s.engine.refusal) } } := by
  cases hbody : f.body with
  | state c =>
    have hcarries : (f.waiting = true ∧ f.body.carries s.engine.refusal = true)
        ↔ (f.attempts = 0 ∧ c.reason ≠ none ∧ c.reason = s.engine.refusal) := by
      simp [TxFrame.waiting, hbody, TxBody.carries_state]
    by_cases h : f.attempts = 0 ∧ c.reason ≠ none ∧ c.reason = s.engine.refusal
    · rw [clearNotice, if_pos (hcarries.2 h)]
      dsimp only
      rw [if_pos h]
    · rw [clearNotice, if_neg (mt hcarries.1 h)]
      dsimp only
      rw [if_neg h]
  | roll | cut | mark | report => simp [clearNotice, hbody, TxBody.carries]

theorem State.headLeaves_of_not_owed (h : s.link.owed = false) (trouble : Bool) :
    s.headLeaves trouble rest = { s with link := { s.link with queue := rest, linkTrouble := trouble, driving := none } } := by
  simp [headLeaves, payOwed, h]

/-- An owed STATE carries what holds as the frame leaves (R170). -/
theorem State.headLeaves_of_owed (h : s.link.owed = true) (trouble : Bool) :
    s.headLeaves trouble rest = ({ s with link :=
      { s.link with queue := rest, linkTrouble := trouble, driving := none, owed := false } } : State).queueState := by
  simp [headLeaves, payOwed, h]

/-- The end of an attempt, with an owed STATE as the state after it carries it. -/
theorem State.headLeaves_owed_link (h : s.link.owed = true) (trouble : Bool) :
    (s.headLeaves trouble rest).link = ({ s.link with
        queue := rest, linkTrouble := trouble, driving := none, owed := false } : Link).enqueueState (s.headLeaves trouble rest).stateContent
      ∧ s.headLeaves trouble rest = { s with link := (s.headLeaves trouble rest).link } := by
  rw [headLeaves_of_owed h]
  exact ⟨queueState_link_eq _, rfl⟩

end Attempts

/-! ### What is sent -/

theorem le_one (v : Nat) : le 1 v = [BitVec.ofNat 8 v] := rfl

theorem labelBytes_eq (l : Label) : labelBytes l = le 1 l.hh ++ le 1 l.mm ++ le 1 l.ss ++ le 1 l.ff := rfl

theorem keyBytes_eq (k : TakeKey) : keyBytes k = le 1 k.origin ++ le 2 k.roll.toNat := rfl

theorem RateCode.le_number (c : RateCode) : le 1 c.number = [c.byte] := by
  cases c <;> rfl

theorem LinkFlags.byte_eq (f : LinkFlags) : [f.byte] =
    le 1 ((if f.jammed then 1 else 0) + (if f.linkTrouble then 2 else 0) + (if f.conflict then 4 else 0)) := by
  obtain ⟨jammed, trouble, conflict⟩ := f
  cases jammed <;> cases trouble <;> cases conflict <;> rfl

/-- The codes of a STATE frame's fields (11.1, R172). -/
theorem StateContent.bytes_eq {c : StateContent} {a m k r : Nat} (ha : le 1 a = [c.take.code]) (hm : le 1 m = [c.media.code])
    (hk : le 1 k = [c.clock.code]) (hr : le 1 r = [match c.reason with | none => 0 | some r => r.code]) :
    c.bytes = le 1 a ++ le 1 m ++ le 1 k
      ++ le 1 ((if c.flags.jammed then 1 else 0) + (if c.flags.linkTrouble then 2 else 0) + (if c.flags.conflict then 4 else 0))
      ++ (match c.key with | none => [0, 0, 0, 0] | some key => 1 :: (le 1 key.origin ++ le 2 key.roll.toNat)) ++ le 1 r := by
  rw [ha, hm, hk, hr, ← LinkFlags.byte_eq]
  cases hkey : c.key <;> simp [bytes, hkey, optionalBytes, keyBytes_eq, List.replicate] <;> rfl

/-- Settles O45. -/
theorem headFrameIsSentByAttempts : Obligations.HeadFrameIsSentByAttempts := by
  refine ⟨fun s => ⟨fun h => ?_, fun h => ?_, fun h => ?_, fun f rest hqueue => ⟨fun hphase => ?_, fun hphase => ?_⟩⟩,
    fun s f rest hqueue => ⟨fun hphase => ?_, fun hphase => ?_, fun slots hphase => ?_, fun hphase => ⟨fun hcount => ?_, fun howed => ?_,
      fun howed => ?_⟩⟩, ?_, ?_, ?_, fun l bits hdriving => ⟨?_, ?_, ?_⟩⟩
  · show Host.Outcome.next _ = _
    rw [if_neg (by simp [h])]
  · show Host.Outcome.next _ = _
    rw [if_pos h]
    refine congrArg Host.Outcome.next ?_
    rw [State.queueState, State.stateContent_withLink rfl rfl]
    rfl
  · show Host.Outcome.next _ = _
    rw [h]
  · rw [exec_transmitAttemptStart hqueue, if_neg hphase]
  · refine ⟨_, exec_transmitAttemptStart hqueue, ?_⟩
    rw [if_pos hphase, State.clearNotice_eq]
    exact ⟨rfl, rfl, rfl⟩
  · rw [exec_transmitComplete hqueue, exec_collision hqueue, if_neg hphase, if_neg hphase]
    exact ⟨rfl, rfl⟩
  · have : f.inBackoff = false := by
      unfold TxFrame.inBackoff
      split
      · exact absurd ‹_› (hphase _)
      · rfl
      · rfl
    simp [exec_backoffComplete hqueue, this]
  · have : f.inBackoff = true := by simp [TxFrame.inBackoff, hphase]
    simp [exec_backoffComplete hqueue, this]
  · rw [exec_collision hqueue, if_pos hphase, if_pos hcount]
    rfl
  · refine ⟨?_, fun hlast => ?_⟩
    · rw [exec_transmitComplete hqueue, if_pos hphase, State.headLeaves_of_not_owed howed]
    · rw [exec_collision hqueue, if_pos hphase, if_neg (by omega), State.headLeaves_of_not_owed howed]
  · refine ⟨⟨_, ?_, State.headLeaves_owed_link howed false⟩, fun hlast => ⟨_, ?_, State.headLeaves_owed_link howed true⟩⟩
    · rw [exec_transmitComplete hqueue, if_pos hphase]
    · rw [exec_collision hqueue, if_pos hphase, if_neg (by omega)]
  · rintro n c l stamp rfl
    simp [TxBody.dest, TxBody.payload, TxBody.kind, FrameKind.code, RateCode.le_number, labelBytes_eq, keyBytes_eq]
  · intro c a m k r ha hm hk hr
    refine ⟨rfl, rfl, StateContent.bytes_eq ?_ ?_ ?_ ?_⟩
    · simp only [List.mem_cons, Prod.mk.injEq, List.not_mem_nil, or_false] at ha
      rcases ha with ⟨h, rfl⟩ | ⟨h, rfl⟩ | ⟨h, rfl⟩ | ⟨h, rfl⟩ <;> rw [h] <;> rfl
    · simp only [List.mem_cons, Prod.mk.injEq, List.not_mem_nil, or_false] at hm
      rcases hm with ⟨h, rfl⟩ | ⟨h, rfl⟩ | ⟨h, rfl⟩ | ⟨h, rfl⟩ | ⟨h, rfl⟩ | ⟨h, rfl⟩ | ⟨h, rfl⟩ | ⟨h, rfl⟩ <;> rw [h] <;> rfl
    · simp only [List.mem_cons, Prod.mk.injEq, List.not_mem_nil, or_false] at hk
      rcases hk with ⟨h, rfl⟩ | ⟨h, rfl⟩ <;> rw [h] <;> rfl
    · simp only [List.mem_cons, Prod.mk.injEq, List.not_mem_nil, or_false] at hr
      rcases hr with ⟨h, rfl⟩ | ⟨h, rfl⟩ | ⟨h, rfl⟩ | ⟨h, rfl⟩ <;> rw [h] <;> rfl
  · intro rep o d ho hd
    have houtcome : [rep.outcome.code] = le 1 o := by
      simp only [List.mem_cons, Prod.mk.injEq, List.not_mem_nil, or_false] at ho
      rcases ho with ⟨h, rfl⟩ | ⟨h, rfl⟩ | ⟨h, rfl⟩ | ⟨h, rfl⟩ | ⟨h, rfl⟩ | ⟨h, rfl⟩ <;> rw [h] <;> rfl
    have hdetail : [rep.detail.code] = le 1 d := by
      simp only [List.mem_cons, Prod.mk.injEq, List.not_mem_nil, or_false] at hd
      rcases hd with ⟨h, rfl⟩ | ⟨h, rfl⟩ | ⟨h, rfl⟩ | ⟨h, rfl⟩ | ⟨h, rfl⟩ | ⟨h, rfl⟩ | ⟨h, rfl⟩ | ⟨h, rfl⟩ | ⟨h, rfl⟩ | ⟨h, rfl⟩
        | ⟨h, rfl⟩ <;> rw [h] <;> rfl
    refine ⟨rfl, rfl, ?_⟩
    rw [← houtcome, ← hdetail]
    simp [TxBody.payload, Report.bytes]
  · simp [Link.attemptEnd, hdriving]
  · rintro before after rfl
    have hne : before ++ [false] ≠ before ++ true :: after := by simp
    simp [Link.attemptEnd, hdriving, (collides_iff _ _).2 ⟨before, after, rfl, rfl⟩]
  · intro readBack c h
    simp only [Link.attemptEnd, hdriving] at h
    split at h
    · cases h
      exact .inl ⟨rfl, ‹_›⟩
    · split at h
      · cases h
        exact .inr ⟨rfl, (collides_iff _ _).1 ‹_›⟩
      · cases h

end Sys2Proof.Machine

/-! ARM and MIX, and ABORT. -/

namespace Sys2Proof.Machine

variable {s : State} {w : Wire} {f : Frame} {q : Request}

/-- A request past a media check that admits it is carried on. -/
theorem State.gated_of_admitted {bar : Option Detail} (h : bar = none) (q : Request) (carry : State → State) (s : State) :
    s.gated bar q carry = carry s := by
  subst h
  rfl

theorem MediaState.barsAny_eq_none {m : MediaState} (h : m ≠ .mounting) : m.barsAny = none := by
  cases m <;> simp_all [barsAny]

theorem State.noteConflict_busyReply (s : State) (f : Frame) : (s.noteConflict f).busyReply = s.busyPayload := by
  rw [noteConflict_withLink]
  unfold busyReply busyPayload
  cases s.verify.slot <;> cases s.engine.takeState <;> rfl

/-! ### ARM (R6, R7, R188) -/

/-- The open take, whatever the station state, once the engine is sound (R37). -/
theorem State.openNow_eq (h : s.engine.Sound) : s.openNow = s.engine.openTake := by
  obtain ⟨hopen, -, -⟩ := h
  unfold openNow
  split
  · rfl
  · next hstate =>
    cases htake : s.engine.openTake with
    | none => rfl
    | some n => exact absurd (hopen.1 (by simp [htake])) hstate

theorem RequestKind.handler_arm {u : State} (hmounting : u.media.state ≠ .mounting) (q : Request) :
    RequestKind.arm.handler q u = u.applyArm q (BitVec.ofNat 16 (field q.args 0 2)) :=
  State.gated_of_admitted (MediaState.barsAny_eq_none hmounting) ..

/-! ### MIX (R9, R188) -/

/-- The entry at a place of a MIX request, in range by R9. -/
def mixEntryAt (args : List Byte) (i : Nat) : Option MixEntry :=
  match routingOfCode (field args (2 + 3 * i) 1) with
  | none => none
  | some code =>
    if field args (1 + 3 * i) 1 ≤ 15 then
      some { lane := field args (1 + 3 * i) 1, routing := code, gain := BitVec.ofNat 8 (field args (3 + 3 * i) 1) }
    else none

theorem mixEntries_eq (args : List Byte) : mixEntries args =
    if 1 ≤ field args 0 1 ∧ field args 0 1 ≤ 16 then (List.range (field args 0 1)).mapM (mixEntryAt args) else none := by
  simp only [mixEntries, entriesAt, List.mapM_map]
  congr 2
  funext i
  unfold mixEntryAt
  simp only [← show 1 + 3 * i + 1 = 2 + 3 * i by omega, ← show 1 + 3 * i + 2 = 3 + 3 * i by omega]
  exact Function.comp_apply

theorem routingOfCode_isSome {b : Nat} : (routingOfCode b).isSome = true ↔ b ≤ 3 := by
  rcases b with _ | _ | _ | _ | b
  iterate 4 simp [routingOfCode]
  simp only [routingOfCode, Option.isSome_none, Bool.false_eq_true, false_iff]
  omega

theorem mixEntryAt_eq_some {args : List Byte} {i : Nat} {e : MixEntry} : mixEntryAt args i = some e ↔
    field args (1 + 3 * i) 1 ≤ 15 ∧ e.lane = field args (1 + 3 * i) 1
      ∧ some e.routing = routingOfCode (field args (2 + 3 * i) 1) ∧ e.gain = BitVec.ofNat 8 (field args (3 + 3 * i) 1) := by
  unfold mixEntryAt
  cases routingOfCode (field args (2 + 3 * i) 1) with
  | none => simp
  | some code =>
    dsimp only
    constructor
    · intro h
      split at h
      · next hlane =>
        cases h
        exact ⟨hlane, rfl, rfl, rfl⟩
      · cases h
    · rintro ⟨hlane, hl, hr, hg⟩
      rw [if_pos hlane]
      obtain ⟨lane, routing, gain⟩ := e
      simp_all

theorem mixEntryAt_eq_none {args : List Byte} {i : Nat} :
    mixEntryAt args i = none ↔ 15 < field args (1 + 3 * i) 1 ∨ 3 < field args (2 + 3 * i) 1 := by
  have hcode := routingOfCode_isSome (b := field args (2 + 3 * i) 1)
  unfold mixEntryAt
  cases hr : routingOfCode (field args (2 + 3 * i) 1) with
  | none =>
    rw [hr] at hcode
    simp only [Option.isSome_none, Bool.false_eq_true, false_iff, Nat.not_le] at hcode
    simp [hcode]
  | some code =>
    rw [hr] at hcode
    simp only [Option.isSome_some, true_iff] at hcode
    dsimp only
    split
    · simp only [reduceCtorEq, false_iff]
      omega
    · simp only [true_iff]
      omega

/-- Reading a list of values fails exactly when one of them fails, and else gives them in order. -/
theorem mapM_option_eq_some {α β : Type} {g : α → Option β} {l : List α} {r : List β} :
    l.mapM g = some r ↔ l.map g = r.map some := by
  induction l generalizing r with
  | nil => cases r <;> simp
  | cons x l ih =>
    rw [List.mapM_cons]
    cases hx : g x with
    | none => cases r <;> simp [hx]
    | some y =>
      cases hl : l.mapM g with
      | none =>
        cases r with
        | nil => simp [hx]
        | cons z r =>
          have : l.map g ≠ r.map some := fun h => by simp [ih.2 h] at hl
          simp [hx, this]
      | some m =>
        have := ih.1 hl
        cases r with
        | nil => simp [hx]
        | cons z r => simp [hx, this, List.map_inj_right fun a b => Option.some.inj]

theorem mapM_option_eq_none {α β : Type} {g : α → Option β} {l : List α} : l.mapM g = none ↔ ∃ x ∈ l, g x = none := by
  induction l with
  | nil => simp
  | cons x l ih =>
    rw [List.mapM_cons]
    cases hx : g x with
    | none => simp [hx]
    | some y =>
      cases hl : l.mapM g with
      | none => simpa [hx, hl] using ih
      | some m => simpa [hx, hl] using ih

theorem Intake.foldl_mixEntry_frame (l : List MixEntry) (i : Intake) :
    l.foldl Intake.mixEntry i = { i with routing := (l.foldl Intake.mixEntry i).routing, gain := (l.foldl Intake.mixEntry i).gain } := by
  induction l generalizing i with
  | nil => rfl
  | cons e l ih =>
    rw [List.foldl_cons, ih]
    rfl

/-- A lane that no entry names keeps its routing and gain. -/
theorem Intake.foldl_mixEntry_other (l : List MixEntry) (i : Intake) (t : Fin 16) (h : ∀ e ∈ l, e.lane ≠ t.val) :
    (l.foldl Intake.mixEntry i).routing[t] = i.routing[t] ∧ (l.foldl Intake.mixEntry i).gain[t] = i.gain[t] := by
  induction l generalizing i with
  | nil => exact ⟨rfl, rfl⟩
  | cons e l ih =>
    obtain ⟨hr, hg⟩ := ih (i.mixEntry e) fun x hx => h x (List.mem_cons_of_mem e hx)
    have hne : t.val ≠ e.lane := (h e List.mem_cons_self).symm
    rw [List.foldl_cons, hr, hg]
    simp [mixEntry, hne]

/-- A lane ends with the last entry that names it. -/
theorem Intake.foldl_mixEntry_last (before after : List MixEntry) (e : MixEntry) (i : Intake) (t : Fin 16) (he : e.lane = t.val)
    (hafter : ∀ x ∈ after, x.lane ≠ t.val) :
    ((before ++ e :: after).foldl Intake.mixEntry i).routing[t] = e.routing
      ∧ ((before ++ e :: after).foldl Intake.mixEntry i).gain[t] = e.gain := by
  rw [List.foldl_append, List.foldl_cons]
  obtain ⟨hr, hg⟩ := foldl_mixEntry_other after ((before.foldl Intake.mixEntry i).mixEntry e) t hafter
  rw [hr, hg]
  simp [mixEntry, he]

theorem Intake.mixPayload_eq (s : State) : s.mixReply = s.intake.mixPayload := by
  unfold State.mixReply mixPayload
  congr 1

theorem RequestKind.handler_mix {u : State} (hmounting : u.media.state ≠ .mounting) (q : Request) :
    RequestKind.mix.handler q u = match mixEntries q.args with
      | none => u.refuse q .badArgument
      | some l => (u.applyMix l).answer q .done .none (u.applyMix l).mixReply := by
  unfold handler State.mix
  exact State.gated_of_admitted (MediaState.barsAny_eq_none hmounting) q _ u

/-- Settles O48. -/
theorem armAndMixAreApplied : Obligations.ArmAndMixAreApplied := by
  refine ⟨fun w s f q m hq hlength hm hmounting hengine => ?_, fun w s f q n hq hform hn hmounting => ⟨fun hbad => ?_,
    fun hlow hhigh hgood => ?_⟩⟩
  · have hexec : exec (.arm w) s = .next ((s.noteConflict f).applyArm q m) := by
      rw [← RequestKind.command, exec_command_of_formOk hq (by simp [formOk, hlength]), RequestKind.handler_arm (by simpa using hmounting), hm]
    have hopen : (s.noteConflict f).openNow = s.engine.openTake := by
      rw [State.openNow_eq (by simpa using hengine)]
      simp
    refine ⟨fun hzero => ?_, fun hne hnone => ?_, fun hne hsome => ?_⟩
    · rw [hexec, State.applyArm, if_pos hzero, State.noteConflict_refuse]
    · rw [hexec, State.applyArm, if_neg hne, hopen, hnone]
      simp only [State.setArm, hopen, hnone, Option.isSome_none, Bool.false_eq_true, if_false]
      rw [State.noteConflict_withLink]
      rfl
    · obtain ⟨k, hk⟩ := Option.ne_none_iff_exists'.1 hsome
      rw [hexec, State.applyArm, if_neg hne, hopen, hk]
      simp only [State.setArm, hopen, hk, Option.isSome_some, if_true]
      rw [State.noteConflict_withLink]
      rfl
  · have hnone : mixEntries q.args = none := by
      rw [mixEntries_eq, ← hn]
      split
      · next hrange =>
        rw [mapM_option_eq_none]
        obtain ⟨i, hi, hbad⟩ := (hbad.resolve_left (by omega)).resolve_left (by omega)
        exact ⟨i, List.mem_range.2 hi, mixEntryAt_eq_none.2 hbad⟩
      · rfl
    rw [← RequestKind.command, exec_command_of_formOk hq hform, RequestKind.handler_mix (by simpa using hmounting), hnone]
    exact congrArg Host.Outcome.next (State.noteConflict_refuse ..)
  · obtain ⟨l, hl⟩ : ∃ l, mixEntries q.args = some l := by
      rw [mixEntries_eq, ← hn, if_pos ⟨hlow, hhigh⟩, ← Option.ne_none_iff_exists', ne_eq, mapM_option_eq_none]
      rintro ⟨i, hi, hnone⟩
      have := hgood i (List.mem_range.1 hi)
      rcases mixEntryAt_eq_none.1 hnone with h | h <;> omega
    have hentries := hl
    rw [mixEntries_eq, ← hn, if_pos ⟨hlow, hhigh⟩, mapM_option_eq_some] at hentries
    have hlen : l.length = n := by simpa using (congrArg List.length hentries).symm
    have hat : ∀ i e, l[i]? = some e ↔ i < n ∧ mixEntryAt q.args i = some e := by
      intro i e
      have := congrArg (·[i]?) hentries
      simp only [List.getElem?_map] at this
      by_cases hi : i < n
      · rw [List.getElem?_range hi, Option.map_some] at this
        cases hli : l[i]? with
        | none =>
          simp only [List.getElem?_eq_none_iff, hlen] at hli
          omega
        | some x =>
          rw [hli] at this
          simp only [Option.map_some, Option.some.injEq] at this
          simp [hi, this]
      · simp [hi, List.getElem?_eq_none (by omega : l.length ≤ i)]
    refine ⟨((s.noteConflict f).applyMix l).answer q .done .none ((s.noteConflict f).applyMix l).mixReply, ?_, ?_, ?_, ?_, ?_, ?_⟩
    · rw [← RequestKind.command, exec_command_of_formOk hq hform, RequestKind.handler_mix (by simpa using hmounting), hl]
    · intro lane i hi hlane hlast
      have hsome : l[i]? = some l[i] := List.getElem?_eq_getElem (by omega)
      obtain ⟨-, hel, her, heg⟩ := mixEntryAt_eq_some.1 ((hat i _).1 hsome).2
      have hsplit : l = l.take i ++ l[i] :: l.drop (i + 1) := by simp
      have hafter : ∀ x ∈ l.drop (i + 1), x.lane ≠ lane.val := by
        intro x hx
        obtain ⟨j, hj⟩ := List.getElem?_of_mem hx
        rw [List.getElem?_drop] at hj
        obtain ⟨hjn, hxj⟩ := (hat _ x).1 hj
        obtain ⟨-, hxl, -⟩ := mixEntryAt_eq_some.1 hxj
        rw [hxl]
        exact hlast _ (by omega) hjn
      obtain ⟨hr, hg⟩ := Intake.foldl_mixEntry_last (l.take i) (l.drop (i + 1)) l[i] (s.noteConflict f).intake lane (hel.trans hlane) hafter
      rw [← hsplit] at hr hg
      exact ⟨(congrArg some hr).trans her, hg.trans heg⟩
    · intro lane hnone
      have hother : ∀ e ∈ l, e.lane ≠ lane.val := by
        intro e he
        obtain ⟨j, hj⟩ := List.getElem?_of_mem he
        obtain ⟨hjn, hej⟩ := (hat j e).1 hj
        obtain ⟨-, hel, -⟩ := mixEntryAt_eq_some.1 hej
        exact hel ▸ hnone j hjn
      have hkept := Intake.foldl_mixEntry_other l (s.noteConflict f).intake lane hother
      rw [show (s.noteConflict f).intake = s.intake by simp] at hkept
      simpa [State.applyMix] using hkept
    · have hframe := Intake.foldl_mixEntry_frame l (s.noteConflict f).intake
      rw [show (s.noteConflict f).intake = s.intake by simp] at hframe
      simpa [State.applyMix] using hframe
    · rw [Intake.mixPayload_eq]
      rfl
    · rw [State.noteConflict_withLink]
      rfl

/-! ### ABORT (R156, R191) and requests of no kind (R174) -/

theorem RequestKind.handler_abort {u : State} (hmounting : u.media.state ≠ .mounting) (q : Request) :
    RequestKind.abort.handler q u = u.applyAbort q :=
  State.gated_of_admitted (MediaState.barsAny_eq_none hmounting) ..

theorem requestKindOfCode_eq_none {b : Byte} (h : b = 0 ∨ 10 < b.toNat) : requestKindOfCode b = none := by
  rw [requestKindOfCode, List.find?_eq_none]
  intro k _ hk
  have hcode : k.code = b := by simpa using hk
  subst hcode
  cases k <;> revert h <;> decide

theorem decodeRequest_of_short {sender : Nat} {bs : List Byte} (h : bs.length < 3) : decodeRequest sender bs = none := by
  match bs, h with
  | [], _ => rfl
  | [_], _ => rfl
  | [_, _], _ => rfl

theorem exec_unknownRequest (h : s.takenFrame .request w = some f) : exec (.unknownRequest w) s = .next (s.takeUnknown f) := by
  show Host.Outcome.next _ = _
  rw [h]

/-- Settles O51. -/
theorem abortEndsAVerifyOnly : Obligations.AbortEndsAVerifyOnly := by
  rintro w s f q l rfl
  refine ⟨fun hq hargs hmounting => ?_, fun htaken hshort => ?_, fun htaken hdecode hcode => ?_⟩
  · have hexec : exec (.abort w) s = .next ((s.noteConflict f).applyAbort q) := by
      rw [← RequestKind.command, exec_command_of_formOk hq (by simp [formOk, hargs]), RequestKind.handler_abort (by simpa using hmounting)]
    have hslot : (s.noteConflict f).verify.slot = s.verify.slot := by simp
    refine ⟨fun hidle => ?_, fun who n hverifying => ?_, fun hblocks => ?_⟩
    · simp only [hexec, State.applyAbort, hslot, hidle, State.noteConflict_answer]
      rfl
    · simp only [hexec, State.applyAbort, hslot, hverifying]
      rw [State.noteConflict_withLink]
      rfl
    · rw [hexec, State.applyAbort, hslot]
      cases h : s.verify.slot with
      | preparing | releasing => simp only [State.noteConflict_answer, State.noteConflict_busyReply]
      | idle | verifying => simp [h, LongOp.blocksJournal] at hblocks
  · rw [exec_unknownRequest htaken, State.takeUnknown, decodeRequest_of_short hshort]
    exact congrArg Host.Outcome.next (s.noteConflict_withLink f)
  · simp only [exec_unknownRequest htaken, State.takeUnknown, hdecode, requestKindOfCode_eq_none hcode, State.noteConflict_refuse]

end Sys2Proof.Machine

/-! QUERY STATUS, QUERY METERS and QUERY TAKE. -/

namespace Sys2Proof.Machine

/-! ### Quantities of a reply -/

theorem optionalBytes_eq (n : Nat) (o : Option (List Byte)) : optionalBytes n o = optionally n o := by
  cases o <;> rfl

theorem RecordState.le_number (st : RecordState) : [st.code] = le 1 st.number := by
  cases st <;> rfl

theorem State.statusFlags_eq (s : State) : s.statusFlags = BitVec.ofNat 8 ((if s.timecode.jammed then 1 else 0)
    + (if s.link.linkTrouble then 2 else 0) + (if s.link.conflict then 4 else 0) + (if s.media.overflowed then 8 else 0)) := rfl

theorem foldl_min_le (ws : List Nat) (w : Nat) : ws.foldl min w ≤ w ∧ ∀ x ∈ ws, ws.foldl min w ≤ x := by
  induction ws generalizing w with
  | nil => simp
  | cons y ws ih =>
    obtain ⟨hle, hall⟩ := ih (min w y)
    refine ⟨hle.trans (min_le_left w y), fun x hx => ?_⟩
    rcases List.mem_cons.1 hx with rfl | hx
    · exact hle.trans (min_le_right w x)
    · exact hall x hx

theorem foldl_min_mem (ws : List Nat) (w : Nat) : ws.foldl min w ∈ w :: ws := by
  induction ws generalizing w with
  | nil => simp
  | cons y ws ih =>
    rw [List.foldl_cons]
    rcases List.mem_cons.1 (ih (min w y)) with h | h
    · rw [h]
      rcases min_choice w y with hm | hm <;> simp [hm]
    · simp [h]

/-- The ring depth in use is the greatest distance of a needed frame (R19). -/
theorem State.ringDepth_spec (s : State) :
    (∀ e ∈ s.writer.queue, s.needsFrames e = true → s.intake.position - e.next ≤ s.ringDepth)
      ∧ (s.ringDepth = 0 ∨ ∃ e ∈ s.writer.queue, s.needsFrames e = true ∧ s.ringDepth = s.intake.position - e.next) := by
  have hmem : ∀ x, x ∈ s.neededFrames ↔ ∃ e ∈ s.writer.queue, s.needsFrames e = true ∧ e.next = x := by
    simp [neededFrames, and_assoc]
  unfold ringDepth
  cases hneeded : s.neededFrames with
  | nil =>
    refine ⟨fun e he hneeds => ?_, .inl rfl⟩
    have := (hmem e.next).2 ⟨e, he, hneeds, rfl⟩
    simp [hneeded] at this
  | cons w ws =>
    refine ⟨fun e he hneeds => ?_, .inr ?_⟩
    · have := (hmem e.next).2 ⟨e, he, hneeds, rfl⟩
      rw [hneeded] at this
      have hle := foldl_min_le ws w
      rcases List.mem_cons.1 this with h | h
      · exact Nat.sub_le_sub_left (h ▸ hle.1) _
      · exact Nat.sub_le_sub_left (hle.2 _ h) _
    · obtain ⟨e, he, hneeds, hnext⟩ := (hmem _).1 (hneeded ▸ foldl_min_mem ws w)
      exact ⟨e, he, hneeds, by rw [hnext]⟩

/-! ### QUERY STATUS (R179) -/

/-- What QUERY STATUS shows of a running verify's count. -/
def State.shownCount (s : State) (x : Nat) : List Byte := if s.verify.slot.isVerifying = true then 1 :: le 4 x else [0, 0, 0, 0, 0]

theorem State.verifyGroup_eq (s : State) : s.verifyGroup =
    le 2 (s.verify.slot.index.getD 0) ++ s.shownCount s.verify.cursor ++ s.shownCount s.verify.blockCount ++ s.shownCount s.verify.badBlocks := by
  unfold verifyGroup shownCount
  cases s.verify.slot <;> rfl

theorem State.lanesGroup_eq (s : State) : s.lanesGroup = s.intake.lanes.toList.map LaneState.code ++ le 2 s.intake.armMask.toNat
    ++ (match s.intake.nextArm with | none => [0, 0, 0] | some m => 1 :: le 2 m.toNat) := by
  unfold lanesGroup
  cases s.intake.nextArm <;> rfl

theorem State.captureGroup_eq (s : State) : s.captureGroup = le 4 s.ringDepth ++ le 2 (s.engine.openTake.getD 0)
    ++ (match s.openKey with | none => [0, 0, 0, 0] | some k => 1 :: keyBytes k) ++ le 1 s.writer.queue.length := by
  unfold captureGroup
  cases s.openKey <;> rfl

theorem State.mediaGroup_eq (s : State) : s.mediaGroup = le 4 s.freeBlocks
    ++ (match s.media.generation with | none => [0, 0, 0] | some g => 1 :: le 2 g)
    ++ (match s.media.profile with | none => List.replicate 16 0 | some p => 1 :: profileBytes p) := by
  unfold mediaGroup
  cases s.media.generation <;> cases s.media.profile <;> rfl

/-! ### QUERY TAKE (R181–R184) -/

theorem getLsbD_stationSet (l : List Nat) {k : Nat} (hk : k < 32) : (stationSet l).getLsbD k = l.any (· == k) := by
  have hfold : ∀ (l : List Nat) (m : Word32),
      (l.foldl (fun m i => m ||| (1#32 <<< i)) m).getLsbD k = (m.getLsbD k || l.any (· == k)) := by
    intro l
    induction l with
    | nil => simp
    | cons i l ih =>
      intro m
      have hbit : (1#32 <<< i).getLsbD k = (i == k) := by
        rw [Bool.eq_iff_iff]
        simp only [BitVec.getLsbD_shiftLeft, BitVec.getLsbD_one, Bool.and_eq_true, Bool.not_eq_true', decide_eq_true_eq,
          decide_eq_false_iff_not, beq_iff_eq]
        omega
      rw [List.foldl_cons, ih, List.any_cons, BitVec.getLsbD_or, hbit, Bool.or_assoc]
  rw [stationSet, hfold]
  simp

/-- The extents of the first `k` blocks: as few as hold them, or all (R85). -/
theorem length_cutExtents (k : Nat) (l : List Extent) :
    (cutExtents k l).length ≤ l.length
      ∧ ((cutExtents k l).length = l.length ∨ k ≤ ((l.take (cutExtents k l).length).map (·.count)).sum)
      ∧ ∀ j, j < (cutExtents k l).length → ((l.take j).map (·.count)).sum < k := by
  induction l generalizing k with
  | nil => cases k <;> simp [cutExtents]
  | cons e l ih =>
    cases k with
    | zero => simp [cutExtents]
    | succ k =>
      rw [cutExtents]
      split
      · next hcount =>
        obtain ⟨hle, hsum, hbefore⟩ := ih (k + 1 - e.count)
        simp only [List.length_cons, List.take_succ_cons, List.map_cons, List.sum_cons]
        refine ⟨by omega, hsum.imp (by omega) (by omega), fun j hj => ?_⟩
        cases j with
        | zero => simp
        | succ j =>
          have := hbefore j (by omega)
          simp only [List.take_succ_cons, List.map_cons, List.sum_cons]
          omega
      · next hcount =>
        refine ⟨by simp, .inr (by simp; omega), fun j hj => ?_⟩
        obtain rfl : j = 0 := by simpa using hj
        simp

theorem State.prefixBytes_eq (s : State) (n : Nat) : s.prefixBytes n = s.durableBytes n := by
  unfold prefixBytes durableBytes
  cases s.entryOf n <;> rfl

theorem State.durableEntries (s : State) (r : Record) :
    s.DurableEntries r (durableExtents r (s.durableBytes r.index)).length := by
  unfold DurableEntries
  rw [prefixBytes_eq]
  cases s.durableBytes r.index with
  | none => rfl
  | some bytes => exact length_cutExtents _ _

theorem Slate.replyBytes_eq (sl : Slate) : sl.replyBytes = sl.fieldsReply := by
  unfold replyBytes fieldsReply
  cases sl.disposition <;> simp only [Disposition.code, stringBytes, stampBytes, boolByte, List.append_assoc]

theorem Record.headBytes_eq (r : Record) : r.headBytes = le 2 r.index ++ le 1 r.state.number := by
  rw [Record.headBytes, RecordState.le_number]

theorem State.isOpen_iff (s : State) (r : Record) : s.isOpen r = true ↔ s.engine.openTake = some r.index := by
  simp [isOpen]

/-- Section SUMMARY, byte by byte (R182). -/
theorem State.summaryReply_eq (s : State) (r : Record) : s.summaryReply r =
    le 2 r.index ++ le 1 r.state.number ++ le 2 r.generation ++ (le 1 r.key.origin ++ le 2 r.key.roll.toNat)
      ++ le 2 (r.continues.getD 0) ++ le 4 r.flags.toNat ++ le 6 r.start ++ labelBytes r.startLabel
      ++ optionally 6 (r.stop.map (le 6)) ++ le 6 r.recorded ++ le 6 r.lost ++ le 6 r.durable ++ le 2 r.armed.toNat
      ++ [if r.mixPresent then (1 : Byte) else 0] ++ le 4 r.rate.hz ++ le 1 r.frameBytes
      ++ optionally 4 (r.digest.map fun d => le 4 d.toNat) ++ r.peaks.flatMap (le 3) ++ le 2 r.clipCount
      ++ (le 1 r.joined.length ++ r.joined.flatMap fun k => le 1 k.origin ++ le 2 k.roll.toNat)
      ++ optionally 4 (if s.engine.openTake = some r.index then
          some (le 4 (stationSet (s.engine.holders.map (·.origin))).toNat ++ s.engine.holders.flatMap fun h => le 2 h.roll.toNat) else none)
      ++ optionally 6 (if s.engine.openTake = some r.index then s.engine.pendingStop.map (le 6) else none) := by
  have hkey : keyBytes = fun k => le 1 k.origin ++ le 2 k.roll.toNat := rfl
  unfold summaryReply
  by_cases hopen : s.engine.openTake = some r.index
  · simp only [if_pos ((s.isOpen_iff r).2 hopen), if_pos hopen, Record.headBytes_eq, optionalBytes_eq, indexBytes, laneSetBytes, boolByte, listBytes, hkey,
      holderBytes]
  · simp only [if_neg (mt (s.isOpen_iff r).1 hopen), if_neg hopen, Record.headBytes_eq, optionalBytes_eq, indexBytes, laneSetBytes, boolByte, listBytes, hkey]

/-- The section of a record is what R182 to R184 list, byte by byte. -/
theorem State.takeReply_sectionReply (s : State) (r : Record) (code entry : Nat) (hcode : code ≤ 4) :
    s.TakeReply r code entry (s.sectionReply r code entry) := by
  refine ⟨?_, ?_, ?_, ?_, ?_⟩
  · rintro rfl
    refine ⟨stationSet (s.engine.holders.map (·.origin)), fun i hi => ?_, ?_⟩
    · rw [getLsbD_stationSet _ hi, List.any_map]
      rfl
    · exact s.summaryReply_eq r
  · rintro rfl
    rw [sectionReply, Record.slateReply, Record.headBytes_eq, Slate.replyBytes_eq]
  · rintro rfl
    rw [sectionReply, Record.markersReply, Record.headBytes_eq]
    rfl
  · rintro rfl
    rw [sectionReply, Record.notesReply, Record.headBytes_eq]
    have hnotes : noteBytes = fun x => match x with
        | .gap f n => [(0 : Byte), 0] ++ le 4 f ++ le 4 n
        | .dropout lane f n => [(1 : Byte)] ++ le 1 lane ++ le 4 f ++ le 4 n := by
      funext x
      cases x <;> rfl
    rw [listBytes, hnotes]
    rfl
  · rintro rfl
    refine ⟨_, _, s.durableEntries r, rfl, ?_⟩
    have hresume : extentResume entry r.extents.length = if entry + 23 < r.extents.length then entry + 24 else 0 := rfl
    rw [sectionReply, extentsReply, Record.headBytes_eq, hresume]
    · rfl
    all_goals simp

theorem RequestKind.handler_queryTake (q : Request) (u : State) : RequestKind.queryTake.handler q u =
    u.gated (if field q.args 0 2 = 0 ∧ field q.args 2 1 = 1 then u.media.state.barsAny else u.media.state.barsMirror) q
      (State.answerTake q (field q.args 0 2) (field q.args 2 1) (field q.args 3 1)) := rfl

theorem MediaState.barsMirror_eq_none {m : MediaState}
    (h : m = .ready ∨ m = .writeProtected ∨ m = .full ∨ m = .faulted ∨ m = .released) : m.barsMirror = none := by
  rcases h with rfl | rfl | rfl | rfl | rfl <;> rfl

theorem MediaState.barsMirror_eq_some {m : MediaState} {d : Detail}
    (h : (m = .absent ∨ m = .mounting) ∧ d = .noMedia ∨ m = .unprepared ∧ d = .notPrepared) : m.barsMirror = some d := by
  rcases h with ⟨rfl | rfl, rfl⟩ | ⟨rfl, rfl⟩ <;> rfl

/-- A record lookup does not see the link controller. -/
theorem State.noteConflict_recordAt (s : State) (f : Frame) (n : Nat) : (s.noteConflict f).recordAt n = s.recordAt n := by
  rw [noteConflict_withLink]
  rfl

/-- Settles O46. -/
theorem queriesReportTheStateAsItStands : Obligations.QueriesReportTheStateAsItStands := by
  refine ⟨fun w s f q => ⟨fun hq hargs => ?_, fun hq hargs hmounting => ?_⟩,
    fun w s f q n section_ entry answer hq hargs hn hsection hentry hanswer => ?_⟩
  · refine ⟨(s.noteConflict f).statusReply, s.ringDepth, s.freeBlocks, s.shownCount, ?_, s.ringDepth_spec, rfl, fun x => rfl, ?_⟩
    · rw [← RequestKind.command, exec_command_of_formOk hq (by simp [formOk, hargs])]
      exact congrArg Host.Outcome.next (State.noteConflict_answer ..)
    · rw [State.statusReply, State.lanesGroup_eq, State.captureGroup_eq, State.mediaGroup_eq, State.verifyGroup_eq, State.statusFlags_eq,
        State.noteConflict_eq]
      rfl
  · rw [← RequestKind.command, exec_command_of_formOk hq (by simp [formOk, hargs])]
    rw [RequestKind.handler, State.queryMeters, State.gated_of_admitted (MediaState.barsAny_eq_none (by simpa using hmounting)),
      State.noteConflict_answer]
    simp [State.metersReply]
  · have hexec : exec (.queryTake w) s = .next ((s.noteConflict f).gated
        (if n = 0 ∧ section_ = 1 then s.media.state.barsAny else s.media.state.barsMirror) q (State.answerTake q n section_ entry)) := by
      rw [← RequestKind.command, exec_command_of_formOk hq (by simp [formOk, hargs]), RequestKind.handler_queryTake]
      simp [hn, hsection, hentry]
    refine ⟨fun hzero hslate hmounting => ?_, fun d hother hbar => ?_, fun hscanned => ⟨fun hbad => ?_, fun hlow hhigh hcode hpage =>
      ⟨fun hnext => ?_, fun hnext hnone => ?_, fun r hnext hr => ?_⟩⟩⟩
    · have hfine : ¬ (4 < section_ ∨ journalSlots < n ∨ (n = 0 ∧ section_ ≠ 1) ∨ (section_ = 4 ∧ (entry = 0 ∨ maxExtents < entry))) := by
        subst hzero hslate
        simp [journalSlots]
      rw [hexec, if_pos ⟨hzero, hslate⟩, State.gated_of_admitted (MediaState.barsAny_eq_none hmounting), State.answerTake, if_neg hfine,
        if_pos hzero, State.noteConflict_answer, ← hanswer]
      simp only [State.noteConflict_frame, Slate.replyBytes_eq]
    · rw [hexec, if_neg hother, MediaState.barsMirror_eq_some hbar, hanswer]
      exact congrArg Host.Outcome.next (State.noteConflict_refuse ..)
    · have hgated : (if n = 0 ∧ section_ = 1 then s.media.state.barsAny else s.media.state.barsMirror) = none := by
        split
        · exact MediaState.barsAny_eq_none (by rcases hscanned with h | h | h | h | h <;> simp [h])
        · exact MediaState.barsMirror_eq_none hscanned
      rw [hexec, State.gated_of_admitted hgated, State.answerTake, if_pos (by simpa [journalSlots, maxExtents] using hbad), hanswer]
      exact congrArg Host.Outcome.next (State.noteConflict_refuse ..)
    all_goals
      have hfine : ¬ (4 < section_ ∨ journalSlots < n ∨ (n = 0 ∧ section_ ≠ 1) ∨ (section_ = 4 ∧ (entry = 0 ∨ maxExtents < entry))) := by
        have hslots : journalSlots = 4096 := rfl
        have hextents : maxExtents = 64 := rfl
        omega
      have hpast : exec (.queryTake w) s = .next ((s.noteConflict f).answerTake q n section_ entry) := by
        rw [hexec, if_neg (by omega), State.gated_of_admitted (MediaState.barsMirror_eq_none hscanned)]
      rw [State.answerTake, if_neg hfine, if_neg (by omega)] at hpast
    · rw [hpast, if_pos (by simpa using hnext), hanswer]
      exact congrArg Host.Outcome.next (State.noteConflict_refuse ..)
    · rw [hpast, if_neg (by simpa using hnext), hanswer, State.noteConflict_recordAt, hnone]
      exact congrArg Host.Outcome.next (State.noteConflict_answer ..)
    · refine ⟨s.sectionReply r section_ entry, ?_, s.takeReply_sectionReply r section_ entry hcode⟩
      rw [hpast, if_neg (by simpa using hnext), hanswer, State.noteConflict_recordAt, hr]
      refine congrArg Host.Outcome.next ((State.noteConflict_answer ..).trans ?_)
      rw [State.noteConflict_withLink]
      rfl

end Sys2Proof.Machine

/-! SEARCH JOURNAL (R185–R187): the ranges of its arguments, what matches, and the indices found. -/

namespace Sys2Proof.Machine

/-! ### Comparing sequences (R186) -/

theorem compareStrings_spec (a b : List Nat) : (compareStrings a b = .eq ↔ a = b) ∧ (compareStrings a b = .lt ↔ a < b)
    ∧ (compareStrings a b = .gt ↔ b < a) := by
  induction a generalizing b with
  | nil => cases b <;> simp [compareStrings]
  | cons x a ih =>
    cases b with
    | nil => simp [compareStrings]
    | cons y b =>
      obtain ⟨heq, hlt, hgt⟩ := ih b
      simp only [compareStrings, List.cons_lt_cons_iff, List.cons.injEq]
      rcases Nat.lt_trichotomy x y with h | h | h
      · simp [h, h.ne, h.ne', Nat.not_lt.2 h.le]
      · subst h
        simp [heq, hlt, hgt]
      · simp [h, h.ne, h.ne', Nat.not_lt.2 h.le]

/-- The relation by its code, of a value and what is sought (R186). -/
def StandsIn (relation : Nat) (value sought : List Nat) : Prop :=
  match relation with
  | 0 => value = sought
  | 1 => value ≠ sought
  | 2 => ¬ sought < value
  | _ => ¬ value < sought

theorem Relation.holds_compareStrings {relation : Nat} {rel : Relation} (h : relationOfCode relation = some rel) (value sought : List Nat) :
    rel.holds (compareStrings value sought) = true ↔ StandsIn relation value sought := by
  obtain ⟨heq, hlt, hgt⟩ := compareStrings_spec value sought
  have hcode : relation = 0 ∧ rel = .equal ∨ relation = 1 ∧ rel = .notEqual ∨ relation = 2 ∧ rel = .atMost
      ∨ relation = 3 ∧ rel = .atLeast := by
    unfold relationOfCode at h
    split at h <;> simp_all
  rcases hcode with ⟨rfl, rfl⟩ | ⟨rfl, rfl⟩ | ⟨rfl, rfl⟩ | ⟨rfl, rfl⟩
  · simp [Relation.holds, StandsIn, heq]
  · simp [Relation.holds, StandsIn, heq]
  · simp [Relation.holds, StandsIn, ← hgt]
  · simp [Relation.holds, StandsIn, ← hlt]

/-! ### The ranges of the arguments (R185) -/

theorem relationOfCode_isSome (relation : Nat) : (relationOfCode relation).isSome = true ↔ relation ≤ 3 := by
  rcases relation with _ | _ | _ | _ | k
  iterate 4 simp [relationOfCode]
  simp only [relationOfCode, Option.isSome_none, Bool.false_eq_true, false_iff]
  omega

/-- What a key of a field is out of range by (R185). -/
def KeyOutOfRange (fieldCode : Nat) (key : List Byte) : Prop :=
  5 < fieldCode ∨ (fieldCode = 0 ∧ 8 < key.length) ∨ (fieldCode = 1 ∧ 999 < fromLe key)
    ∨ (fieldCode = 2 ∧ (23 < field key 0 1 ∨ 59 < field key 1 1 ∨ 59 < field key 2 1 ∨ 29 < field key 3 1))
    ∨ (fieldCode = 3 ∧ 1 < fromLe key) ∨ (fieldCode = 4 ∧ (fromLe key = 0 ∨ 6 < fromLe key)) ∨ (fieldCode = 5 ∧ 31 < fromLe key)

theorem searchOutOfRange_iff (fieldCode relation start count : Nat) (key : List Byte) :
    SearchOutOfRange fieldCode relation start count key ↔
      KeyOutOfRange fieldCode key ∨ 3 < relation ∨ (fieldCode = 4 ∧ 1 < relation) ∨ start = 0 ∨ 4096 < start ∨ 16 < count := by
  unfold SearchOutOfRange KeyOutOfRange
  omega

theorem searchStateOfCode_spec (b : Nat) : (searchStateOfCode b = none ↔ b = 0 ∨ 6 < b)
    ∧ ∀ st, searchStateOfCode b = some st → st.number = b := by
  rcases b with _ | _ | _ | _ | _ | _ | _ | k
  iterate 7 simp [searchStateOfCode, cardStateOfCode, RecordState.number]
  have hne : k + 1 + 1 + 1 + 1 + 1 + 1 + 1 ≠ 6 := by omega
  simp only [searchStateOfCode, if_neg hne, cardStateOfCode, reduceCtorEq, false_implies, implies_true, and_true, true_iff]
  omega

theorem RecordState.number_inj {a b : RecordState} : a.number = b.number ↔ a = b := by
  cases a <;> cases b <;> simp [RecordState.number]

/-- A field of one byte is that byte. -/
theorem field_cons_zero (b : Byte) (bs : List Byte) : field (b :: bs) 0 1 = b.toNat := by
  simp [field, slice, fromLe]

theorem field_cons_succ (b : Byte) (bs : List Byte) (off n : Nat) : field (b :: bs) (off + 1) n = field bs off n := rfl

/-- A key of the length that its field has, in range, is the value of R186; the relation of a state is EQUAL or NOT EQUAL. -/
theorem searchKey_spec {fieldCode : Nat} {key : List Byte} (hlength : ∀ n, searchKeyLength fieldCode = some n → key.length = n) :
    (searchKey fieldCode key = none ↔ KeyOutOfRange fieldCode key)
      ∧ ∀ k, searchKey fieldCode key = some k → (fieldCode = 4 ↔ ∃ st, k = .state st)
        ∧ ∀ r : Record, (∀ rel : Relation, relationFits rel k = true →
          (rel.holds (k.against r) = rel.holds (compareStrings (r.searchValue fieldCode)
            (if fieldCode = 0 ∨ fieldCode = 2 then key.map (·.toNat) else [fromLe key])))) := by
  rcases fieldCode with _ | _ | _ | _ | _ | _ | m
  · simp only [searchKey, KeyOutOfRange]
    refine ⟨?_, fun k hk => ?_⟩
    · split <;> simp <;> omega
    · split at hk
      · cases hk
        exact ⟨by simp, fun r rel _ => rfl⟩
      · cases hk
  · simp only [searchKey, KeyOutOfRange]
    refine ⟨?_, fun k hk => ?_⟩
    · split <;> simp <;> omega
    · split at hk
      · cases hk
        exact ⟨by simp, fun r rel _ => rfl⟩
      · cases hk
  · obtain ⟨a, b, c, d, rfl⟩ : ∃ a b c d, key = [a, b, c, d] := by
      match key, hlength 4 rfl with
      | [a, b, c, d], _ => exact ⟨a, b, c, d, rfl⟩
    simp only [searchKey, KeyOutOfRange]
    refine ⟨?_, fun k hk => ?_⟩
    · rw [ite_eq_right_iff]
      simp only [reduceCtorEq, imp_false, labelAtOffset, Nat.zero_add]
      simp
      omega
    · obtain ⟨-, hk⟩ := Option.ite_none_right_eq_some.1 hk
      cases hk
      refine ⟨by simp, fun r rel _ => ?_⟩
      simp only [SearchKey.against, Record.searchValue, Label.parts, labelAtOffset, field_cons_succ, field_cons_zero]
      rfl
  · simp only [searchKey, KeyOutOfRange]
    refine ⟨?_, fun k hk => ?_⟩
    · split
      · simp
        omega
      · split <;> simp <;> omega
    · have hk' : ∃ c : Bool, k = .circled c ∧ fromLe key = c.toNat := by
        split at hk
        · cases hk
          exact ⟨false, rfl, ‹_›⟩
        · split at hk
          · cases hk
            exact ⟨true, rfl, ‹_›⟩
          · cases hk
      obtain ⟨c, rfl, hc⟩ := hk'
      refine ⟨by simp, fun r rel _ => ?_⟩
      have hvalue : (if r.slate.circled then 1 else 0) = r.slate.circled.toNat := by cases r.slate.circled <;> rfl
      simp [SearchKey.against, Record.searchValue, hc, hvalue]
  · obtain ⟨hnone, hsome⟩ := searchStateOfCode_spec (fromLe key)
    simp only [searchKey, KeyOutOfRange]
    refine ⟨by simp [hnone], fun k hk => ?_⟩
    obtain ⟨st, hst, rfl⟩ := Option.map_eq_some_iff.1 hk
    refine ⟨by simp, fun r rel hfits => ?_⟩
    have hvalue : compareStrings (r.searchValue 4) [fromLe key] = .eq ↔ r.state = st := by
      rw [(compareStrings_spec _ _).1, ← hsome st hst, ← RecordState.number_inj]
      simp [Record.searchValue]
    simp only [relationFits, Bool.or_eq_true, decide_eq_true_eq] at hfits
    simp only [SearchKey.against]
    by_cases h : r.state = st
    · simp [h, hvalue.2 h]
    · have hother : ∀ o : Ordering, o ≠ .eq → (o == .eq) = false ∧ (o != .eq) = true := by decide
      have hne := hother _ (mt hvalue.1 h)
      have hlt := hother .lt (by decide)
      rcases hfits with rfl | rfl
      · simp [Relation.holds, h, hne]
      · simp [Relation.holds, h, hne, hlt]
  · simp only [searchKey, KeyOutOfRange]
    refine ⟨?_, fun k hk => ?_⟩
    · split <;> simp <;> omega
    · split at hk
      · cases hk
        exact ⟨by simp, fun r rel _ => rfl⟩
      · cases hk
  · simp only [searchKey, KeyOutOfRange]
    exact ⟨by simp, fun k hk => by cases hk⟩

theorem relationFits_iff (rel : Relation) (k : SearchKey) : relationFits rel k = true ↔
    ∀ st, k = .state st → rel = .equal ∨ rel = .notEqual := by
  cases k <;> simp [relationFits]

theorem relationOfCode_equality {relation : Nat} {rel : Relation} (h : relationOfCode relation = some rel) :
    (rel = .equal ∨ rel = .notEqual) ↔ relation ≤ 1 := by
  unfold relationOfCode at h
  split at h <;> cases h <;> simp

/-- The key of a SEARCH JOURNAL whose form is checked has its field's length (R196). -/
theorem length_searchKey {args : List Byte} (h : formOk .searchJournal args = true) :
    ∀ n, searchKeyLength (field args 0 1) = some n → (args.drop 6).length = n := by
  intro n hn
  simp only [formOk, Bool.and_eq_true, decide_eq_true_eq, beq_iff_eq, hn] at h
  rw [List.length_drop]
  omega

section Arguments

variable {args : List Byte}

/-- The arguments of a SEARCH JOURNAL are refused exactly when one is out of range (R185). -/
theorem searchArgs_eq_none_iff (hform : formOk .searchJournal args = true) : searchArgs args = none ↔
    SearchOutOfRange (field args 0 1) (field args 1 1) (field args 2 2) (field args 4 1) (args.drop 6) := by
  obtain ⟨hnone, hsome⟩ := searchKey_spec (length_searchKey hform)
  have hrelation := relationOfCode_isSome (field args 1 1)
  rw [searchOutOfRange_iff, ← hnone]
  unfold searchArgs
  cases hrel : relationOfCode (field args 1 1) with
  | none =>
    rw [hrel] at hrelation
    simp only [Option.isSome_none, Bool.false_eq_true, false_iff] at hrelation
    simp only [true_iff]
    omega
  | some rel =>
    rw [hrel] at hrelation
    simp only [Option.isSome_some, true_iff] at hrelation
    cases hkey : searchKey (field args 0 1) (args.drop 6) with
    | none => simp
    | some k =>
      obtain ⟨hstate, -⟩ := hsome k hkey
      have hfits : relationFits rel k = true ↔ ¬ (field args 0 1 = 4 ∧ 1 < field args 1 1) := by
        rw [relationFits_iff]
        have hequal := relationOfCode_equality hrel
        constructor
        · rintro h ⟨hfour, hone⟩
          obtain ⟨st, hst⟩ := hstate.1 hfour
          have := hequal.1 (h st hst)
          omega
        · intro h st hst
          exact hequal.2 (by have := hstate.2 ⟨st, hst⟩; omega)
      have hslots : journalSlots = 4096 := rfl
      dsimp only
      rw [ite_eq_right_iff, hfits]
      simp only [reduceCtorEq, imp_false, false_or]
      omega

/-- What the arguments of a SEARCH JOURNAL ask for (R185, R186). -/
theorem searchArgs_spec (hform : formOk .searchJournal args = true) {a : Search} (h : searchArgs args = some a) :
    a.start = field args 2 2 ∧ a.count = (if field args 4 1 = 0 then 16 else field args 4 1)
      ∧ ∀ r : Record, a.relation.holds (a.key.against r) = true ↔ r.Matches (field args 0 1) (field args 1 1) (args.drop 6) := by
  obtain ⟨-, hsome⟩ := searchKey_spec (length_searchKey hform)
  unfold searchArgs at h
  split at h
  · next rel k hrel hkey =>
    dsimp only at h
    split at h
    · next hok =>
      cases h
      refine ⟨rfl, rfl, fun r => ?_⟩
      rw [(hsome k hkey).2 r rel hok.1, Relation.holds_compareStrings hrel]
      rfl
    · cases h
  · cases h

end Arguments

/-! ### The indices found (R187) -/

/-- The first `k` of a rising list leave out only what lies beyond them, and only when they are `k`. -/
theorem take_of_rising {l : List Nat} (hl : l.Pairwise (· < ·)) {k n : Nat} (hn : n ∈ l) (hout : n ∉ l.take k) :
    (l.take k).length = k ∧ ∀ x ∈ l.take k, x < n := by
  have hdrop : n ∈ l.drop k := by
    have := List.take_append_drop k l ▸ hn
    exact (List.mem_append.1 this).resolve_left hout
  refine ⟨?_, fun x hx => ?_⟩
  · have := List.length_pos_of_mem hdrop
    rw [List.length_drop] at this
    rw [List.length_take]
    omega
  · rw [← List.take_append_drop k l] at hl
    exact (List.pairwise_append.1 hl).2.2 x hx n hdrop

/-- The indices that a search goes through, and of them those that match. -/
theorem State.mem_matching (s : State) (a : Search) (n : Nat) :
    n ∈ ((List.range (s.journal.nextIndex - a.start)).map (a.start + ·)).filter (s.searchMatches a) ↔
      a.start ≤ n ∧ n < s.journal.nextIndex ∧ ∃ r, s.recordAt n = some r ∧ a.relation.holds (a.key.against r) = true := by
  have hmatches : s.searchMatches a n = true ↔ ∃ r, s.recordAt n = some r ∧ a.relation.holds (a.key.against r) = true := by
    unfold searchMatches
    cases s.recordAt n <;> simp
  rw [List.mem_filter, hmatches, ← and_assoc]
  refine and_congr_left fun _ => ?_
  simp only [List.mem_map, List.mem_range]
  constructor
  · rintro ⟨k, hk, rfl⟩
    omega
  · intro h
    exact ⟨n - a.start, by omega, by omega⟩

theorem State.matching_rising (s : State) (a : Search) :
    (((List.range (s.journal.nextIndex - a.start)).map (a.start + ·)).filter (s.searchMatches a)).Pairwise (· < ·) :=
  (List.pairwise_map.2 (List.pairwise_lt_range.imp fun h => Nat.add_lt_add_left h a.start)).filter _

/-- What a search finds, and where the next one goes on. -/
theorem State.search_spec (s : State) (a : Search) (hcount : 1 ≤ a.count) {found : List Nat} {resume : Nat}
    (hfound : found = s.searchFound a) (hresume : resume = searchResume a s.journal.nextIndex found) :
    found.Pairwise (· < ·) ∧ found.length ≤ a.count
      ∧ (∀ n ∈ found, a.start ≤ n ∧ n < s.journal.nextIndex ∧ ∃ r, s.recordAt n = some r ∧ a.relation.holds (a.key.against r) = true)
      ∧ (∀ n r, a.start ≤ n → n < s.journal.nextIndex → s.recordAt n = some r → a.relation.holds (a.key.against r) = true →
          n ∉ found → resume ≠ 0 ∧ resume ≤ n)
      ∧ (resume ≠ 0 → found.length = a.count ∧ resume < s.journal.nextIndex ∧ found.getLast? = some (resume - 1))
      ∧ (∀ n, found.length = a.count → found.getLast? = some n → n + 1 < s.journal.nextIndex → resume = n + 1) := by
  have hlast : ∀ n, found.length = a.count → found.getLast? = some n → n + 1 < s.journal.nextIndex → resume = n + 1 := by
    intro n hlength hn hnext
    rw [hresume, searchResume, hn]
    dsimp only
    rw [if_pos ⟨hlength, by omega⟩]
  have hrising := s.matching_rising a
  refine ⟨hfound ▸ hrising.sublist (List.take_sublist _ _), by simp [hfound, searchFound],
    fun n hn => (s.mem_matching a n).1 (List.mem_of_mem_take (hfound ▸ hn)), fun n r hstart hnext hr hmatch hout => ?_, fun hne => ?_, hlast⟩
  · have hmem := (s.mem_matching a n).2 ⟨hstart, hnext, r, hr, hmatch⟩
    obtain ⟨hlength, hbelow⟩ := take_of_rising hrising hmem (hfound ▸ hout)
    have hlength' : found.length = a.count := by rw [hfound]; exact hlength
    obtain ⟨m, hm⟩ : ∃ m, found.getLast? = some m := by
      cases h : found.getLast? with
      | none => rw [List.getLast?_eq_none_iff.1 h] at hlength'; simp at hlength'; omega
      | some m => exact ⟨m, rfl⟩
    have hmem' : m ∈ s.searchFound a := hfound ▸ List.mem_of_getLast? hm
    have hlt := hbelow m hmem'
    have := hlast m hlength' hm (by omega)
    omega
  · rw [hresume, searchResume] at hne ⊢
    split at hne
    · exact absurd rfl hne
    · next n hn =>
      split at hne
      · next h => rw [hn, if_pos h]; exact ⟨h.1, by omega, rfl⟩
      · exact absurd rfl hne

theorem RequestKind.handler_searchJournal {u : State} {q : Request} (h : u.media.state.barsMirror = none) :
    RequestKind.searchJournal.handler q u = match searchArgs q.args with
      | none => u.refuse q .badArgument
      | some a => u.answer q .done .none (u.searchReply a) := by
  unfold handler State.searchJournal
  exact State.gated_of_admitted h q _ u

/-- Settles O47. -/
theorem searchFindsMatchesInOrder : Obligations.SearchFindsMatchesInOrder := by
  rintro w s f q fieldCode relation start count limit key hq hform rfl rfl rfl rfl rfl rfl
  refine ⟨fun d hbar => ?_, fun hscanned => ⟨fun hout => ?_, fun hin => ?_⟩⟩
  · rw [← RequestKind.command, exec_command_of_formOk hq hform, RequestKind.handler, State.searchJournal,
      MediaState.barsMirror_eq_some (d := d) (by simpa using hbar)]
    exact congrArg Host.Outcome.next (State.noteConflict_refuse ..)
  · rw [← RequestKind.command, exec_command_of_formOk hq hform,
      RequestKind.handler_searchJournal (MediaState.barsMirror_eq_none (by simpa using hscanned)), (searchArgs_eq_none_iff hform).2 hout]
    exact congrArg Host.Outcome.next (State.noteConflict_refuse ..)
  · obtain ⟨a, ha⟩ := Option.ne_none_iff_exists'.1 (mt (searchArgs_eq_none_iff hform).1 hin)
    obtain ⟨hstart, hcount, hmatches⟩ := searchArgs_spec hform ha
    have hpos : 1 ≤ a.count := by
      rw [hcount]
      split <;> omega
    have hspec := s.search_spec a hpos rfl rfl
    simp only [hmatches, hstart, hcount] at hspec
    refine ⟨_, _, ?_, hspec⟩
    rw [← RequestKind.command, exec_command_of_formOk hq hform,
      RequestKind.handler_searchJournal (MediaState.barsMirror_eq_none (by simpa using hscanned)), ha]
    refine congrArg Host.Outcome.next ((State.noteConflict_answer ..).trans ?_)
    rw [State.noteConflict_withLink]
    rfl

end Sys2Proof.Machine

/-! The defect list of a PREPARE MEDIA, and the start of PREPARE MEDIA and RELEASE MEDIA. -/

namespace Sys2Proof.Machine

variable {s : State} {w : Wire} {f : Frame} {q : Request}

/-! ### Defect lists (R109, R110, R117) -/

theorem ascending_iff (l : List Nat) : ascending l = true ↔ l.Pairwise (· < ·) := by
  match l with
  | [] => simp [ascending]
  | [_] => simp [ascending]
  | a :: b :: rest =>
    simp only [ascending, Bool.and_eq_true, decide_eq_true_eq, ascending_iff (b :: rest), List.pairwise_cons (a := a), List.mem_cons,
      forall_eq_or_imp]
    refine and_congr_left fun h => ⟨fun hab => ⟨hab, fun x hx => ?_⟩, And.left⟩
    exact hab.trans (List.rel_of_pairwise_cons h hx)

theorem defectBlocksValid_iff (capacity : Nat) (blocks : List Nat) : defectBlocksValid capacity blocks = true ↔
    blocks.Pairwise (· < ·) ∧ ∀ b ∈ blocks, 4097 ≤ b ∧ b < capacity := by
  simp only [defectBlocksValid, ascending_iff, Bool.and_eq_true, List.all_eq_true, decide_eq_true_eq]
  exact Iff.rfl

theorem mem_insertDefect_of_mem {d x : Defect} {l : List Defect} (h : x ∈ l) : x ∈ insertDefect d l := by
  induction l with
  | nil => cases h
  | cons y l ih =>
    rw [insertDefect]
    split
    · exact List.mem_cons_of_mem _ h
    · split
      · exact h
      · rcases List.mem_cons.1 h with rfl | h
        · exact List.mem_cons_self
        · exact List.mem_cons_of_mem _ (ih h)

/-- The block of the new entry is in the list, in the new entry or in an older one. -/
theorem exists_mem_insertDefect (d : Defect) (l : List Defect) : ∃ x ∈ insertDefect d l, x.block = d.block := by
  induction l with
  | nil => exact ⟨d, List.mem_cons_self, rfl⟩
  | cons y l ih =>
    rw [insertDefect]
    split
    · exact ⟨d, List.mem_cons_self, rfl⟩
    · split
      · next h => exact ⟨y, List.mem_cons_self, h.symm⟩
      · obtain ⟨x, hx, hb⟩ := ih
        exact ⟨x, List.mem_cons_of_mem _ hx, hb⟩

/-- A block that an ascending list holds already stays as it was entered; a new one joins the list. -/
theorem insertDefect_spec {d : Defect} {l : List Defect} (h : (l.map (·.block)).Pairwise (· < ·)) :
    (d.block ∈ l.map (·.block) → insertDefect d l = l)
      ∧ (d.block ∉ l.map (·.block) → (insertDefect d l).Perm (d :: l))
      ∧ ((insertDefect d l).map (·.block)).Pairwise (· < ·) := by
  induction l with
  | nil => simp [insertDefect]
  | cons y l ih =>
    obtain ⟨hy, htail⟩ := List.pairwise_cons.1 h
    obtain ⟨hold, hnew, hpair⟩ := ih htail
    rw [insertDefect]
    split
    · next hlt =>
      have hbelow : ∀ b ∈ (y :: l).map (·.block), d.block < b := by
        intro b hb
        rcases List.mem_cons.1 hb with rfl | hb
        · exact hlt
        · exact hlt.trans (hy b hb)
      exact ⟨fun hmem => absurd (hbelow _ hmem) (Nat.lt_irrefl _), fun _ => .refl _, List.pairwise_cons.2 ⟨hbelow, h⟩⟩
    · next hge =>
      split
      · next heq => exact ⟨fun _ => rfl, fun hmem => absurd (by simp [heq]) hmem, h⟩
      · next hne =>
        have hmem : d.block ∈ (y :: l).map (·.block) ↔ d.block ∈ l.map (·.block) := by simp [hne]
        have hlast : ∀ x ∈ insertDefect d l, x.block = d.block ∨ x ∈ l := by
          intro x hx
          by_cases hin : d.block ∈ l.map (·.block)
          · exact .inr (hold hin ▸ hx)
          · rcases List.mem_cons.1 ((hnew hin).mem_iff.1 hx) with rfl | hx
            · exact .inl rfl
            · exact .inr hx
        refine ⟨fun hin => by rw [hold (hmem.1 hin)], fun hin => ?_, List.pairwise_cons.2 ⟨fun b hb => ?_, hpair⟩⟩
        · exact ((hnew (mt hmem.2 hin)).cons y).trans (.swap ..)
        · obtain ⟨x, hx, rfl⟩ := List.mem_map.1 hb
          rcases hlast x hx with hx | hx
          · show y.block < x.block
            omega
          · exact hy _ (List.mem_map_of_mem hx)

theorem mem_foldl_insertDefect {blocks : List Nat} {l : List Defect} {x : Defect} (h : x ∈ l) :
    x ∈ blocks.foldl (fun l b => insertDefect { block := b, grown := false } l) l := by
  induction blocks generalizing l with
  | nil => exact h
  | cons b blocks ih => exact ih (mem_insertDefect_of_mem h)

theorem exists_mem_foldl_insertDefect {blocks : List Nat} {b : Nat} (h : b ∈ blocks) (l : List Defect) :
    ∃ x ∈ blocks.foldl (fun l b => insertDefect { block := b, grown := false } l) l, x.block = b := by
  induction blocks generalizing l with
  | nil => cases h
  | cons c blocks ih =>
    rcases List.mem_cons.1 h with rfl | h
    · obtain ⟨x, hx, hb⟩ := exists_mem_insertDefect { block := b, grown := false } l
      exact ⟨x, mem_foldl_insertDefect (blocks := blocks) hx, hb⟩
    · exact ih h _

/-- The blocks given join an ascending list as GIVEN, each unless the list holds it; the length grows by those that are new. -/
theorem foldl_insertDefect_spec (blocks : List Nat) {l : List Defect} (h : (l.map (·.block)).Pairwise (· < ·)) :
    (∀ x, x ∈ blocks.foldl (fun l b => insertDefect { block := b, grown := false } l) l ↔
        x ∈ l ∨ (x.grown = false ∧ x.block ∈ blocks ∧ x.block ∉ l.map (·.block)))
      ∧ ((blocks.foldl (fun l b => insertDefect { block := b, grown := false } l) l).map (·.block)).Pairwise (· < ·)
      ∧ (blocks.Nodup → (blocks.foldl (fun l b => insertDefect { block := b, grown := false } l) l).length
          = l.length + (blocks.filter fun b => decide (b ∉ l.map (·.block))).length) := by
  induction blocks generalizing l with
  | nil => simp [h]
  | cons b blocks ih =>
    obtain ⟨hold, hnew, hpair⟩ := insertDefect_spec (d := { block := b, grown := false }) h
    obtain ⟨hmem, hsorted, hlength⟩ := ih hpair
    rw [List.foldl_cons]
    refine ⟨fun x => ?_, hsorted, fun hnodup => ?_⟩
    · rw [hmem]
      by_cases hin : b ∈ l.map (·.block)
      · rw [hold hin, List.mem_cons]
        exact or_congr_right (and_congr_right fun _ => and_congr_left fun hnew => (or_iff_right fun hx : x.block = b => hnew (hx ▸ hin)).symm)
      · have hperm := hnew hin
        have hblocks : x.block ∈ (insertDefect { block := b, grown := false } l).map (·.block) ↔ x.block = b ∨ x.block ∈ l.map (·.block) := by
          rw [(hperm.map _).mem_iff, List.map_cons, List.mem_cons]
        rw [hperm.mem_iff, hblocks, List.mem_cons, List.mem_cons]
        have hx : x = { block := b, grown := false } ↔ x.block = b ∧ x.grown = false := by
          obtain ⟨_, _⟩ := x
          simp
        have hnot : x.block = b → x.block ∉ l.map (·.block) := fun hx => hx ▸ hin
        rw [hx]
        by_cases hb : x.block = b
        · simp only [hb, true_and, true_or, not_true_eq_false, and_false, or_false, and_true, hin, not_false_eq_true]
          exact or_comm
        · simp only [hb, false_and, false_or]
    · obtain ⟨hfresh, hrest⟩ := List.nodup_cons.1 hnodup
      rw [hlength hrest]
      by_cases hin : b ∈ l.map (·.block)
      · rw [hold hin, List.filter_cons_of_neg (by simpa using hin)]
      · have hperm := hnew hin
        have hsame : (blocks.filter fun c => decide (c ∉ (insertDefect { block := b, grown := false } l).map (·.block)))
            = blocks.filter fun c => decide (c ∉ l.map (·.block)) := by
          refine List.filter_congr fun c hc => decide_eq_decide.2 ?_
          rw [(hperm.map _).mem_iff, List.map_cons, List.mem_cons]
          have : c ≠ b := fun h => hfresh (h ▸ hc)
          simp [this]
        rw [hsame, List.filter_cons_of_pos (by simpa using hin), hperm.length_eq, List.length_cons, List.length_cons]
        omega

theorem grownBlocks_pairwise {l : List Defect} (h : (l.map (·.block)).Pairwise (· < ·)) :
    ((l.filter (·.grown)).map (·.block)).Pairwise (· < ·) :=
  h.sublist (List.filter_sublist.map _)

/-! ### The plan of a PREPARE MEDIA (R105, R117) -/

theorem sampleRateOf_eq_some {n : Nat} {r : SampleRate} : sampleRateOf n = some r ↔ r.hz = n := by
  unfold sampleRateOf
  split
  · next h => cases r <;> simp [SampleRate.hz, h]
  · next h =>
    split
    · next h => cases r <;> simp [SampleRate.hz, h]
    · next h' => cases r <;> simp [SampleRate.hz, Ne.symm h, Ne.symm h']

theorem field_lt_pow (bs : List Byte) (off n : Nat) : field bs off n < 256 ^ n := by
  refine Nat.lt_of_lt_of_le (fromLe_lt _) (Nat.pow_le_pow_right (by decide) ?_)
  simp only [slice, List.length_take]
  omega

theorem rateOfByte_eq_some {b : Nat} (hb : b < 256) {c : RateCode} : rateOfByte (BitVec.ofNat 8 b) = some c ↔ c.number = b := by
  have h : ∀ k, k < 256 → (BitVec.ofNat 8 b = BitVec.ofNat 8 k ↔ b = k) := by
    intro k hk
    rw [← BitVec.toNat_inj, BitVec.toNat_ofNat, BitVec.toNat_ofNat, Nat.mod_eq_of_lt hb, Nat.mod_eq_of_lt hk]
  unfold rateOfByte
  simp only [show (24 : Byte) = BitVec.ofNat 8 24 from rfl, show (25 : Byte) = BitVec.ofNat 8 25 from rfl,
    show (30 : Byte) = BitVec.ofNat 8 30 from rfl, show (29 : Byte) = BitVec.ofNat 8 29 from rfl, h 24 (by decide), h 25 (by decide),
    h 30 (by decide), h 29 (by decide)]
  rcases em (b ∈ [24, 25, 30, 29]) with hmem | hmem
  · simp only [List.mem_cons, List.not_mem_nil, or_false] at hmem
    rcases hmem with rfl | rfl | rfl | rfl <;> cases c <;> decide
  · simp only [List.mem_cons, List.not_mem_nil, or_false, not_or] at hmem
    obtain ⟨h24, h25, h30, h29⟩ := hmem
    rw [if_neg h24, if_neg h25, if_neg h30, if_neg h29]
    cases c <;> simp [RateCode.number, Ne.symm h24, Ne.symm h25, Ne.symm h30, Ne.symm h29]

theorem profileAtOffset_eq_some {args : List Byte} {p : Profile} : profileAtOffset args 0 = some p ↔ ProfileAsked args p := by
  have harm := field_lt_pow args 5 2
  have hfollow := field_lt_pow args 11 4
  have hcode : ∀ c, rateOfByte (BitVec.ofNat 8 (field args 4 1)) = some c ↔ c.number = field args 4 1 :=
    fun c => rateOfByte_eq_some (field_lt_pow args 4 1)
  have hzero : BitVec.ofNat 16 (field args 5 2) = 0 ↔ field args 5 2 = 0 := by
    rw [← BitVec.toNat_inj, BitVec.toNat_ofNat]
    exact iff_of_eq (congrArg (· = 0) (Nat.mod_eq_of_lt harm))
  unfold profileAtOffset ProfileAsked
  simp only [Nat.zero_add]
  constructor
  · intro h
    split at h
    · next rate code hrate hc =>
      obtain ⟨⟨h1, h2, h3, h4, h5, h6, h7, h8⟩, h⟩ := Option.ite_none_right_eq_some.1 h
      cases h
      refine ⟨sampleRateOf_eq_some.1 hrate, (hcode _).1 hc, ?_, mt hzero.1 h1, ?_, rfl, h3, rfl, h4, rfl, h5, h6, ?_, h7, h8⟩
      · exact Nat.mod_eq_of_lt harm
      · dsimp only
        interval_cases field args 7 1 <;> rfl
      · exact Nat.mod_eq_of_lt hfollow
    · cases h
  · rintro ⟨h1, h2, h3, h4, h5, h6, h7, h8, h9, h10, h11, h12, h13, h14, h15⟩
    rw [sampleRateOf_eq_some.2 h1, (hcode _).2 h2]
    have hmask : BitVec.ofNat 16 (field args 5 2) = p.armMask := by rw [← h3, BitVec.ofNat_toNat, BitVec.setWidth_eq]
    have hset : BitVec.ofNat 32 (field args 11 4) = p.followSet := by rw [← h13, BitVec.ofNat_toNat, BitVec.setWidth_eq]
    have hmix : field args 7 1 ≤ 1 ∧ (field args 7 1 == 1) = p.mixEnable := by
      rw [← h5]
      cases p.mixEnable <;> decide
    dsimp only
    rw [hset, if_pos ⟨mt hzero.2 (hmask ▸ h4), hmix.1, h6 ▸ h7, h8 ▸ h9, h10 ▸ h11, h10 ▸ h12, h14, h15⟩, hmask, hmix.2, ← h6, ← h8, ← h10]

theorem State.preparePlan_eq_some {args : List Byte} {plan : PreparePlan} : s.preparePlan args = some plan ↔
    (defectBlocksValid (s.media.capacity.getD 0) (prepareBlocks args) = true
      ∧ (mergedDefects (prepareBlocks args) s.media.defects).length ≤ maxDefects)
    ∧ ∃ p, ProfileAsked args p ∧ { generation := nextGeneration s.media.generation, profile := p
                                   defects := mergedDefects (prepareBlocks args) s.media.defects, phase := .waiting } = plan := by
  simp only [preparePlan, Option.ite_none_right_eq_some, Option.map_eq_some_iff, profileAtOffset_eq_some]

/-- On a sound list, a PREPARE MEDIA's plan stands exactly when its profile and its blocks pass (R105, R117). -/
theorem State.preparePlan_isSome_iff (h : s.DefectsSound) {args : List Byte} : (s.preparePlan args).isSome = true ↔
    (∃ p, ProfileAsked args p) ∧ s.DefectsAdmitted (prepareBlocks args) := by
  obtain ⟨⟨-, hsorted⟩, -⟩ := h
  obtain ⟨-, -, hlength⟩ := foldl_insertDefect_spec (prepareBlocks args) (grownBlocks_pairwise hsorted)
  have hfilter : ∀ b, decide (b ∉ (s.media.defects.filter (·.grown)).map (·.block))
      = !s.media.defects.any fun d => d.grown && d.block == b := by
    intro b
    rw [Bool.eq_iff_iff]
    simp
  simp only [hfilter] at hlength
  simp only [Option.isSome_iff_exists, preparePlan_eq_some, DefectsAdmitted, defectBlocksValid_iff, maxDefects]
  constructor
  · rintro ⟨plan, ⟨⟨hpair, hrange⟩, hlen⟩, p, hp, -⟩
    exact ⟨⟨p, hp⟩, hpair, hrange, (hlength (hpair.imp Nat.ne_of_lt)).symm.trans_le hlen⟩
  · rintro ⟨⟨p, hp⟩, hpair, hrange, hlen⟩
    exact ⟨_, ⟨⟨hpair, hrange⟩, (hlength (hpair.imp Nat.ne_of_lt)).trans_le hlen⟩, p, hp, rfl⟩

/-- On a sound list the plan keeps exactly the GROWN entries, and enters the request's other blocks as GIVEN (R117). -/
theorem mem_mergedDefects_iff {current : List Defect} (h : (current.map (·.block)).Pairwise (· < ·)) (blocks : List Nat) (x : Defect) :
    x ∈ mergedDefects blocks current ↔ if x.grown = true then x ∈ current
      else x.block ∈ blocks ∧ ∀ d ∈ current, d.grown = true → d.block ≠ x.block := by
  obtain ⟨hmem, -, -⟩ := foldl_insertDefect_spec blocks (grownBlocks_pairwise h)
  rw [mergedDefects, hmem]
  have hnot : x.block ∉ (current.filter (·.grown)).map (·.block) ↔ ∀ d ∈ current, d.grown = true → d.block ≠ x.block := by
    simp
  rw [hnot]
  cases hx : x.grown <;> simp [hx]

theorem getElem?_prepareBlocks (args : List Byte) {i : Nat} (h : i < field args 15 2) :
    (prepareBlocks args)[i]? = some (field args (17 + 4 * i) 4) := by
  simp [prepareBlocks, entriesAt, List.getElem?_range h]

/-! ### Turned away or started (R116, R190) -/

theorem LongOp.isIdle_iff (o : LongOp) : o.isIdle = true ↔ o = .idle := by
  cases o <;> simp [isIdle]

theorem exec_prepareMedia (hq : s.TakesRequest .prepareMedia w f q) (hform : formOk .prepareMedia q.args = true) :
    exec (.prepareMedia w) s = .next ((s.noteConflict f).prepareMedia q) := by
  rw [← RequestKind.command, exec_command_of_formOk hq hform]
  rfl

theorem exec_releaseMedia (hq : s.TakesRequest .releaseMedia w f q) (hargs : q.args = []) :
    exec (.releaseMedia w) s = .next ((s.noteConflict f).releaseMedia q) := by
  rw [← RequestKind.command, exec_command_of_formOk hq (by simp [formOk, hargs])]
  rfl

/-- What R116 has to hold before either request is started, past the media state. -/
theorem State.quietStandby_iff (h : s.engine.Sound) : s.quietStandby = true ↔
    s.engine.takeState = .standby ∧ s.writer.queue = [] ∧ s.engine.openTake = none ∧ s.verify.slot = .idle := by
  obtain ⟨hopen, -, -⟩ := h
  simp only [quietStandby, Bool.and_eq_true, beq_iff_eq, List.isEmpty_iff, LongOp.isIdle_iff]
  have : s.engine.takeState = .standby → s.engine.openTake = none := by
    intro h
    rw [h] at hopen
    simpa using hopen
  tauto

theorem State.quiet_iff : s.quiet = true ↔ s.writer.queue = [] ∧ s.engine.openTake = none ∧ s.verify.slot = .idle := by
  simp only [quiet, Bool.and_eq_true, Option.isNone_iff_eq_none, List.isEmpty_iff, LongOp.isIdle_iff]
  tauto

/-- PREPARE MEDIA and RELEASE MEDIA could be started, and something stands in their way (R116). -/
def State.Hindered (s : State) : Prop :=
  s.verify.slot ≠ .idle ∨ s.media.state ∈ [.ready, .full, .faulted] ∧ (s.writer.queue ≠ [] ∨ s.engine.openTake ≠ none)
    ∨ s.media.state = .ready ∧ s.engine.takeState ≠ .standby

/-- Nothing stands in the way of a PREPARE MEDIA or RELEASE MEDIA (R116). -/
def State.Unhindered (s : State) : Prop :=
  s.verify.slot = .idle ∧ s.writer.queue = [] ∧ s.engine.openTake = none ∧ (s.media.state = .ready → s.engine.takeState = .standby)

theorem startWhen_eq_busy {c : Bool} (h : ¬ c = true) : startWhen c = .busy := if_neg h

theorem State.gates_of_hindered (h : s.Hindered) (hsound : s.engine.Sound) :
    (s.media.state ∈ [.unprepared, .ready, .full, .faulted, .released] → 5121 ≤ s.media.capacity.getD 0 → s.prepareGate = .busy)
      ∧ (s.media.state ∈ [.unprepared, .writeProtected, .ready, .full, .faulted] → s.releaseGate = .busy) := by
  have hidle : s.media.state ∉ [MediaState.ready, .full, .faulted] → startWhen s.verify.slot.isIdle = .busy := by
    intro hm
    refine startWhen_eq_busy fun hslot => ?_
    simp only [List.mem_cons, List.not_mem_nil, or_false, not_or] at hm
    have := (LongOp.isIdle_iff _).1 hslot
    simp [Hindered, this, hm] at h
  have hready : s.media.state = .ready → startWhen s.quietStandby = .busy := by
    intro hm
    refine startWhen_eq_busy fun hquiet => ?_
    obtain ⟨h1, h2, h3, h4⟩ := (quietStandby_iff hsound).1 hquiet
    simp [Hindered, h1, h2, h3, h4] at h
  have hquiet : s.media.state = .full ∨ s.media.state = .faulted → startWhen s.quiet = .busy := by
    intro hm
    refine startWhen_eq_busy fun hquiet => ?_
    obtain ⟨h2, h3, h4⟩ := quiet_iff.1 hquiet
    rcases hm with hm | hm <;> simp [Hindered, h2, h3, h4, hm] at h
  constructor
  · intro hm hcapacity
    have hsmall : s.media.tooSmall = false := decide_eq_false (Nat.not_lt.2 hcapacity)
    unfold prepareGate
    cases hstate : s.media.state <;> simp only [hstate, reduceCtorEq, List.mem_cons, List.not_mem_nil, or_false, or_self, hsmall,
      Bool.false_eq_true, if_false] at hm hidle hready hquiet ⊢
    all_goals simp_all
  · intro hm
    unfold releaseGate
    cases hstate : s.media.state <;> simp only [hstate, reduceCtorEq, List.mem_cons, List.not_mem_nil, or_false, or_self] at hm hidle hready hquiet ⊢
    all_goals simp_all

theorem State.gates_of_unhindered (h : s.Unhindered) :
    (s.media.state ∈ [.unprepared, .ready, .full, .faulted, .released] → 5121 ≤ s.media.capacity.getD 0 → s.prepareGate = .start)
      ∧ (s.media.state ∈ [.unprepared, .writeProtected, .ready, .full, .faulted] → s.releaseGate = .start) := by
  obtain ⟨hslot, hqueue, hopen, hready⟩ := h
  have hidle : s.verify.slot.isIdle = true := (LongOp.isIdle_iff _).2 hslot
  have hquiet : s.quiet = true := quiet_iff.2 ⟨hqueue, hopen, hslot⟩
  have hstandby : s.media.state = .ready → s.quietStandby = true := by
    intro hm
    simp [quietStandby, hready hm, hqueue, hidle]
  constructor
  · intro hm hcapacity
    have hsmall : s.media.tooSmall = false := decide_eq_false (Nat.not_lt.2 hcapacity)
    unfold prepareGate
    cases hstate : s.media.state <;> simp_all [startWhen]
  · intro hm
    unfold releaseGate
    cases hstate : s.media.state <;> simp_all [startWhen]

theorem State.prepareGate_refused {d : Detail} (h : (s.media.state = .absent ∨ s.media.state = .mounting) ∧ d = .noMedia
    ∨ s.media.state = .writeProtected ∧ d = .writeProtected
    ∨ (s.media.state = .unprepared ∨ s.media.state = .released) ∧ s.media.capacity.getD 0 < 5121 ∧ d = .notPrepared) :
    s.prepareGate = .refused d := by
  have hsmall : s.media.capacity.getD 0 < 5121 → s.media.tooSmall = true := decide_eq_true
  unfold prepareGate
  rcases h with ⟨h | h, rfl⟩ | ⟨h, rfl⟩ | ⟨h | h, hcapacity, rfl⟩
  · simp only [h]
  · simp only [h]
  · simp only [h]
  · simp only [h, hsmall hcapacity, if_true]
  · simp only [h, hsmall hcapacity, if_true]

/-- In a coherent state without an open take, the station is OFFLINE once the card is RELEASED (R38). -/
theorem State.refreshStation_of_released (hopen : s.engine.openTake = none) (hsound : s.engine.Sound) (hm : s.media.state = .released) :
    s.refreshStation = { s with engine := { s.engine with takeState := .offline } } := by
  obtain ⟨hopen', -, -⟩ := hsound
  rw [hopen] at hopen'
  simp only [Option.isSome_none, Bool.false_eq_true, false_iff, not_or] at hopen'
  have husable : s.usable = false := by simp [usable, hm]
  unfold refreshStation
  cases hstate : s.engine.takeState with
  | offline =>
    simp only [husable, Bool.false_eq_true, if_false, ← hstate]
  | standby => simp only [husable, Bool.false_eq_true, if_false, setTake]
  | rolling => exact absurd hstate hopen'.1
  | tail => exact absurd hstate hopen'.2

@[simp] theorem Link.linkTrouble_enqueueReport (x : Report) (l : Link) : (l.enqueueReport x).linkTrouble = l.linkTrouble := by
  unfold enqueueReport
  (repeat' split) <;> rfl

@[simp] theorem Link.conflict_enqueueReport (x : Report) (l : Link) : (l.enqueueReport x).conflict = l.conflict := by
  unfold enqueueReport
  (repeat' split) <;> rfl

@[simp] theorem State.stateContent_finalReport (who : Requester) (k : RequestKind) (c : OutcomeClass) (d : Detail) (y : List Byte)
    (s : State) : (s.finalReport who k c d y).stateContent = s.stateContent :=
  stateContent_withLink (Link.linkTrouble_enqueueReport ..) (Link.conflict_enqueueReport ..)

/-- A release that completes: the media is RELEASED, the station OFFLINE, and the STATE frame stands before the DONE report
(R38, R119, R172, R192). -/
theorem State.completeRelease_spec (who : Requester) (hopen : s.engine.openTake = none) (hsound : s.engine.Sound)
    (hm : s.media.state ≠ .released) (t : State) (ht : t = s.completeRelease who) :
    t.media = { s.media with state := .released } ∧ t.verify = { s.verify with slot := .idle }
      ∧ t.engine = { s.engine with takeState := .offline }
      ∧ t.link = (s.link.enqueueState t.stateContent).enqueueReport (who.report .releaseMedia .done .none [MediaState.released.code])
      ∧ t = { s with media := t.media, verify := t.verify, engine := t.engine, link := t.link } := by
  have hrefresh : (s.setMedia .released).idleSlot.refreshStation = { s with
      media := { s.media with state := .released }, verify := { s.verify with slot := .idle }
      engine := { s.engine with takeState := .offline } } :=
    refreshStation_of_released (s := (s.setMedia .released).idleSlot) hopen hsound rfl
  have hne : s.announced ≠ ({ s with
      media := { s.media with state := .released }, verify := { s.verify with slot := .idle }
      engine := { s.engine with takeState := .offline } } : State).announced := by
    intro h
    exact hm (Prod.mk.inj (Prod.mk.inj h).2).1
  rw [completeRelease, hrefresh, announce_of_ne hne] at ht
  subst ht
  refine ⟨rfl, rfl, rfl, ?_, rfl⟩
  rw [stateContent_finalReport]
  exact congrArg (Link.enqueueReport _) (queueState_link_eq _)

theorem State.releaseIfDrained_of_pending {who : Requester} (hslot : s.verify.slot = .releasing who) (h : s.writesPending = true) :
    s.releaseIfDrained = s := by
  simp only [releaseIfDrained, hslot, h, if_true]

theorem State.releaseIfDrained_of_drained {who : Requester} (hslot : s.verify.slot = .releasing who) (h : s.writesPending = false) :
    s.releaseIfDrained = s.completeRelease who := by
  simp only [releaseIfDrained, hslot, h, Bool.false_eq_true, if_false]

/-- The state in which an accepted RELEASE MEDIA stands before the drain is looked at (R119, R190). -/
def State.releaseAccepted (q : Request) (s : State) : State := { s with
  verify := { s.verify with slot := .releasing q.requester }
  link := s.link.enqueueReport (q.report .accepted .none []) }

theorem State.startRelease_eq (q : Request) : s.startRelease q = (s.releaseAccepted q).releaseIfDrained := rfl

theorem State.exists_noteConflict (s : State) (f : Frame) : ∃ l, s.noteConflict f = { s with link := l } :=
  ⟨_, s.noteConflict_withLink f⟩

theorem State.prepareMedia_of_start (h : s.prepareGate = .start) (q : Request) : s.prepareMedia q =
    match s.preparePlan q.args with
    | none => s.refuse q .badArgument
    | some plan => s.startPrepare q plan := by
  unfold prepareMedia
  cases s.preparePlan q.args <;> simp only [h]

/-- What a plan that stands holds (R105, R117). -/
theorem State.preparePlan_spec {plan : PreparePlan} {args : List Byte} (h : s.preparePlan args = some plan) :
    ProfileAsked args plan.profile ∧ plan.generation = (match s.media.generation with | none => 1 | some g => if g = 65535 then 1 else g + 1)
      ∧ (∀ d ∈ s.media.defects, d.grown = true → ∃ x ∈ plan.defects, x.block = d.block)
      ∧ (∀ b ∈ prepareBlocks args, ∃ x ∈ plan.defects, x.block = b)
      ∧ (s.DefectsSound → ∀ x, x ∈ plan.defects ↔
          if x.grown = true then x ∈ s.media.defects
          else x.block ∈ prepareBlocks args ∧ ∀ d ∈ s.media.defects, d.grown = true → d.block ≠ x.block)
      ∧ plan.defects.length ≤ 480 ∧ profileAtOffset args 0 = some plan.profile ∧ plan.phase = .waiting := by
  obtain ⟨⟨-, hlen⟩, p, hp, rfl⟩ := preparePlan_eq_some.1 h
  refine ⟨hp, ?_, fun d hd hgrown => ⟨d, mem_foldl_insertDefect (List.mem_filter.2 ⟨hd, hgrown⟩), rfl⟩,
    fun b hb => exists_mem_foldl_insertDefect hb _, fun hsound => mem_mergedDefects_iff hsound.1.2 _, hlen, profileAtOffset_eq_some.2 hp, rfl⟩
  cases s.media.generation <;> rfl

/-- Settles O50. -/
theorem prepareAndReleaseStartOrAreTurnedAway : Obligations.PrepareAndReleaseStartOrAreTurnedAway := by
  refine ⟨fun w s f q hq hform => ⟨fun d hd => ?_, fun hm hcapacity => ⟨fun hhindered hsound => ?_, fun hslot hqueue hopen hready => ?_⟩⟩,
    fun w s f q hq hargs => ⟨fun hm => ?_, fun hm => ?_, fun hm => ⟨fun hhindered hsound => ?_, fun hslot hqueue hopen hready => ?_⟩⟩⟩
  · rw [exec_prepareMedia hq hform, State.prepareMedia, State.prepareGate_refused (by simpa using hd)]
    exact congrArg _ (State.noteConflict_refuse ..)
  · have hgate := (State.gates_of_hindered (s := s.noteConflict f) (by simpa [State.Hindered] using hhindered) (by simpa using hsound)).1
      (by simpa using hm) (by simpa using hcapacity)
    rw [exec_prepareMedia hq hform, State.prepareMedia, hgate]
    exact congrArg _ ((State.noteConflict_answer ..).trans (by rw [State.noteConflict_busyReply]))
  · have hexec : exec (.prepareMedia w) s = .next (match s.preparePlan q.args with
        | none => (s.noteConflict f).refuse q .badArgument
        | some plan => (s.noteConflict f).startPrepare q plan) := by
      obtain ⟨l, hl⟩ := s.exists_noteConflict f
      have hgate := (State.gates_of_unhindered (s := s.noteConflict f) (by simpa [State.Unhindered] using ⟨hslot, hqueue, hopen, hready⟩)).1
        (by simpa using hm) (by simpa using hcapacity)
      have hplan : (s.noteConflict f).preparePlan q.args = s.preparePlan q.args := by rw [hl]; rfl
      exact (exec_prepareMedia hq hform).trans (congrArg _ ((State.prepareMedia_of_start hgate q).trans (by rw [hplan])))
    refine ⟨fun hnone => ?_, fun hsound => State.preparePlan_isSome_iff hsound, by simp [prepareBlocks, entriesAt],
      fun i => getElem?_prepareBlocks q.args, fun plan hplan => ?_⟩
    · rw [hexec, hnone]
      exact congrArg _ (State.noteConflict_refuse ..)
    · obtain ⟨h1, h2, h3, h4, h5, h6, h7, h8⟩ := State.preparePlan_spec hplan
      refine ⟨h1, h2, h3, h4, h5, h6, h7, h8, ?_⟩
      obtain ⟨l, hl⟩ := s.exists_noteConflict f
      rw [hexec, hplan, hl]
      rfl
  · have hgate : (s.noteConflict f).releaseGate = .refused .noMedia := by
      rcases hm with hm | hm <;> simp [State.releaseGate, hm]
    rw [exec_releaseMedia hq hargs, State.releaseMedia, hgate]
    exact congrArg _ (State.noteConflict_refuse ..)
  · have hgate : (s.noteConflict f).releaseGate = .doneAtOnce := by simp [State.releaseGate, hm]
    rw [exec_releaseMedia hq hargs, State.releaseMedia, hgate]
    exact congrArg _ (State.noteConflict_answer ..)
  · have hgate := (State.gates_of_hindered (s := s.noteConflict f) (by simpa [State.Hindered] using hhindered) (by simpa using hsound)).2
      (by simpa using hm)
    rw [exec_releaseMedia hq hargs, State.releaseMedia, hgate]
    exact congrArg _ ((State.noteConflict_answer ..).trans (by rw [State.noteConflict_busyReply]))
  · have hexec : exec (.releaseMedia w) s = .next ((s.noteConflict f).releaseAccepted q).releaseIfDrained := by
      have hgate := (State.gates_of_unhindered (s := s.noteConflict f) (by simpa [State.Unhindered] using ⟨hslot, hqueue, hopen, hready⟩)).2
        (by simpa using hm)
      rw [exec_releaseMedia hq hargs, State.releaseMedia, hgate]
      exact congrArg _ (State.startRelease_eq q)
    obtain ⟨l, hl⟩ := s.exists_noteConflict f
    rw [hexec, hl]
    refine ⟨fun hpending => ?_, fun hdrained hcoherent => ?_⟩
    · rw [State.releaseIfDrained_of_pending (s := State.releaseAccepted q { s with link := l }) (who := q.requester) rfl hpending]
      rfl
    · rw [State.releaseIfDrained_of_drained (s := State.releaseAccepted q { s with link := l }) (who := q.requester) rfl hdrained]
      obtain ⟨hengine, -⟩ := hcoherent
      obtain ⟨hmedia, hverify, htake, hlink, hframe⟩ := State.completeRelease_spec (s := State.releaseAccepted q { s with link := l })
        q.requester hopen hengine (by rintro h; rw [show s.media.state = _ from h] at hm; simp at hm) _ rfl
      refine ⟨_, rfl, hmedia, hverify, htake, hframe, ?_⟩
      rw [hlink]
      simp [State.releaseAccepted, Requester.report, Request.report, Request.requester, hq.2.2]

end Sys2Proof.Machine

/-! The statements that ask for an operation at the port and do not ask for its numbers to be unique (R120). A port holds its
operations by their numbers, so a waiting operation that has the number of the next one takes that one with it when it is granted:
from such a state, which `Port.Sound` shuts out, the operation asked stands nowhere. -/

namespace Sys2Proof.Machine

/-! ### States with two operations of one number -/

/-- An operation whose block has not been composed. -/
def Op.plain (id : Nat) (kind : OpKind) (attempt : Nat) : Op :=
  { id := id, kind := kind, attempt := attempt, block := none, isFinal := false }

/-- Operation 0 is outstanding, and `kind` waits under the number that the next operation will have. -/
def Port.clashing (out : Op) (kind : OpKind) : Port :=
  { waiting := [Op.plain 1 kind 1], outstanding := [out], nextOp := 1 }

/-- No operation of this kind and attempt stands at the port after a command. -/
def neverAsked (kind : OpKind) (attempt : Nat) (c : Instr) (s : State) : Bool :=
  match exec c s with
  | .next t => (t.port.waiting ++ t.port.outstanding).all fun op => op.kind != kind || op.attempt != attempt
  | .fault _ => true
  | .refused _ => true

theorem not_asked_of_neverAsked {kind : OpKind} {attempt : Nat} {c : Instr} {s t : State}
    (h : neverAsked kind attempt c s = true) (ht : exec c s = .next t) : ¬ t.Asked kind attempt := by
  rintro ⟨op, hop, hkind, hattempt⟩
  simp only [neverAsked, ht, List.all_eq_true] at h
  simpa [hkind, hattempt] using h op hop

/-- A card being mounted, at a stage, with operation 0 outstanding and the read of slot 2 waiting as operation 1. -/
def clashMounting (mount : Mount) (out : OpKind) : State :=
  { State.reset with
    media := { State.reset.media with state := .mounting, mount := mount }
    port := Port.clashing (Op.plain 0 out 1) (.slotRead 2) }

/-- An UNPREPARED card with operation 0 outstanding and a journal write waiting as operation 1. -/
def clashWriting (out : Op) : State :=
  { State.reset with
    media := { State.reset.media with state := .unprepared }
    port := Port.clashing out (.journalWrite 9) }

/-! ### The card -/

/-- Refutes O32: the size read asked at an insertion has the number of an operation that waits. -/
theorem not_cardInsertionAndRemoval : ¬ Obligations.CardInsertionAndRemoval := by
  intro h
  obtain ⟨t, ht, -, hasked, -⟩ := (h.1 false { State.reset with port := Port.clashing (Op.plain 0 .headerRead 1) (.slotRead 2) }).2 rfl
  exact not_asked_of_neverAsked (by decide +kernel) ht hasked

/-- Refutes O33: the header read asked after the size read has the number of an operation that waits. -/
theorem not_sizeReadSetsTheCapacity : ¬ Obligations.SizeReadSetsTheCapacity := by
  intro h
  obtain ⟨t, ht, -, hasked, -⟩ := (h (clashMounting .sizing .sizeRead) 0 (Op.plain 0 .sizeRead 1) (by decide +kernel) (by decide +kernel)
    rfl rfl).1 5121 le_rfl
  exact not_asked_of_neverAsked (by decide +kernel) ht hasked

/-- Refutes O34: the second header read has the number of an operation that waits. -/
theorem not_headerReadLoadsTheProfile : ¬ Obligations.HeaderReadLoadsTheProfile := by
  intro h
  obtain ⟨-, -, hretry⟩ := h (clashMounting .header .headerRead) 0 (Op.plain 0 .headerRead 1) (by decide +kernel) (by decide +kernel) rfl rfl
  obtain ⟨t, ht, hasked, -⟩ := hretry (by decide)
  exact not_asked_of_neverAsked (by decide +kernel) ht hasked

/-- Refutes O35: the second read of slot 1 has the number of an operation that waits. -/
theorem not_slotReadGoesOnOrEndsTheScan : ¬ Obligations.SlotReadGoesOnOrEndsTheScan := by
  intro h
  obtain ⟨t, ht, hasked, -⟩ := (h.2.1 (clashMounting (.scan 1 32 0 []) (.slotRead 1)) 0 1 1 32 0 (Op.plain 0 (.slotRead 1) 1) none []
    (by decide +kernel) (by decide +kernel) rfl rfl).1 rfl (by decide)
  exact not_asked_of_neverAsked (by decide +kernel) ht hasked

/-! ### Header, preparation and journal writes -/

/-- Refutes O36: the second header write has the number of an operation that waits. -/
theorem not_headerWriteCompletesOrIsRetried : ¬ Obligations.HeaderWriteCompletesOrIsRetried := by
  intro h
  obtain ⟨-, -, -, hretry, -⟩ := h (clashWriting (Op.plain 0 .headerWrite 1)) 0 (Op.plain 0 .headerWrite 1) (by decide +kernel)
    (by decide +kernel) rfl
  obtain ⟨t, ht, -, hasked⟩ := hretry (by decide +kernel) (by decide)
  exact not_asked_of_neverAsked (by decide +kernel) ht hasked

/-- A preparation of any profile that zeroes slot 1. -/
def zeroingPlan : PreparePlan where
  generation := 1
  profile := { rate := .hz48000, frameRate := .r25, armMask := 1, mixEnable := false, preRoll := 0, postRoll := 0, maxLength := 1
               followSet := 0 }
  defects := []
  phase := .zero

def clashZeroing : State :=
  { clashWriting (Op.plain 0 .prepareZero 1) with
    verify := { State.reset.verify with slot := .preparing { station := 9, tag := 1 } zeroingPlan } }

/-- Refutes O39: the second write that zeroes slot 1 has the number of an operation that waits. -/
theorem not_preparationAndReleaseComplete : ¬ Obligations.PreparationAndReleaseComplete := by
  intro h
  obtain ⟨-, hretry, -⟩ := h.1 clashZeroing { station := 9, tag := 1 } zeroingPlan 0 (Op.plain 0 .prepareZero 1) (by decide +kernel) rfl rfl
    (by decide +kernel) rfl
  obtain ⟨t, ht, -, hasked, -⟩ := hretry (by decide)
  exact not_asked_of_neverAsked (by decide +kernel) ht hasked

/-- Refutes O30: the second write of slot 1 has the number of an operation that waits. -/
theorem not_journalWriteCompletesAndTheNextIsAsked : ¬ Obligations.JournalWriteCompletesAndTheNextIsAsked := by
  intro h
  obtain ⟨t, o, ht, hmem, hkind, hattempt, -⟩ := h.2.1 (clashWriting { Op.plain 0 (.journalWrite 1) 1 with block := some [] }) 0 1
    { Op.plain 0 (.journalWrite 1) 1 with block := some [] } (by decide +kernel) rfl (by decide +kernel) (by decide) rfl
  exact not_asked_of_neverAsked (kind := .journalWrite 1) (attempt := 2) (by decide +kernel) ht ⟨o, hmem, hkind, hattempt⟩

/-! ### Segment writes -/

/-- A CLOSING take of one sealed segment at block 4,097. -/
def clashRecord : Record where
  index := 1
  generation := 1
  key := { origin := 2, roll := 1 }
  continues := none
  state := .closing
  flags := 0
  start := 0
  stop := some 1
  startLabel := { hh := 0, mm := 0, ss := 0, ff := 0 }
  labelRate := .r25
  recorded := 1
  lost := 0
  durable := 0
  armed := 1
  mixPresent := false
  rate := .hz48000
  frameBytes := 3
  digest := none
  peaks := [0]
  clipCount := 0
  joined := []
  slate := Slate.unset
  markers := []
  notes := []
  extents := [{ first := 4097, count := 1 }]

/-- Its segment, IN FLIGHT. -/
def clashSegment : Segment where
  take := 1
  sequence := some 1
  tag := some .only
  run := { first := 4097, count := 1 }
  blocksUsed := 1
  offset := 0
  writes := [{ first := 4097, count := 1, segBlock := 0, state := .outstanding }]
  failures := 0
  tapped := true
  orphan := false
  data := [1, 2, 3]

def clashEntry : QueueEntry := { QueueEntry.joining 1 1 with sealedSegs := 1 }

def clashSlot : MirrorSlot :=
  { entry := .record clashRecord, inFlight := false, amend := false, firstDone := true, held := false, keptBytes := none }

/-- The segment's write is outstanding as operation 0, and a journal write waits as operation 1; a release runs. -/
def clashFlying : State :=
  { clashWriting (Op.plain 0 (.segmentWrite 0 0) 1) with
    journal := { mirror := [clashSlot], nextIndex := 2 }
    media := { State.reset.media with state := .ready, capacity := some 10000, cursor := some 4098 }
    writer := {
      queue := [clashEntry]
      buffers := Vector.ofFn fun i => if i.val = 0 then .used .inFlight clashSegment else .free }
    verify := { State.reset.verify with slot := .releasing { station := 9, tag := 1 } } }

/-- Refutes O28: the final write asked at the completion has the number of an operation that waits. -/
theorem not_completedSegmentExtendsTheDurablePrefix : ¬ Obligations.CompletedSegmentExtendsTheDurablePrefix := by
  intro h
  have hnone : ∀ j q, clashSegment.writes[j]? = some q → j ≠ 0 → q.state = .completed ∨ q.state = .failed := by
    intro j q hq hj
    have : j < 1 := (List.getElem?_eq_some_iff.1 hq).1
    omega
  obtain ⟨t, e', ht, -, -, -, -, -, -, hwrites, -⟩ := (h clashFlying 0 0 0 (Op.plain 0 (.segmentWrite 0 0) 1) .inFlight clashSegment
    { first := 4097, count := 1, segBlock := 0, state := .outstanding } (by decide +kernel) rfl (by decide +kernel) rfl).1 1 clashEntry rfl
    hnone (by decide +kernel) rfl
  obtain ⟨sl', -, hfinal, -⟩ := hwrites clashSlot clashRecord true (by decide +kernel) rfl rfl (by decide)
  exact not_asked_of_neverAsked (by decide +kernel) ht ((hfinal (.inl rfl)).2.1 rfl)

/-- Refutes O29: the rewrite piece of the remapped block has the number of an operation that waits. -/
theorem not_failedSegmentIsRemapped : ¬ Obligations.FailedSegmentIsRemapped := by
  intro h
  have hruns : State.AnswersRuns 1 [{ first := 4098, count := 1 }] 0
      { clashFlying.grown 4097 with media := { (clashFlying.grown 4097).media with cursor := some 4099 } } (clashFlying.grown 4097) := by
    refine ⟨by decide, { clashFlying.grown 4097 with media := { (clashFlying.grown 4097).media with cursor := some 4099 } },
      by decide +kernel, rfl, rfl⟩
  obtain ⟨-, hcovered, -⟩ := h clashFlying (clashFlying.grown 4097)
    { clashFlying.grown 4097 with media := { (clashFlying.grown 4097).media with cursor := some 4099 } } 0 0 0 4097 4097 0
    (Op.plain 0 (.segmentWrite 0 0) 1) .inFlight clashSegment { first := 4097, count := 1, segBlock := 0, state := .outstanding }
    clashRecord [] [] [] [] [{ first := 4098, count := 1 }] { first := 4097, count := 1 }
    (by decide +kernel) rfl (by decide) (by decide +kernel) rfl (by decide) rfl (by decide) rfl (by decide) (.inl rfl) (by decide)
    (by decide +kernel) rfl (by simp) (by decide) (by decide) rfl rfl rfl hruns
  obtain ⟨t, r', phase', seg', base, ht, -, -, -, -, -, -, -, -, hpieces, -⟩ := hcovered rfl (by decide)
  obtain ⟨-, o, hmem, hkind, hattempt, -⟩ := hpieces 0 _ rfl
  exact not_asked_of_neverAsked (kind := .segmentWrite 0 1) (attempt := 1) (by decide +kernel) ht ⟨o, hmem, hkind, hattempt⟩

end Sys2Proof.Machine

/-! What the grants of a step may change, said once (R85, R120, R133, R134, R150): the mirror's durable frames, the digests of the
queued takes, the writes of the staging buffers, the window's reads, and the port. Every operation that stands at a numbered port
before them stands there after them. -/

namespace Sys2Proof.Machine

/-! ### The relation -/

/-- A staging buffer as it stood, but that its writes may have been granted (R133). -/
def Buffer.GrantedTo : Buffer → Buffer → Prop
  | .free, y => y = .free
  | .used phase seg, y => ∃ phase' seg', y = .used phase' seg'
      ∧ seg' = { seg with writes := seg'.writes, tapped := seg'.tapped }
      ∧ seg'.writes.map (fun p => (p.first, p.count, p.segBlock)) = seg.writes.map (fun p => (p.first, p.count, p.segBlock))
      ∧ (phase' = phase ∨ phase' = .inFlight)

theorem Buffer.GrantedTo.refl (x : Buffer) : x.GrantedTo x := by
  cases x with
  | free => rfl
  | used phase seg => exact ⟨phase, seg, rfl, rfl, rfl, .inl rfl⟩

theorem Buffer.GrantedTo.trans {x y z : Buffer} (h : x.GrantedTo y) (h' : y.GrantedTo z) : x.GrantedTo z := by
  cases x with
  | free => cases h; exact h'
  | used phase seg =>
    obtain ⟨phase1, seg1, rfl, h1, hw1, hp1⟩ := h
    obtain ⟨phase2, seg2, rfl, h2, hw2, hp2⟩ := h'
    refine ⟨phase2, seg2, rfl, ?_, hw2.trans hw1, ?_⟩
    · rw [h2, h1]
    · rcases hp2 with rfl | rfl
      · exact hp1
      · exact .inr rfl

/-- What the grants of a step may change (R85, R120, R133, R134, R150). -/
structure State.GrantedTo (s t : State) : Prop where
  /-- No other block changes. -/
  frame : t = { s with journal := { s.journal with mirror := t.journal.mirror }, port := t.port, writer := t.writer
                       verify := { s.verify with window := t.verify.window } }
  slots : ∀ n, ∃ g : Record → Record, (∀ r : Record, r.SameButDurable (g r))
    ∧ t.slotAt n = (s.slotAt n).map fun sl => { sl with entry := sl.entry.mapRecord g }
  queue : ∃ d : QueueEntry → WriteDigest, t.writer.queue = s.writer.queue.map fun e => { e with digest := d e }
  buffers : ∀ c, (s.buffer c).GrantedTo (t.buffer c)
  window : ∃ g : WindowEntry → WindowEntry, (∀ x : WindowEntry, x.AsStood (g x)) ∧ t.verify.window = s.verify.window.map g
  waiting : t.port.waiting.Sublist s.port.waiting
  outstanding : ∃ l, t.port.outstanding = s.port.outstanding ++ l
  numbers : t.port.nextOp = s.port.nextOp

theorem MirrorEntry.mapRecord_mapRecord (g h : Record → Record) (e : MirrorEntry) :
    (e.mapRecord g).mapRecord h = e.mapRecord (h ∘ g) := by
  cases e <;> rfl

theorem MirrorEntry.mapRecord_id (e : MirrorEntry) : e.mapRecord id = e := by
  cases e <;> rfl

theorem WindowEntry.AsStood.trans {x y z : WindowEntry} (h : x.AsStood y) (h' : y.AsStood z) : x.AsStood z := by
  rcases h with rfl | ⟨op, a, rfl, rfl⟩
  · exact h'
  · rcases h' with rfl | ⟨_, _, h, -⟩
    · exact .inr ⟨op, a, rfl, rfl⟩
    · cases h

namespace State.GrantedTo

variable {s t u : State}

theorem refl (s : State) : s.GrantedTo s where
  frame := rfl
  slots n := ⟨id, fun _ => rfl, by simp [MirrorEntry.mapRecord_id]⟩
  queue := ⟨fun e => e.digest, by simp⟩
  buffers c := .refl _
  window := ⟨id, fun _ => .inl rfl, by simp⟩
  waiting := .refl _
  outstanding := ⟨[], by simp⟩
  numbers := rfl

theorem trans (h : s.GrantedTo t) (h' : t.GrantedTo u) : s.GrantedTo u where
  frame := by rw [h'.frame, h.frame]
  slots n := by
    obtain ⟨g, hg, ht⟩ := h.slots n
    obtain ⟨g', hg', hu⟩ := h'.slots n
    refine ⟨g' ∘ g, fun r => ?_, ?_⟩
    · show g' (g r) = { r with durable := (g' (g r)).durable }
      rw [hg' (g r), hg r]
    · simp only [hu, ht, Option.map_map, Function.comp_def, MirrorEntry.mapRecord_mapRecord]
  queue := by
    obtain ⟨d, ht⟩ := h.queue
    obtain ⟨d', hu⟩ := h'.queue
    exact ⟨fun e => d' { e with digest := d e }, by simp [hu, ht]⟩
  buffers c := (h.buffers c).trans (h'.buffers c)
  window := by
    obtain ⟨g, hg, ht⟩ := h.window
    obtain ⟨g', hg', hu⟩ := h'.window
    exact ⟨g' ∘ g, fun x => (hg x).trans (hg' _), by simp [hu, ht]⟩
  waiting := h'.waiting.trans h.waiting
  outstanding := by
    obtain ⟨l, ht⟩ := h.outstanding
    obtain ⟨l', hu⟩ := h'.outstanding
    exact ⟨l ++ l', by simp [hu, ht]⟩
  numbers := h'.numbers.trans h.numbers

end State.GrantedTo

/-! ### A grant is such a change -/

theorem setPiece_shape (i : Nat) (x : PieceState) (l : List Piece) :
    (setPiece i x l).map (fun p => (p.first, p.count, p.segBlock)) = l.map (fun p => (p.first, p.count, p.segBlock)) := by
  refine List.ext_getElem? fun j => ?_
  simp only [setPiece, List.getElem?_map, List.getElem?_modify]
  cases l[j]? with
  | none => rfl
  | some p => simp only [Option.map_some]; split <;> rfl

theorem State.buffer_of_le {s : State} {b : Nat} (h : 8 ≤ b) : s.buffer b = .free := by
  simp [State.buffer, h]

theorem State.lt_of_buffer_ne_free (s : State) {b : Nat} (h : s.buffer b ≠ .free) : b < 8 := by
  by_contra hb
  exact h (State.buffer_of_le (not_lt.1 hb))

/-- Every state that differs only in its port is one that grants might leave, when its port is. -/
theorem State.grantedTo_of_port {s : State} {p : Port} (hw : p.waiting.Sublist s.port.waiting)
    (ho : ∃ l, p.outstanding = s.port.outstanding ++ l) (hn : p.nextOp = s.port.nextOp) : s.GrantedTo { s with port := p } :=
  { GrantedTo.refl s with frame := rfl, waiting := hw, outstanding := ho, numbers := hn }

theorem State.grantedTo_withdraw (s : State) (p : Op → Bool) : s.GrantedTo (s.withdraw p) :=
  grantedTo_of_port List.filter_sublist ⟨[], by simp⟩ rfl

theorem State.grantedTo_occupy (s : State) (op : Op) : s.GrantedTo (s.occupy op) :=
  grantedTo_of_port (.refl _) ⟨[op], rfl⟩ rfl

/-- A segment write taken to the card: the buffer is IN FLIGHT, and its bytes may enter the digest (R133, R134). -/
theorem State.grantedTo_grantSegment (s : State) (b i : Nat) : s.GrantedTo (s.grantSegment b i) := by
  unfold grantSegment
  split
  · exact .refl s
  · next phase seg hbuffer =>
    have hb : b < 8 := s.lt_of_buffer_ne_free (by simp [hbuffer])
    have hset : s.GrantedTo (s.setBuffer b (.used .inFlight { seg with writes := setPiece i .outstanding seg.writes, tapped := true })) :=
      { GrantedTo.refl s with
        frame := rfl
        buffers := fun c => by
          rw [buffer_setBuffer _ _ _ _ hb]
          split
          · next hc => rw [hc, hbuffer]; exact ⟨_, _, rfl, rfl, setPiece_shape .., .inr rfl⟩
          · exact .refl _ }
    dsimp only
    split
    · exact hset
    · refine hset.trans { GrantedTo.refl _ with frame := rfl, queue := ?_ }
      refine ⟨fun e => if e.index = seg.take then tapDigest seg.tag seg.data e.digest else e.digest, ?_⟩
      refine List.map_congr_left fun e _ => ?_
      by_cases he : e.index = seg.take <;> simp [he]

theorem State.grantedTo_composeJournal (s : State) (n : Nat) (op : Op) : s.GrantedTo (s.composeJournal n op) := by
  unfold composeJournal
  split
  · refine GrantedTo.trans ?_ (grantedTo_occupy _ _)
    refine { GrantedTo.refl s with
      frame := ?_, slots := fun k => ?_, queue := ⟨fun e => e.digest, by simp⟩
      buffers := fun c => by simpa [buffer] using Buffer.GrantedTo.refl (s.buffer c)
      window := ⟨id, fun _ => .inl rfl, by simp⟩, waiting := by simp, outstanding := ⟨[], by simp⟩, numbers := by simp }
    · simp only [modifyRecord, modifySlot]
      split <;> rfl
    · by_cases hk : k = n
      · refine ⟨fun r => { r with durable := durableFrames r (s.durableBytes n) }, fun r => rfl, ?_⟩
        rw [hk, modifyRecord, slotAt_modifySlot, if_pos rfl]
      · refine ⟨id, fun _ => rfl, ?_⟩
        simp [modifyRecord, slotAt_modifySlot, hk, MirrorEntry.mapRecord_id]
  · exact grantedTo_occupy s op

theorem State.grantedTo_composeHeader (s : State) (op : Op) : s.GrantedTo (s.composeHeader op) := by
  unfold composeHeader
  split
  · exact grantedTo_occupy s _
  · exact grantedTo_occupy s op

theorem WindowEntry.asStood_grantWindow (id : Nat) (x : WindowEntry) : x.AsStood (grantWindow id x) := by
  cases x with
  | waiting op a =>
    simp only [grantWindow]
    split
    · exact .inr ⟨op, a, rfl, rfl⟩
    · exact .inl rfl
  | _ => exact .inl rfl

theorem State.grantedTo_grantOp (s : State) (op : Op) : s.GrantedTo (s.grantOp op) := by
  unfold grantOp
  split
  · exact s.grantedTo_composeJournal ..
  · exact s.grantedTo_composeHeader ..
  · exact (s.grantedTo_occupy op).trans (grantedTo_grantSegment ..)
  · refine (s.grantedTo_occupy op).trans ?_
    exact { GrantedTo.refl _ with frame := rfl, window := ⟨grantWindow op.id, WindowEntry.asStood_grantWindow op.id, rfl⟩ }
  all_goals exact s.grantedTo_occupy op

theorem State.grantedTo_grantOne (s : State) : s.GrantedTo s.grantOne := by
  rcases s.grantOne_cases with ⟨h, -⟩ | ⟨op, -, -, h⟩
  · rw [h]; exact .refl s
  · rw [h]; exact (s.grantedTo_withdraw _).trans (grantedTo_grantOp ..)

theorem State.grantedTo_grant (s : State) : s.GrantedTo s.grant :=
  ((s.grantedTo_grantOne.trans (grantedTo_grantOne _)).trans (grantedTo_grantOne _)).trans (grantedTo_grantOne _)

/-! ### What follows for lookups -/

namespace State.GrantedTo

variable {s t : State} (h : s.GrantedTo t)
include h

theorem slotAt {n : Nat} {sl : MirrorSlot} (hsl : s.slotAt n = some sl) : ∃ sl', t.slotAt n = some sl' ∧ sl' = { sl with entry := sl'.entry } := by
  obtain ⟨g, -, ht⟩ := h.slots n
  exact ⟨_, by rw [ht, hsl]; rfl, rfl⟩

theorem recordAt {n : Nat} {r : Record} (hr : s.recordAt n = some r) : ∃ r', t.recordAt n = some r' ∧ r.SameButDurable r' := by
  obtain ⟨g, hg, ht⟩ := h.slots n
  obtain ⟨sl, hsl, hentry⟩ := Option.bind_eq_some_iff.1 hr
  refine ⟨g r, ?_, hg r⟩
  unfold State.recordAt
  rw [ht, hsl]
  cases he : sl.entry with
  | unreadable => simp [he, MirrorEntry.record?] at hentry
  | record x =>
    rw [he] at hentry
    cases hentry
    simp [he, MirrorEntry.mapRecord, MirrorEntry.record?]

theorem entryOf {n : Nat} {e : QueueEntry} (he : s.entryOf n = some e) : ∃ d, t.entryOf n = some { e with digest := d } := by
  obtain ⟨d, ht⟩ := h.queue
  refine ⟨d e, ?_⟩
  unfold State.entryOf at he ⊢
  rw [ht, List.find?_map]
  simp only [Function.comp_def, he, Option.map_some]

theorem entryOf_none {n : Nat} (he : s.entryOf n = none) : t.entryOf n = none := by
  obtain ⟨d, ht⟩ := h.queue
  unfold State.entryOf at he ⊢
  rw [ht, List.find?_map]
  simp only [Function.comp_def, he, Option.map_none]

theorem queue_length : t.writer.queue.length = s.writer.queue.length := by
  obtain ⟨d, ht⟩ := h.queue
  simp [ht]

theorem buffer_used {c : Nat} {phase : BufferPhase} {seg : Segment} (hc : s.buffer c = .used phase seg) :
    ∃ phase' seg', t.buffer c = .used phase' seg' ∧ seg' = { seg with writes := seg'.writes, tapped := seg'.tapped } := by
  have := h.buffers c
  rw [hc] at this
  obtain ⟨phase', seg', ht, hs, -⟩ := this
  exact ⟨phase', seg', ht, hs⟩

theorem buffer_free {c : Nat} (hc : s.buffer c = .free) : t.buffer c = .free := by
  have := h.buffers c
  rwa [hc] at this

end State.GrantedTo

/-! ### The operations of a numbered port -/

/-- The operation granted is the one picked, but for a block composed at its grant (R85, R111). -/
theorem State.grantOp_occupies (s : State) (op : Op) : ∃ op', op'.id = op.id ∧ op'.kind = op.kind ∧ op'.attempt = op.attempt
    ∧ (∀ b, op.block = some b → op' = op) ∧ (s.grantOp op).port = { s.port with outstanding := s.port.outstanding ++ [op'] } := by
  unfold grantOp
  split
  · unfold composeJournal
    split
    · next hblock _ =>
      dsimp only
      rw [occupy_port, (modifyRecord_frame ..).2.2.2.2.2.1]
      refine ⟨_, ?_, ?_, ?_, ?_, rfl⟩
      iterate 3 rfl
      intro b hb
      rw [hblock] at hb
      cases hb
    · exact ⟨op, rfl, rfl, rfl, fun _ _ => rfl, rfl⟩
  · unfold composeHeader
    split
    · next hblock _ =>
      rw [occupy_port]
      refine ⟨_, ?_, ?_, ?_, ?_, rfl⟩
      iterate 3 rfl
      intro b hb
      rw [hblock] at hb
      cases hb
    · exact ⟨op, rfl, rfl, rfl, fun _ _ => rfl, rfl⟩
  · exact ⟨op, rfl, rfl, rfl, fun _ _ => rfl, by simp⟩
  all_goals exact ⟨op, rfl, rfl, rfl, fun _ _ => rfl, rfl⟩

/-- An operation stands at the port, as it was asked but for a block composed since. -/
def Port.Holds (p : Port) (op : Op) : Prop :=
  ∃ op' ∈ p.waiting ++ p.outstanding, op'.id = op.id ∧ op'.kind = op.kind ∧ op'.attempt = op.attempt ∧ ∀ b, op.block = some b → op' = op

theorem Port.holds_of_mem {p : Port} {op : Op} (h : op ∈ p.waiting ++ p.outstanding) : p.Holds op :=
  ⟨op, h, rfl, rfl, rfl, fun _ _ => rfl⟩

theorem Port.Holds.asked {s : State} {op : Op} (h : s.port.Holds op) : s.Asked op.kind op.attempt := by
  obtain ⟨op', hop', -, hkind, hattempt, -⟩ := h
  exact ⟨op', hop', hkind, hattempt⟩

/-- In a numbered port the number tells the operation. -/
theorem Port.Numbered.eq_of_id {p : Port} (h : p.Numbered) {a b : Op} (ha : a ∈ p.waiting ++ p.outstanding)
    (hb : b ∈ p.waiting ++ p.outstanding) (hid : a.id = b.id) : a = b :=
  List.inj_on_of_nodup_map h.2.2 ha hb hid

theorem State.holds_grantOne {s : State} (h : s.port.Numbered) {op : Op} (hop : s.port.Holds op) : s.grantOne.port.Holds op := by
  obtain ⟨x, hx, hid, hkind, hattempt, hblock⟩ := hop
  rcases s.grantOne_cases with ⟨heq, -⟩ | ⟨picked, -, hpick, heq⟩
  · rw [heq]
    exact ⟨x, hx, hid, hkind, hattempt, hblock⟩
  · obtain ⟨y, hyid, hykind, hyattempt, hyblock, hport⟩ := (s.withdraw fun z => z.id == picked.id).grantOp_occupies picked
    rw [heq, hport]
    by_cases hsame : x.id = picked.id
    · cases h.eq_of_id hx (List.mem_append_left _ (mem_of_pickNext hpick)) hsame
      refine ⟨y, by simp, hyid.trans hid, hykind.trans hkind, hyattempt.trans hattempt, fun b hb => ?_⟩
      exact (hyblock b (hblock b hb ▸ hb)).trans (hblock b hb)
    · refine ⟨x, ?_, hid, hkind, hattempt, hblock⟩
      simp only [withdraw_port, List.mem_append, List.mem_filter, Bool.not_eq_true', beq_eq_false_iff_ne] at hx ⊢
      tauto

theorem State.numbered_grantOne {s : State} (h : s.port.Numbered) : s.grantOne.port.Numbered := (grantOne_port h).1

/-- Every operation at a numbered port stands there after the grants of a step (R120). -/
theorem State.holds_grant {s : State} (h : s.port.Numbered) {op : Op} (hop : s.port.Holds op) : s.grant.port.Holds op := by
  have h1 := numbered_grantOne h
  have h2 := numbered_grantOne h1
  have h3 := numbered_grantOne h2
  exact holds_grantOne h3 (holds_grantOne h2 (holds_grantOne h1 (holds_grantOne h hop)))

theorem State.asked_grant {s : State} (h : s.port.Numbered) {kind : OpKind} {attempt : Nat} (ha : s.Asked kind attempt) :
    s.grant.Asked kind attempt := by
  obtain ⟨op, hop, rfl, rfl⟩ := ha
  exact (holds_grant h (Port.holds_of_mem hop)).asked

theorem Port.Sound.numbered {p : Port} (h : p.Sound) : p.Numbered := ((Port.sound_iff p).1 h).1

theorem State.numbered_release {s : State} (h : s.port.Numbered) (id : Nat) : (s.release id).port.Numbered :=
  h.mono (.refl _) List.filter_sublist le_rfl

/-- An operation just asked stands at the port (R120). -/
theorem State.holds_ask (s : State) (kind : OpKind) (attempt : Nat) (block : Option (List Byte)) (isFinal : Bool) :
    (s.ask kind attempt block isFinal).port.Holds
      { id := s.port.nextOp, kind := kind, attempt := attempt, block := block, isFinal := isFinal } :=
  Port.holds_of_mem (by simp [ask])

theorem State.asked_ask (s : State) (kind : OpKind) (attempt : Nat) (block : Option (List Byte)) (isFinal : Bool) :
    (s.ask kind attempt block isFinal).Asked kind attempt := (s.holds_ask kind attempt block isFinal).asked

end Sys2Proof.Machine

/-! The journal's writes as they are asked (R73, R74, R86–R88, R91), and what the grants of a step leave alone. -/

namespace Sys2Proof.Machine

/-! ### What the grants leave alone (R120) -/

/-- Every slot of the port is taken, or every operation that waits is of such a kind. -/
def Port.Offers (p : Port) (P : OpKind → Prop) : Prop :=
  maxOutstanding ≤ p.outstanding.length ∨ ∀ op ∈ p.waiting, P op.kind

theorem Port.Sound.offers {p : Port} (h : p.Sound) (P : OpKind → Prop) : p.Offers P := by
  obtain ⟨-, hwaiting | hfull, -⟩ := h
  · exact .inr (by simp [hwaiting])
  · exact .inl hfull.ge

theorem Port.Offers.mono {p : Port} {P Q : OpKind → Prop} (h : p.Offers P) (hPQ : ∀ k, P k → Q k) : p.Offers Q :=
  h.imp_right fun hp op hop => hPQ _ (hp op hop)

theorem State.offers_ask {s : State} {P : OpKind → Prop} (h : s.port.Offers P) {kind : OpKind} (hkind : P kind) (attempt : Nat)
    (block : Option (List Byte)) (isFinal : Bool) : (s.ask kind attempt block isFinal).port.Offers P := by
  refine h.imp id fun hp op hop => ?_
  simp only [ask_port, List.mem_append, List.mem_singleton] at hop
  rcases hop with hop | rfl
  · exact hp op hop
  · exact hkind

theorem State.GrantedTo.offers {s t : State} (h : s.GrantedTo t) {P : OpKind → Prop} (hs : s.port.Offers P) : t.port.Offers P := by
  obtain ⟨l, hl⟩ := h.outstanding
  refine hs.imp (fun hfull => ?_) fun hp op hop => hp op (h.waiting.subset hop)
  rw [hl, List.length_append]
  exact hfull.trans (Nat.le_add_right ..)

/-- What every grant of an operation of the kinds offered keeps, the grants of a step keep. -/
theorem State.grant_induct {s : State} {P : OpKind → Prop} {Q : State → Prop} (hoffers : s.port.Offers P)
    (hwithdraw : ∀ (u : State) (p : Op → Bool), Q u → Q (u.withdraw p)) (hgrant : ∀ (u : State) (op : Op), P op.kind → Q u → Q (u.grantOp op))
    (hs : Q s) : Q s.grant := by
  have hone : ∀ u : State, u.port.Offers P → Q u → u.grantOne.port.Offers P ∧ Q u.grantOne := by
    intro u hu hq
    refine ⟨u.grantedTo_grantOne.offers hu, ?_⟩
    rcases u.grantOne_cases with ⟨heq, -⟩ | ⟨op, hroom, hpick, heq⟩
    · rwa [heq]
    · rw [heq]
      rcases hu with hfull | hp
      · exact absurd hroom (not_lt.2 hfull)
      · exact hgrant _ op (hp op (mem_of_pickNext hpick)) (hwithdraw _ _ hq)
  obtain ⟨h1, q1⟩ := hone s hoffers hs
  obtain ⟨h2, q2⟩ := hone _ h1 q1
  obtain ⟨h3, q3⟩ := hone _ h2 q2
  exact (hone _ h3 q3).2

theorem State.slotAt_grantOp_other (s : State) {op : Op} {n : Nat} (h : op.kind ≠ .journalWrite n) :
    (s.grantOp op).slotAt n = s.slotAt n := by
  unfold grantOp
  split
  · next m hk =>
    have hne : n ≠ m := by
      rintro rfl
      exact h hk
    unfold composeJournal
    split
    · show (s.modifyRecord m _).slotAt n = _
      rw [modifyRecord, slotAt_modifySlot, if_neg hne]
    · rfl
  · unfold composeHeader
    split <;> rfl
  · simp [slotAt]
  all_goals rfl

theorem State.slotAt_grant_other {s : State} {n : Nat} (h : s.port.Offers (· ≠ .journalWrite n)) : s.grant.slotAt n = s.slotAt n :=
  grant_induct (Q := fun u => u.slotAt n = s.slotAt n) h (fun _ _ hu => hu) (fun u _ hk hu => (u.slotAt_grantOp_other hk).trans hu) rfl

theorem State.grantOp_writer_other (s : State) {op : Op} (h : op.kind.piece = none) : (s.grantOp op).writer = s.writer := by
  unfold grantOp
  split
  · simp
  · simp
  · next hk =>
    rw [hk] at h
    cases h
  all_goals rfl

theorem State.writer_grant_other {s : State} (h : s.port.Offers (·.piece = none)) : s.grant.writer = s.writer :=
  grant_induct (Q := fun u => u.writer = s.writer) h (fun _ _ hu => hu) (fun u _ hk hu => (u.grantOp_writer_other hk).trans hu) rfl

theorem State.grantOp_verify_other (s : State) {op : Op} (h : op.kind.isVerifyRead = false) : (s.grantOp op).verify = s.verify := by
  unfold grantOp
  split
  · simp
  · simp
  · simp
  · next hk =>
    rw [hk] at h
    cases h
  all_goals rfl

theorem State.verify_grant_other {s : State} (h : s.port.Offers (·.isVerifyRead = false)) : s.grant.verify = s.verify :=
  grant_induct (Q := fun u => u.verify = s.verify) h (fun _ _ hu => hu) (fun u _ hk hu => (u.grantOp_verify_other hk).trans hu) rfl

theorem State.grantOp_journal_other (s : State) {op : Op} (h : op.kind.journalSlot = none) : (s.grantOp op).journal = s.journal := by
  unfold grantOp
  split
  · next hk =>
    rw [hk] at h
    cases h
  · simp
  · simp
  all_goals rfl

theorem State.journal_grant_other {s : State} (h : s.port.Offers (·.journalSlot = none)) : s.grant.journal = s.journal :=
  grant_induct (Q := fun u => u.journal = s.journal) h (fun _ _ hu => hu) (fun u _ hk hu => (u.grantOp_journal_other hk).trans hu) rfl

theorem State.buffer_grantOp_other (s : State) {op : Op} {b : Nat} (h : ∀ i, op.kind ≠ .segmentWrite b i) :
    (s.grantOp op).buffer b = s.buffer b := by
  unfold grantOp
  split
  · simp [buffer]
  · simp [buffer]
  · next c i hk =>
    have hne : b ≠ c := by
      rintro rfl
      exact h i hk
    unfold grantSegment
    split
    · rfl
    · next hbuffer =>
      have hc : c < 8 := State.lt_of_buffer_ne_free (s.occupy op) (by simp [hbuffer])
      dsimp only
      split
      · rw [buffer_setBuffer _ _ _ _ hc, if_neg hne]; rfl
      · show (State.setBuffer c _ _).buffer b = _
        rw [buffer_setBuffer _ _ _ _ hc, if_neg hne]; rfl
  all_goals rfl

theorem State.buffer_grant_other {s : State} {b : Nat} (h : s.port.Offers fun k => ∀ i, k ≠ .segmentWrite b i) :
    s.grant.buffer b = s.buffer b :=
  grant_induct (Q := fun u => u.buffer b = s.buffer b) h (fun _ _ hu => hu) (fun u _ hk hu => (u.buffer_grantOp_other hk).trans hu) rfl

/-! ### The durable frames that a journal write notes at its grant (R85) -/

theorem State.durableBytes_congr {s t : State} {n : Nat} (hentry : (t.entryOf n).map (·.durBytes) = (s.entryOf n).map (·.durBytes))
    (hslot : (t.slotAt n).map (·.keptBytes) = (s.slotAt n).map (·.keptBytes)) : t.durableBytes n = s.durableBytes n := by
  unfold durableBytes
  cases hs : s.entryOf n <;> cases ht : t.entryOf n <;> simp only [hs, ht, Option.map_none, Option.map_some, reduceCtorEq] at hentry
  · cases hs' : s.slotAt n <;> cases ht' : t.slotAt n <;> simp only [hs', ht', Option.map_none, Option.map_some, reduceCtorEq] at hslot
    · rfl
    · exact Option.some.inj hslot
  · exact hentry

theorem State.GrantedTo.durableBytes {s t : State} (h : s.GrantedTo t) (n : Nat) : t.durableBytes n = s.durableBytes n := by
  obtain ⟨d, hqueue⟩ := h.queue
  obtain ⟨g, -, hslot⟩ := h.slots n
  refine durableBytes_congr ?_ ?_
  · unfold State.entryOf
    rw [hqueue, List.find?_map]
    simp only [Option.map_map]
    rfl
  · rw [hslot, Option.map_map]
    rfl

/-- A journal write's durable frames depend on the record's own only when the take has no durable bytes of its own (R85). -/
theorem durableFrames_sameButDurable {r r' : Record} (h : r.SameButDurable r') (bytes : Option Nat)
    (hd : r'.durable = r.durable ∨ r'.durable = durableFrames r bytes) :
    durableFrames r' bytes = r.durable ∨ durableFrames r' bytes = durableFrames r bytes := by
  have hf : r'.frameBytes = r.frameBytes := by rw [h]
  cases bytes with
  | none =>
    simp only [durableFrames] at hd ⊢
    tauto
  | some bytes => exact .inr (by simp only [durableFrames, hf])

/-- The record of a slot after the grants of a step: as it stood, but for the durable frames that a write of it noted (R85). -/
theorem State.recordAt_grant (s : State) {n : Nat} {r : Record} (hr : s.recordAt n = some r) :
    ∃ r', s.grant.recordAt n = some r' ∧ r' = { r with durable := r'.durable }
      ∧ (r'.durable = r.durable ∨ r'.durable = durableFrames r (s.durableBytes n)) := by
  refine (grant_induct (P := fun _ => True) (Q := fun u => u.durableBytes n = s.durableBytes n ∧ ∃ r', u.recordAt n = some r'
    ∧ r' = { r with durable := r'.durable } ∧ (r'.durable = r.durable ∨ r'.durable = durableFrames r (s.durableBytes n)))
    (.inr fun _ _ => trivial) (fun _ _ hu => hu) (fun u op _ hu => ?_) ⟨rfl, r, hr, rfl, .inl rfl⟩).2
  obtain ⟨hbytes, x, hx, hsame, hd⟩ := hu
  refine ⟨((u.grantedTo_grantOp op).durableBytes n).trans hbytes, ?_⟩
  by_cases hk : op.kind = .journalWrite n
  · simp only [grantOp, hk, composeJournal, hx]
    split
    · next hrec =>
      cases hrec
      refine ⟨{ x with durable := durableFrames x (u.durableBytes n) }, ?_, ?_, ?_⟩
      · show (u.modifyRecord n _).recordAt n = _
        rw [recordAt_modifyRecord, if_pos rfl, hx]
        rfl
      · rw [hsame]
      · rw [hbytes]
        exact durableFrames_sameButDurable hsame _ hd
    · exact ⟨x, hx, hsame, hd⟩
  · refine ⟨x, ?_, hsame, hd⟩
    unfold recordAt at hx ⊢
    rw [u.slotAt_grantOp_other hk]
    exact hx

/-! ### A write is asked (R86–R88) -/

theorem State.recordAt_eq_some {s : State} {n : Nat} {r : Record} : s.recordAt n = some r ↔ ∃ sl, s.slotAt n = some sl ∧ sl.entry = .record r := by
  unfold recordAt
  rw [Option.bind_eq_some_iff]
  refine exists_congr fun sl => and_congr_right fun _ => ?_
  cases sl.entry <;> simp [MirrorEntry.record?]

theorem State.askWrite_of_none {s : State} {n : Nat} (h : s.recordAt n = none) : s.askWrite n = s := by
  unfold askWrite
  unfold recordAt at h
  cases hsl : s.slotAt n with
  | none => rfl
  | some sl =>
    rw [hsl] at h
    exact if_pos (.inr (by simpa using h))

section

variable {s : State} {n : Nat} {sl : MirrorSlot} {r : Record} (hsl : s.slotAt n = some sl)
include hsl

theorem State.askWrite_of_held (h : sl.held = true) : s.askWrite n = s := by
  unfold askWrite
  rw [hsl]
  exact if_pos (.inl h)

theorem State.askWrite_of_inFlight (hrecord : sl.entry = .record r) (hheld : sl.held = false) (h : sl.inFlight = true) : s.askWrite n =
    if (s.composedWrite n).isSome then s.modifySlot n fun sl => { sl with amend := true } else s := by
  unfold askWrite
  rw [hsl]
  simp only [hheld, hrecord, MirrorEntry.record?, h, Bool.false_eq_true, Option.isNone_some, or_self, if_false, if_true]

theorem State.askWrite_of_clear (hrecord : sl.entry = .record r) (hheld : sl.held = false) (h : sl.inFlight = false) : s.askWrite n =
    (s.modifySlot n fun sl => { sl with inFlight := true }).askNew (.journalWrite n) := by
  unfold askWrite
  rw [hsl]
  simp only [hheld, hrecord, MirrorEntry.record?, h, Bool.false_eq_true, Option.isNone_some, or_self, if_false]

end

theorem State.composedWrite_isSome (s : State) (n : Nat) : (s.composedWrite n).isSome
    = (s.port.outstanding ++ s.port.waiting).any fun op => op.kind == .journalWrite n && op.block.isSome := by
  rw [composedWrite, List.isSome_find?]

/-- A slot that stands as before, but for its record. -/
def MirrorSlot.SameFlags (a b : MirrorSlot) : Prop := b = { a with entry := b.entry }

theorem State.slotAt_modifyRecord (s : State) (n : Nat) (f : Record → Record) (k : Nat) : (s.modifyRecord n f).slotAt k
    = if k = n then (s.slotAt n).map (fun sl => { sl with entry := sl.entry.mapRecord f }) else s.slotAt k :=
  s.slotAt_modifySlot n k _

/-- What is handed on is seen from any state with the same slot flags and the same port. -/
theorem State.HandsOn.of_sameFlags {s u t : State} {n : Nat} (h : u.HandsOn n t) (hport : u.port = s.port)
    (hslot : ∀ sl, s.slotAt n = some sl → ∃ sl', u.slotAt n = some sl' ∧ sl.SameFlags sl') : s.HandsOn n t := by
  intro sl hsl
  obtain ⟨x, hx, hsame⟩ := hslot sl hsl
  obtain ⟨sl', hsl', h1, h2, h3, h4, h5⟩ := h x hx
  unfold MirrorSlot.SameFlags at hsame
  rw [hsame] at h1 h2 h3 h4 h5
  rw [hport] at h5
  exact ⟨sl', hsl', h1, h2, h3, h4, h5⟩

theorem State.HandsOn.modifyRecord {s t : State} {n : Nat} {f : Record → Record} (h : (s.modifyRecord n f).HandsOn n t) : s.HandsOn n t :=
  h.of_sameFlags (by simp) fun sl hsl =>
    ⟨{ sl with entry := sl.entry.mapRecord f }, by rw [slotAt_modifyRecord, if_pos rfl, hsl]; rfl, rfl⟩

/-- The grants of a step leave what was handed on as it stands (R120). -/
theorem State.HandsOn.grant {s t : State} {n : Nat} (h : s.HandsOn n t) (hport : t.port.Numbered) : s.HandsOn n t.grant := by
  intro sl hsl
  obtain ⟨sl', hsl', h1, h2, h3, h4, h5⟩ := h sl hsl
  obtain ⟨x, hx, hsame⟩ := t.grantedTo_grant.slotAt hsl'
  refine ⟨x, hx, ?_⟩
  rw [hsame]
  refine ⟨h1, h2, h3, h4, fun hheld => ?_⟩
  obtain ⟨h6, h7, h8⟩ := h5 hheld
  exact ⟨h6, fun hclear => ⟨(h7 hclear).1, asked_grant hport (h7 hclear).2⟩, h8⟩

/-- Asking a write hands the record on (R86–R88). -/
theorem State.handsOn_askWrite {s : State} {n : Nat} {r : Record} (hr : s.recordAt n = some r) : s.HandsOn n (s.askWrite n) := by
  obtain ⟨x, hx, hentry⟩ := recordAt_eq_some.1 hr
  intro sl hsl
  cases hx.symm.trans hsl
  cases hheld : x.held with
  | true =>
    rw [askWrite_of_held hsl hheld]
    exact ⟨x, hsl, rfl, hheld, rfl, fun _ => ⟨rfl, rfl⟩, fun h => by simp at h⟩
  | false =>
    cases hflight : x.inFlight with
    | false =>
      rw [askWrite_of_clear hsl hentry hheld hflight]
      refine ⟨{ x with inFlight := true }, ?_, rfl, hheld, rfl, fun h => by simp at h, fun _ => ⟨rfl, fun _ => ⟨rfl, ?_⟩, fun h => by simp at h⟩⟩
      · show (s.modifySlot n _).slotAt n = _
        rw [slotAt_modifySlot, if_pos rfl, hsl]
        rfl
      · exact asked_ask ..
    | true =>
      rw [askWrite_of_inFlight hsl hentry hheld hflight, ← s.composedWrite_isSome n]
      by_cases hcomposed : (s.composedWrite n).isSome = true
      · rw [if_pos hcomposed, hcomposed]
        refine ⟨{ x with amend := true }, ?_, rfl, hheld, rfl, fun h => by simp at h,
          fun _ => ⟨hflight, fun h => by simp at h, fun _ => by simp⟩⟩
        rw [slotAt_modifySlot, if_pos rfl, hsl]
        rfl
      · rw [if_neg hcomposed]
        refine ⟨x, hsl, rfl, hheld, rfl, fun h => by simp at h, fun _ => ⟨hflight, fun h => by simp at h, fun _ => ?_⟩⟩
        simp [Bool.not_eq_true] at hcomposed
        simp [hcomposed]

/-! ### A record is handed on as changed (R73, R74, R87, R91) -/

theorem State.changeRecord_of_none {s : State} {n : Nat} (h : s.recordAt n = none) : s.changeRecord n = s := by
  simp [changeRecord, h]

section

variable {s : State} {n : Nat} {r : Record} (hr : s.recordAt n = some r)
include hr

theorem State.changeRecord_of_open (hcan : s.canWriteJournal = true) (hstate : r.state ≠ .closing) : s.changeRecord n = s.askWrite n := by
  simp [changeRecord, hr, hcan, hstate]

theorem State.changeRecord_of_closing (hcan : s.canWriteJournal = true) (hstate : r.state = .closing) : s.changeRecord n =
    if s.finalOutstanding n then s.modifySlot n fun sl => { sl with amend := true } else s := by
  simp [changeRecord, hr, hcan, hstate]

theorem State.changeRecord_of_barred (hcan : s.canWriteJournal = false) : s.changeRecord n =
    (s.modifyRecord n (·.flag .unsaved)).modifySlot n fun sl => { sl with amend := sl.amend || (s.composedWrite n).isSome } := by
  simp [changeRecord, hr, hcan]

end

theorem State.canWriteJournal_congr {s t : State} (hmedia : t.media = s.media) (hverify : t.verify = s.verify) :
    t.canWriteJournal = s.canWriteJournal := by
  simp only [canWriteJournal, hmedia, hverify]

/-- Asking a write leaves the record, and every other slot. -/
theorem State.slotAt_askWrite (s : State) (n k : Nat) : ∃ i a : MirrorSlot → Bool, (s.askWrite n).slotAt k
    = if k = n then (s.slotAt n).map (fun sl => { sl with inFlight := i sl, amend := a sl }) else s.slotAt k := by
  have hkeep : ∃ i a : MirrorSlot → Bool, s.slotAt k
      = if k = n then (s.slotAt n).map (fun sl => { sl with inFlight := i sl, amend := a sl }) else s.slotAt k := by
    refine ⟨(·.inFlight), (·.amend), ?_⟩
    by_cases hk : k = n
    · subst hk
      simp
    · rw [if_neg hk]
  unfold askWrite
  split
  · exact hkeep
  · split
    · exact hkeep
    · split
      · split
        · exact ⟨(·.inFlight), fun _ => true, s.slotAt_modifySlot ..⟩
        · exact hkeep
      · exact ⟨fun _ => true, (·.amend), s.slotAt_modifySlot ..⟩

theorem State.recordAt_askWrite (s : State) (n k : Nat) : (s.askWrite n).recordAt k = s.recordAt k := by
  obtain ⟨i, a, h⟩ := s.slotAt_askWrite n k
  unfold recordAt
  rw [h]
  by_cases hk : k = n
  · rw [if_pos hk, hk]
    cases s.slotAt n <;> rfl
  · rw [if_neg hk]

theorem State.otherSlotsKept_of {s t : State} {n : Nat} (h : ∀ k, k ≠ n → t.slotAt k = s.slotAt k)
    (hnext : t.journal.nextIndex = s.journal.nextIndex) : s.OtherSlotsKept n t := ⟨h, hnext⟩

theorem State.OtherSlotsKept.trans {s t u : State} {n : Nat} (h : s.OtherSlotsKept n t) (h' : t.OtherSlotsKept n u) : s.OtherSlotsKept n u :=
  ⟨fun k hk => (h'.1 k hk).trans (h.1 k hk), h'.2.trans h.2⟩

theorem State.otherSlotsKept_modifySlot (s : State) (n : Nat) (f : MirrorSlot → MirrorSlot) : s.OtherSlotsKept n (s.modifySlot n f) :=
  ⟨fun k hk => by rw [slotAt_modifySlot, if_neg hk], by simp⟩

theorem State.otherSlotsKept_modifyRecord (s : State) (n : Nat) (f : Record → Record) : s.OtherSlotsKept n (s.modifyRecord n f) :=
  s.otherSlotsKept_modifySlot ..

theorem State.otherSlotsKept_askWrite (s : State) (n : Nat) : s.OtherSlotsKept n (s.askWrite n) := by
  refine ⟨fun k hk => ?_, by simp⟩
  obtain ⟨i, a, h⟩ := s.slotAt_askWrite n k
  rw [h, if_neg hk]

theorem State.otherSlotsKept_changeRecord (s : State) (n : Nat) : s.OtherSlotsKept n (s.changeRecord n) := by
  unfold changeRecord
  split
  · exact ⟨fun _ _ => rfl, rfl⟩
  · split
    · exact (s.otherSlotsKept_modifyRecord ..).trans (State.otherSlotsKept_modifySlot ..)
    · split
      · split
        · exact s.otherSlotsKept_modifySlot ..
        · exact ⟨fun _ _ => rfl, rfl⟩
      · exact s.otherSlotsKept_askWrite n

/-- With a sound port before, the grants after writes of slot `n` were asked leave every other slot. -/
theorem State.otherSlotsKept_grant {s : State} {n : Nat} (h : s.port.Offers (· = .journalWrite n)) : s.OtherSlotsKept n s.grant := by
  refine ⟨fun k hk => slotAt_grant_other (h.mono fun x hx => ?_), by simp⟩
  rw [hx]
  simpa using Ne.symm hk

theorem State.offers_askWrite {s : State} {P : OpKind → Prop} {n : Nat} (h : s.port.Offers P) (hP : P (.journalWrite n)) :
    (s.askWrite n).port.Offers P := by
  unfold askWrite
  split
  · exact h
  · split
    · exact h
    · split
      · split
        · simpa using h
        · exact h
      · exact offers_ask (by simpa using h) hP ..

theorem State.offers_changeRecord {s : State} {P : OpKind → Prop} {n : Nat} (h : s.port.Offers P) (hP : P (.journalWrite n)) :
    (s.changeRecord n).port.Offers P := by
  unfold changeRecord
  split
  · exact h
  · split
    · simpa using h
    · split
      · split
        · simpa using h
        · exact h
      · exact offers_askWrite h hP

theorem State.numbered_askWrite {s : State} (h : s.port.Numbered) (n : Nat) : (s.askWrite n).port.Numbered :=
  (State.Moves.askWrite .refl n).port_numbered h

theorem State.numbered_changeRecord {s : State} (h : s.port.Numbered) (n : Nat) : (s.changeRecord n).port.Numbered :=
  (State.Moves.changeRecord .refl n).port_numbered h

/-- Handing on leaves the record, but for UNSAVED on a card that takes no writes (R73, R91). -/
theorem State.recordAt_changeRecord (s : State) (n k : Nat) : (s.changeRecord n).recordAt k
    = if k = n ∧ s.canWriteJournal = false then (s.recordAt n).map (·.flag .unsaved) else s.recordAt k := by
  cases hr : s.recordAt n with
  | none =>
    rw [changeRecord_of_none hr]
    split
    · next h => rw [h.1, hr]; rfl
    · rfl
  | some r =>
    cases hcan : s.canWriteJournal with
    | false =>
      rw [changeRecord_of_barred hr hcan]
      rw [recordAt_modifySlot]
      · rw [recordAt_modifyRecord, hr]
        by_cases hk : k = n <;> simp [hk]
      · exact fun _ => rfl
    | true =>
      rw [if_neg (by simp)]
      by_cases hstate : r.state = .closing
      · rw [changeRecord_of_closing hr hcan hstate]
        split
        · exact recordAt_modifySlot _ _ _ _ fun _ => rfl
        · rfl
      · rw [changeRecord_of_open hr hcan hstate, recordAt_askWrite]

/-- Handing on a record that is not CLOSING, on a card that takes writes (R73, R86–R88). -/
theorem State.handsOn_changeRecord {s : State} {n : Nat} {r : Record} (hr : s.recordAt n = some r) (hcan : s.canWriteJournal = true)
    (hstate : r.state ≠ .closing) : s.HandsOn n (s.changeRecord n) := by
  rw [changeRecord_of_open hr hcan hstate]
  exact handsOn_askWrite hr

end Sys2Proof.Machine

/-! A change of one record handed on to the journal, and with it MARK, MARK_PULSE and NOTE. -/

namespace Sys2Proof.Machine

variable {s : State} {w : Wire} {f : Frame}

/-! ### A change of one record, handed on -/

/-- After writes of journal slots alone were asked beside a sound port, the grants change the journal and the port alone. -/
theorem State.grant_frame_of_journal {u : State} (h : u.port.Offers fun k => ∃ n, k = .journalWrite n) :
    u.grant = { u with journal := u.grant.journal, port := u.grant.port } := by
  have hwriter : u.grant.writer = u.writer := writer_grant_other (h.mono fun k hk => by obtain ⟨n, rfl⟩ := hk; rfl)
  have hverify : u.grant.verify = u.verify := verify_grant_other (h.mono fun k hk => by obtain ⟨n, rfl⟩ := hk; rfl)
  have hframe := u.grantedTo_grant.frame
  rw [hframe]
  simp only [hwriter, hverify]

theorem State.modifySlot_frame_eq (s : State) (n : Nat) (g : MirrorSlot → MirrorSlot) :
    s.modifySlot n g = { s with journal := (s.modifySlot n g).journal } := by
  unfold modifySlot
  split <;> rfl

theorem State.modifyRecord_frame_eq (s : State) (n : Nat) (g : Record → Record) :
    s.modifyRecord n g = { s with journal := (s.modifyRecord n g).journal } := s.modifySlot_frame_eq ..

theorem State.askWrite_frame_eq (s : State) (n : Nat) :
    s.askWrite n = { s with journal := (s.askWrite n).journal, port := (s.askWrite n).port } := by
  unfold askWrite
  split
  · rfl
  · split
    · rfl
    · split
      · split
        · rw [modifySlot_frame_eq]
        · rfl
      · rw [modifySlot_frame_eq]
        rfl

theorem State.changeRecord_frame_eq (s : State) (n : Nat) :
    s.changeRecord n = { s with journal := (s.changeRecord n).journal, port := (s.changeRecord n).port } := by
  unfold changeRecord
  split
  · rfl
  · split
    · rw [modifySlot_frame_eq, modifyRecord_frame_eq]
    · split
      · split
        · rw [modifySlot_frame_eq]
        · rfl
      · rw [askWrite_frame_eq]

theorem State.modifySlot_modifySlot (s : State) (n : Nat) (g h : MirrorSlot → MirrorSlot) :
    (s.modifySlot n g).modifySlot n h = s.modifySlot n (h ∘ g) := by
  unfold modifySlot
  split
  · rfl
  · simp only [List.modify_modify_eq]

theorem State.modifyRecord_modifyRecord (s : State) (n : Nat) (g h : Record → Record) :
    (s.modifyRecord n g).modifyRecord n h = s.modifyRecord n (h ∘ g) := by
  unfold modifyRecord
  rw [modifySlot_modifySlot]
  congr 1
  funext sl
  simp only [Function.comp_apply, MirrorEntry.mapRecord_mapRecord]

/-- The durable prefix of a take is none of its record's business. -/
theorem State.durableBytes_modifyRecord (s : State) (n k : Nat) (g : Record → Record) :
    (s.modifyRecord n g).durableBytes k = s.durableBytes k := by
  refine durableBytes_congr (by simp [entryOf]) ?_
  rw [slotAt_modifyRecord]
  by_cases hk : k = n
  · rw [if_pos hk, hk, Option.map_map]
    rfl
  · rw [if_neg hk]

theorem State.durableBytes_modifySlot (s : State) (n k : Nat) (g : MirrorSlot → MirrorSlot) (hg : ∀ sl, (g sl).keptBytes = sl.keptBytes) :
    (s.modifySlot n g).durableBytes k = s.durableBytes k := by
  refine durableBytes_congr (by simp [entryOf]) ?_
  rw [slotAt_modifySlot]
  by_cases hk : k = n
  · rw [if_pos hk, hk, Option.map_map]
    congr 1
    funext sl
    exact hg sl
  · rw [if_neg hk]

theorem State.durableBytes_askWrite (s : State) (n k : Nat) : (s.askWrite n).durableBytes k = s.durableBytes k := by
  obtain ⟨i, a, h⟩ := s.slotAt_askWrite n k
  refine durableBytes_congr (by simp [entryOf]) ?_
  rw [h]
  by_cases hk : k = n
  · rw [if_pos hk, hk, Option.map_map]
    rfl
  · rw [if_neg hk]

theorem State.durableBytes_changeRecord (s : State) (n k : Nat) : (s.changeRecord n).durableBytes k = s.durableBytes k := by
  unfold changeRecord
  split
  · rfl
  · split
    · rw [durableBytes_modifySlot]
      · exact durableBytes_modifyRecord ..
      · exact fun _ => rfl
    · split
      · split
        · exact durableBytes_modifySlot _ _ _ _ fun _ => rfl
        · rfl
      · exact s.durableBytes_askWrite n k

/-- A record and one with other slate, marks, flags or joined keys have the same frames and durable frames. -/
theorem durableFrames_congr {r r' : Record} (hframe : r'.frameBytes = r.frameBytes) (hdurable : r'.durable = r.durable) (b : Option Nat) :
    durableFrames r' b = durableFrames r b := by
  cases b <;> simp [durableFrames, hframe, hdurable]

/-- A change of record `n`, handed on beside a sound port (R73, R74, R85–R88, R91): what it leaves of the record, of the other slots
and of every other block. -/
theorem State.handedOn (hport : s.port.Sound) {n : Nat} {r : Record} (hr : s.recordAt n = some r) {g : Record → Record}
    (hframe : (g r).frameBytes = r.frameBytes) (hdurable : (g r).durable = r.durable) :
    ∃ r', (((s.modifyRecord n g).changeRecord n).grant).recordAt n = some r'
      ∧ s.OtherSlotsKept n ((s.modifyRecord n g).changeRecord n).grant
      ∧ r' = { g r with flags := if s.canWriteJournal = true then (g r).flags else setFlag .unsaved (g r).flags, durable := r'.durable }
      ∧ (r'.durable = r.durable ∨ r'.durable = durableFrames r (s.durableBytes n))
      ∧ (s.canWriteJournal = true → (g r).state ≠ .closing → s.HandsOn n ((s.modifyRecord n g).changeRecord n).grant)
      ∧ ((s.modifyRecord n g).changeRecord n).grant = { s with
          journal := ((s.modifyRecord n g).changeRecord n).grant.journal, port := ((s.modifyRecord n g).changeRecord n).grant.port } := by
  have hg : (s.modifyRecord n g).recordAt n = some (g r) := by rw [recordAt_modifyRecord, if_pos rfl, hr]; rfl
  have hcan : (s.modifyRecord n g).canWriteJournal = s.canWriteJournal := canWriteJournal_congr (by simp) (by simp)
  have hbytes : ((s.modifyRecord n g).changeRecord n).durableBytes n = s.durableBytes n :=
    (durableBytes_changeRecord ..).trans (durableBytes_modifyRecord ..)
  have hnum : (s.modifyRecord n g).port.Numbered := by simpa using hport.numbered
  have hoffers : ((s.modifyRecord n g).changeRecord n).port.Offers (· = .journalWrite n) :=
    offers_changeRecord (by simpa using hport.offers _) rfl
  have hrecord : ((s.modifyRecord n g).changeRecord n).recordAt n
      = some { g r with flags := if s.canWriteJournal = true then (g r).flags else setFlag .unsaved (g r).flags } := by
    rw [recordAt_changeRecord, hg, hcan]
    cases s.canWriteJournal <;> simp [Record.flag]
  obtain ⟨r', hr', hsame, hd⟩ := recordAt_grant _ hrecord
  refine ⟨r', hr', ?_, hsame, ?_, fun hcanw hstate => ?_, ?_⟩
  · exact ((s.otherSlotsKept_modifyRecord n g).trans (State.otherSlotsKept_changeRecord _ n)).trans (otherSlotsKept_grant hoffers)
  · refine hd.imp (fun h => h.trans hdurable) fun h => h.trans ?_
    rw [hbytes]
    exact durableFrames_congr hframe hdurable _
  · exact ((handsOn_changeRecord hg (hcan.trans hcanw) hstate).modifyRecord).grant (numbered_changeRecord hnum n)
  · rw [grant_frame_of_journal (hoffers.mono fun k hk => ⟨n, hk⟩)]
    rw [changeRecord_frame_eq, modifyRecord_frame_eq]

/-! ### The open take of a coherent state -/

/-- The open take's record is OPEN, its card takes journal writes, and the station is ROLLING or TAIL (R37, R123, R145). -/
theorem State.Coherent.open_record (h : s.Coherent) {n : Nat} {r : Record} (hopen : s.engine.openTake = some n) (hr : s.recordAt n = some r) :
    r.state = .opened ∧ s.canWriteJournal = true ∧ (s.engine.takeState = .rolling ∨ s.engine.takeState = .tail)
      ∧ ∃ e, s.entryOf n = some e := by
  obtain ⟨⟨hengine, -, -⟩, -, ⟨-, hqueue, hholds⟩, -, hmedia, hblocks, -⟩ := h
  obtain ⟨e, he, hindex⟩ := hholds n hopen
  obtain ⟨-, x, hx, -, hstate⟩ := hqueue e he
  rw [hindex, hr] at hx
  cases hx
  have hne : s.writer.queue ≠ [] := List.ne_nil_of_mem he
  refine ⟨hstate.2 (hindex ▸ hopen), ?_, hengine.1 (by simp [hopen]), ?_⟩
  · have hcard : s.media.state = .ready ∨ s.media.state = .full := by
      by_contra hcard
      exact hne (hmedia (not_or.1 hcard))
    have hslot : s.verify.slot.blocksJournal = false := by
      by_contra hslot
      exact hne (hblocks (by simpa using hslot))
    rcases hcard with hcard | hcard <;> simp [canWriteJournal, hcard, hslot]
  · cases hentry : s.entryOf n with
    | some e => exact ⟨e, rfl⟩
    | none =>
      rw [entryOf, List.find?_eq_none] at hentry
      exact absurd hindex (by simpa using hentry e he)

/-! ### MARK (R32, R75, R76) -/

/-- A marker comes after every marker at or before its frame (R76). -/
theorem insertMarker_spec (m : Marker) (l : List Marker) : ∃ a b, l = a ++ b ∧ insertMarker m l = a ++ m :: b
    ∧ (∀ x ∈ a, x.frame ≤ m.frame) ∧ ∀ x ∈ b.head?, m.frame < x.frame := by
  induction l with
  | nil => exact ⟨[], [], rfl, rfl, by simp, by simp⟩
  | cons y l ih =>
    rw [insertMarker]
    split
    · next hlt => exact ⟨[], y :: l, rfl, rfl, by simp, by simpa using hlt⟩
    · next hge =>
      obtain ⟨a, b, hl, hins, ha, hb⟩ := ih
      refine ⟨y :: a, b, by rw [hl]; rfl, by rw [hins]; rfl, fun x hx => ?_, hb⟩
      rcases List.mem_cons.1 hx with rfl | hx
      · exact not_lt.1 hge
      · exact ha x hx

/-- A record with the flags of a stamp's conversion. -/
theorem Record.pointFlags_eq (pt : Point) (r : Record) : r.pointFlags pt
    = { r with flags := setFlagIf pt.clamped .stampClamped (setFlagIf pt.rateMismatch .rateMismatch r.flags) } := rfl

theorem State.placeMark_eq {n : Nat} {r : Record} (hr : s.recordAt n = some r) (kind origin : Nat) (pt : Point) :
    s.placeMark n kind origin pt = ((s.modifyRecord n (·.pointFlags pt)).insertMark n
      { frame := markerPosition r.start s.intake.position pt.position - r.start, kind := kind, origin := origin }).grant := by
  simp only [placeMark, hr]

/-- What the placing of a marker makes of a record (R76). -/
def Record.marked (pt : Point) (m : Marker) (r : Record) : Record :=
  if r.markers.length < 16 then { r.pointFlags pt with markers := insertMarker m r.markers }
  else if hasFlag r.flags .markersDropped then r.pointFlags pt
  else (r.pointFlags pt).flag .markersDropped

theorem hasFlag_setFlagIf (c : Bool) {g k : TakeFlag} (hne : g ≠ k) (fl : TakeFlags) : hasFlag (setFlagIf c g fl) k = hasFlag fl k := by
  cases c
  · rfl
  · exact hasFlag_setFlag_other hne fl

theorem Record.hasFlag_pointFlags (pt : Point) (r : Record) {k : TakeFlag} (h1 : TakeFlag.stampClamped ≠ k) (h2 : TakeFlag.rateMismatch ≠ k) :
    hasFlag (r.pointFlags pt).flags k = hasFlag r.flags k := by
  rw [pointFlags_eq]
  exact (hasFlag_setFlagIf _ h1 _).trans (hasFlag_setFlagIf _ h2 _)

/-- Setting a flag that is set changes nothing (R82). -/
theorem setFlag_of_hasFlag {k : TakeFlag} {fl : TakeFlags} (h : hasFlag fl k = true) : setFlag k fl = fl := by
  refine BitVec.eq_of_getLsbD_eq fun i hi => ?_
  simp only [setFlag, BitVec.getLsbD_or, BitVec.getLsbD_shiftLeft, hi, decide_true, Bool.true_and]
  by_cases hik : i = k.bit
  · subst hik
    simp [show fl.getLsbD k.bit = true from h]
  · by_cases hlt : i < k.bit
    · simp [hlt]
    · have : ¬ i - k.bit = 0 := by omega
      simp [BitVec.getLsbD_one, this]

theorem Record.marked_spec (pt : Point) (m : Marker) (r : Record) :
    (r.markers.length < 16 → (r.marked pt m).markers = insertMarker m r.markers)
      ∧ (16 ≤ r.markers.length → (r.marked pt m).markers = r.markers)
      ∧ (r.marked pt m).flags = setFlagIf (decide (16 ≤ r.markers.length)) .markersDropped
          (setFlagIf pt.clamped .stampClamped (setFlagIf pt.rateMismatch .rateMismatch r.flags))
      ∧ r.marked pt m = { r with markers := (r.marked pt m).markers, flags := (r.marked pt m).flags } := by
  unfold marked
  by_cases hroom : r.markers.length < 16
  · rw [if_pos hroom]
    exact ⟨fun _ => rfl, fun h => absurd h (not_le.2 hroom), by simp [setFlagIf, not_le.2 hroom, pointFlags_eq], rfl⟩
  · rw [if_neg hroom]
    have hfull := not_lt.1 hroom
    by_cases hset : hasFlag r.flags .markersDropped = true
    · rw [if_pos hset]
      refine ⟨fun h => absurd h hroom, fun _ => rfl, ?_, rfl⟩
      have := setFlag_of_hasFlag ((r.hasFlag_pointFlags pt (k := .markersDropped) (by decide) (by decide)).trans hset)
      simp only [hfull, decide_true, setFlagIf, if_true]
      exact this.symm
    · rw [if_neg hset]
      exact ⟨fun h => absurd h hroom, fun _ => rfl, by simp [setFlagIf, hfull, flag, pointFlags_eq], rfl⟩

/-- The placing of a marker is a change of the record that is handed on, or, at a full list with MARKERS DROPPED set, is not. -/
theorem State.placeMark_cases {n : Nat} {r : Record} (hr : s.recordAt n = some r) (kind origin : Nat) (pt : Point) {m : Marker}
    (hm : m = { frame := markerPosition r.start s.intake.position pt.position - r.start, kind := kind, origin := origin }) :
    ∃ g : Record → Record, g r = r.marked pt m
      ∧ s.placeMark n kind origin pt = (if 16 ≤ r.markers.length ∧ hasFlag r.flags .markersDropped = true then s.modifyRecord n g
        else (s.modifyRecord n g).changeRecord n).grant := by
  have h0 : (s.modifyRecord n (·.pointFlags pt)).recordAt n = some (r.pointFlags pt) := by
    rw [recordAt_modifyRecord, if_pos rfl, hr]; rfl
  have hmarkers : (r.pointFlags pt).markers = r.markers := rfl
  have hflag : hasFlag (r.pointFlags pt).flags .markersDropped = hasFlag r.flags .markersDropped :=
    r.hasFlag_pointFlags pt (by decide) (by decide)
  rw [placeMark_eq hr, ← hm]
  unfold Record.marked
  simp only [insertMark, h0, hmarkers, hflag, maxMarkers]
  by_cases hroom : r.markers.length < 16
  · refine ⟨fun r => { r.pointFlags pt with markers := insertMarker m r.markers }, by rw [if_pos hroom], ?_⟩
    rw [if_pos hroom, if_neg (fun h => absurd hroom (not_lt.2 h.1)), modifyRecord_modifyRecord]
    rfl
  · by_cases hset : hasFlag r.flags .markersDropped = true
    · refine ⟨(·.pointFlags pt), by rw [if_neg hroom, if_pos hset], ?_⟩
      rw [if_neg hroom, if_pos hset, if_pos ⟨not_lt.1 hroom, hset⟩]
    · refine ⟨fun r => (r.pointFlags pt).flag .markersDropped, by rw [if_neg hroom, if_neg hset], ?_⟩
      rw [if_neg hroom, if_neg hset, if_neg (fun h => hset h.2), flagRecord, modifyRecord_modifyRecord]
      rfl

/-- A marker placed in the open take of a coherent state beside a sound port (R76). -/
theorem State.placeMark_spec (hcoherent : s.Coherent) (hport : s.port.Sound) {n : Nat} {r : Record} (hopen : s.engine.openTake = some n)
    (hr : s.recordAt n = some r) (kind origin : Nat) (pt : Point) {m : Marker}
    (hm : m = { frame := markerPosition r.start s.intake.position pt.position - r.start, kind := kind, origin := origin }) :
    ∃ r', (s.placeMark n kind origin pt).recordAt n = some r' ∧ s.OtherSlotsKept n (s.placeMark n kind origin pt)
      ∧ (r.markers.length < 16 ∨ hasFlag r.flags .markersDropped = false → s.HandsOn n (s.placeMark n kind origin pt))
      ∧ (16 ≤ r.markers.length → hasFlag r.flags .markersDropped = true →
          (s.placeMark n kind origin pt).slotAt n = (s.slotAt n).map (fun sl => { sl with entry := .record r' })
            ∧ (s.placeMark n kind origin pt).port = s.port)
      ∧ r' = { r.marked pt m with durable := r'.durable }
      ∧ (r'.durable = r.durable ∨ r'.durable = durableFrames r (s.durableBytes n))
      ∧ s.placeMark n kind origin pt = { s with journal := (s.placeMark n kind origin pt).journal, port := (s.placeMark n kind origin pt).port } := by
  obtain ⟨g, hg, heq⟩ := placeMark_cases hr kind origin pt hm
  obtain ⟨-, -, -, hmarked⟩ := r.marked_spec pt m
  rw [heq]
  by_cases hkept : 16 ≤ r.markers.length ∧ hasFlag r.flags .markersDropped = true
  · rw [if_pos hkept, grant_of_portSound _ (by simpa using hport)]
    refine ⟨g r, by rw [recordAt_modifyRecord, if_pos rfl, hr]; rfl, s.otherSlotsKept_modifyRecord n g, fun h => ?_, fun _ _ => ⟨?_, by simp⟩,
      by rw [hg], .inl (by rw [hg, hmarked]), by rw [modifyRecord_frame_eq]⟩
    · rcases h with h | h
      · exact absurd h (not_lt.2 hkept.1)
      · simp [hkept.2] at h
    · obtain ⟨sl, hsl, hentry⟩ := recordAt_eq_some.1 hr
      rw [slotAt_modifyRecord, if_pos rfl, hsl]
      simp [hentry, MirrorEntry.mapRecord]
  · rw [if_neg hkept]
    obtain ⟨hstate, hcan, -, -⟩ := hcoherent.open_record hopen hr
    obtain ⟨r', hr', hother, hsame, hd, hhands, hframe⟩ := handedOn hport hr (g := g) (by rw [hg, hmarked]) (by rw [hg, hmarked])
    refine ⟨r', hr', hother, fun _ => hhands hcan ?_, fun h1 h2 => absurd ⟨h1, h2⟩ hkept, ?_, hd, hframe⟩
    · rw [hg, hmarked]
      simp [hstate]
    · rw [hcan, if_pos rfl] at hsame
      rw [hsame, hg]

theorem State.openNow_of_coherent (h : s.Coherent) : s.openNow = s.engine.openTake := openNow_eq h.1

/-- Settles O21. -/
theorem markPlacesAMarkerInTheOpenTake : Obligations.MarkPlacesAMarkerInTheOpenTake := by
  intro w s f htaken hcoherent hport
  have hexec : exec (.mark w) s = .next ((s.noteConflict f).takeMark f) := congrArg Host.Outcome.next (s.onFrame_of_taken _ htaken)
  obtain ⟨l, hl⟩ := s.exists_noteConflict f
  have hopenNow : ({ s with link := l } : State).openNow = s.engine.openTake := State.openNow_of_coherent (s := { s with link := l }) hcoherent
  rw [hexec, hl]
  refine ⟨fun hnone => ?_, fun n r hopen hr hkind => ⟨fun k htarget hjoined hholders => ?_, fun pt m htarget hpt hm => ?_⟩⟩
  · unfold State.takeMark
    rw [hopenNow]
    cases hopen : s.engine.openTake with
    | none => rfl
    | some n =>
      have hkind := hnone.resolve_left (by simp [hopen])
      exact congrArg _ (if_neg fun h => absurd h.2 (not_le.2 hkind))
  · unfold State.takeMark
    rw [hopenNow, hopen]
    refine congrArg _ (if_neg fun h => ?_)
    have hr' : ({ s with link := l } : State).recordAt n = some r := hr
    simp [State.markFits, htarget, State.holdsKey, hr', hjoined, hholders] at h
  · have hplace : State.takeMark f { s with link := l } = State.placeMark n (markKind f.payload) f.sender pt { s with link := l } := by
      unfold State.takeMark
      rw [hopenNow, hopen, hpt]
      refine if_pos ⟨?_, hkind⟩
      have hr' : ({ s with link := l } : State).recordAt n = some r := hr
      cases hk : markTarget f.payload with
      | none => rfl
      | some k => simpa [State.markFits, State.holdsKey, hr', hopenNow, hopen] using htarget k hk
    obtain ⟨r', hr', hother, hhands, hkept, hsame, hd, hframe⟩ :=
      State.placeMark_spec (s := { s with link := l }) hcoherent hport hopen hr (markKind f.payload) f.sender pt hm
    obtain ⟨hroom, hfull, hflags, hmarked⟩ := r.marked_spec pt m
    refine ⟨_, r', by rw [hplace], hr', hother, fun h => hhands (.inl h), fun _ h => hhands (.inr h), hkept, fun h => ?_, fun h => ?_, ?_,
      hd, ?_, hframe⟩
    · obtain ⟨a, b, hl, hins, ha, hb⟩ := insertMarker_spec m r.markers
      exact ⟨a, b, hl, by rw [hsame]; exact (hroom h).trans hins, ha, hb⟩
    · rw [hsame]
      exact hfull h
    · rw [hsame]
      exact hflags
    · rw [hsame, hmarked]

/-! ### MARK_PULSE (R49, R52, R77) -/

theorem State.heldFrom_iff (s : State) (edge : Nat) : s.heldFrom edge = true ↔ s.HeldFrom edge := by
  unfold heldFrom HeldFrom
  rw [Bool.and_eq_true, decide_eq_true_eq, decide_eq_true_eq]
  refine and_congr_right fun _ => ?_
  by_cases hfill : edge < s.intake.fillStart
  · simp [hfill, not_le.2 hfill, holdFrames]
  · cases hrate : s.intake.rate <;> simp [hfill, not_lt.1 hfill, holdFrames]

/-- The marker of a pulse has no conversion flags (R77). -/
theorem Record.pointFlags_exact (x : Nat) (r : Record) : r.pointFlags (Point.exact x) = r := rfl

@[simp] theorem Link.station_enqueueTransport (b : TxBody) (l : Link) : (l.enqueueTransport b).station = l.station := by
  unfold enqueueTransport
  (repeat' split) <;> rfl

/-- Settles O22. -/
theorem markPulseQueuesAMarkAndPlacesIt : Obligations.MarkPulseQueuesAMarkAndPlacesIt := by
  intro edge s s1 key hcoherent hport hkey hs1
  have hexec : exec (.markPulse edge) s = .next (if s.engine.markLine.isSome = true ∧ s.heldFrom edge = true then s.pulseMark edge else s) :=
    rfl
  have hnow : ∀ l : Link, ({ s with engine := { s.engine with markLine := some true }, link := l } : State).openNow = s.engine.openTake :=
    fun l => State.openNow_eq hcoherent.1
  have hkey' : (({ s with engine := { s.engine with markLine := some true } } : State).openNow.bind fun n =>
      (({ s with engine := { s.engine with markLine := some true } } : State).recordAt n).map (·.key)) = key := by
    rw [hnow s.link, hkey, State.openKey]
    cases s.engine.openTake <;> rfl
  have hpulse : s.pulseMark edge = match s1.openNow with
      | none => s1
      | some n => s1.placeMark n 0 s1.link.station (Point.exact edge) := by
    unfold State.pulseMark
    simp only [hkey', hs1]
    rfl
  have hopenNow : s1.openNow = s.engine.openTake := by
    rw [hs1]
    exact hnow _
  refine ⟨fun hno => ?_, fun hline hheld => ⟨fun hnone => ?_, fun n r hopen hr => ?_⟩⟩
  · rw [hexec, if_neg]
    rintro ⟨h1, h2⟩
    rcases hno with h | h
    · simp [h] at h1
    · exact h ((s.heldFrom_iff edge).1 h2)
  · refine ⟨by rw [hkey, State.openKey, hnone]; rfl, ?_⟩
    rw [hexec, if_pos ⟨hline, (s.heldFrom_iff edge).2 hheld⟩, hpulse, hopenNow, hnone]
  · refine ⟨hkey.trans (State.openKey_of_open hopen hr), ?_⟩
    have hplace : exec (.markPulse edge) s = .next (s1.placeMark n 0 s1.link.station (Point.exact edge)) := by
      rw [hexec, if_pos ⟨hline, (s.heldFrom_iff edge).2 hheld⟩, hpulse, hopenNow, hopen]
    have hstation : s1.link.station = s.link.station := by rw [hs1]; exact Link.station_enqueueTransport ..
    have hcoherent1 : s1.Coherent := by rw [hs1]; exact hcoherent
    have hport1 : s1.port.Sound := by rw [hs1]; exact hport
    have hopen1 : s1.engine.openTake = some n := by rw [hs1]; exact hopen
    have hr1 : s1.recordAt n = some r := by rw [hs1]; exact hr
    have hintake : s1.intake = s.intake := by rw [hs1]; rfl
    obtain ⟨r', hr', hother, hhands, -, hsame, -, hframe⟩ := State.placeMark_spec hcoherent1 hport1 hopen1 hr1 0 s1.link.station
      (Point.exact edge) rfl
    obtain ⟨hroom, hfull, hflags, hmarked⟩ := r.marked_spec (Point.exact edge)
      { frame := markerPosition r.start s1.intake.position (Point.exact edge).position - r.start, kind := 0, origin := s1.link.station }
    rw [hmarked] at hsame
    have hhands' : s1.HandsOn n (s1.placeMark n 0 s1.link.station (Point.exact edge)) →
        s.HandsOn n (s1.placeMark n 0 s1.link.station (Point.exact edge)) := fun h =>
      h.of_sameFlags (by rw [hs1]; rfl) fun sl hsl => ⟨sl, by rw [hs1]; exact hsl, rfl⟩
    refine ⟨_, r', hplace, hr', ⟨fun k hk => (hother.1 k hk).trans (by rw [hs1]; rfl), hother.2.trans (by rw [hs1]; rfl)⟩,
      fun h => ⟨hhands' (hhands (.inl h)), ?_⟩, fun h => ⟨?_, fun hset => hhands' (hhands (.inr hset))⟩, hframe⟩
    · refine hsame.trans ?_
      rw [hroom h, hflags, hintake, hstation]
      simp [setFlagIf, not_le.2 h, Point.exact]
    · refine hsame.trans ?_
      rw [hfull h, hflags]
      simp [setFlagIf, h, Point.exact]

end Sys2Proof.Machine

/-! NOTE: the take that it names, and what its merge makes of the record. -/

namespace Sys2Proof.Machine

variable {s : State} {w : Wire} {f : Frame}

/-! ### The take named (R67, R68) -/

theorem MediaState.noCard_eq_false {m : MediaState} : m.noCard = false ↔ m ≠ .absent ∧ m ≠ .mounting := by
  cases m <;> simp [noCard]

theorem State.lastTake_of_last (hengine : s.engine.Sound) {found : Option Nat} (h : s.LastTakeIs found) : s.lastTake = found := by
  obtain ⟨hopen, hnone⟩ := h
  unfold lastTake
  rw [openNow_eq hengine]
  cases htake : s.engine.openTake with
  | some n => exact (hopen n htake).symm
  | none =>
    have hnone := hnone htake
    refine Option.ext fun n => ?_
    rw [hnone n]
    dsimp only
    rw [Option.ite_none_right_eq_some, MediaState.noCard_eq_false, Option.some.injEq]
    constructor
    · rintro ⟨⟨⟨h1, h2⟩, h3, h4⟩, rfl⟩
      exact ⟨h1, h2, by omega, by omega, h4⟩
    · rintro ⟨h1, h2, h3, h4, h5⟩
      have hn : s.journal.nextIndex - 1 = n := by omega
      exact ⟨⟨⟨h1, h2⟩, by omega, by rw [hn]; exact h5⟩, hn⟩

/-- The first of a descending list of numbers that a test admits is the greatest that it admits. -/
theorem find?_reverse_range {p : Nat → Bool} {len n : Nat} : ((List.range len).reverse.map (· + 1)).find? p = some n ↔
    1 ≤ n ∧ n ≤ len ∧ p n = true ∧ ∀ m, n < m → m ≤ len → p m = false := by
  induction len with
  | zero => simp; omega
  | succ len ih =>
    rw [List.range_succ, List.reverse_append, List.reverse_singleton, List.singleton_append, List.map_cons, List.find?_cons]
    cases hp : p (len + 1) with
    | true =>
      simp only [Option.some.injEq]
      constructor
      · rintro rfl
        exact ⟨by omega, le_rfl, hp, fun m h1 h2 => by omega⟩
      · rintro ⟨-, hle, -, hlast⟩
        by_contra hne
        have := hlast (len + 1) (by omega) le_rfl
        simp [hp] at this
    | false =>
      simp only [ih]
      constructor
      · rintro ⟨h1, h2, h3, h4⟩
        refine ⟨h1, by omega, h3, fun m hm hle => ?_⟩
        by_cases hm' : m = len + 1
        · rw [hm']; exact hp
        · exact h4 m hm (by omega)
      · rintro ⟨h1, h2, h3, h4⟩
        have hne : n ≠ len + 1 := by
          rintro rfl
          simp [hp] at h3
        exact ⟨h1, by omega, h3, fun m hm hle => h4 m hm (by omega)⟩

theorem State.slotAt_range {n : Nat} {sl : MirrorSlot} (h : s.slotAt n = some sl) : 1 ≤ n ∧ n ≤ s.journal.mirror.length := by
  unfold slotAt at h
  split at h
  · cases h
  · obtain ⟨hlt, -⟩ := List.getElem?_eq_some_iff.1 h
    omega

theorem State.holdsKey_iff (hengine : s.engine.Sound) (k : TakeKey) (n : Nat) : s.holdsKey k n = true ↔ s.HoldsKey k n := by
  unfold holdsKey HoldsKey
  rw [openNow_eq hengine]
  cases s.recordAt n with
  | none => simp
  | some r => simp

theorem State.takeWithKey_of_keyed (hengine : s.engine.Sound) {k : TakeKey} {found : Option Nat} (h : s.KeyedTakeIs k found) :
    s.takeWithKey k = found := by
  refine Option.ext fun n => ?_
  have hrange : ∀ m, s.holdsKey k m = true → 1 ≤ m ∧ m ≤ s.journal.mirror.length := by
    intro m hm
    obtain ⟨r, hr, -⟩ := (holdsKey_iff hengine k m).1 hm
    obtain ⟨sl, hsl, -⟩ := recordAt_eq_some.1 hr
    exact slotAt_range hsl
  rw [h n]
  unfold takeWithKey
  cases hcard : s.media.state.noCard with
  | true =>
    simp only [if_true, reduceCtorEq, false_iff]
    rintro ⟨h1, h2, -⟩
    simp [MediaState.noCard_eq_false.2 ⟨h1, h2⟩] at hcard
  | false =>
    obtain ⟨h1, h2⟩ := MediaState.noCard_eq_false.1 hcard
    rw [if_neg Bool.false_ne_true, find?_reverse_range]
    simp only [← holdsKey_iff hengine]
    constructor
    · rintro ⟨-, -, h5, h6⟩
      refine ⟨h1, h2, h5, fun m hm hk => ?_⟩
      have := h6 m hm (hrange m hk).2
      simp [hk] at this
    · rintro ⟨-, -, h5, h6⟩
      exact ⟨(hrange n h5).1, (hrange n h5).2, h5, fun m hm _ => by simpa using h6 m hm⟩

/-! ### The merge (R69, R73, R74) -/

theorem State.noteTake_of_same {st : SlateStamp} {fs : NoteFields} {n : Nat} {r : Record} (hr : s.recordAt n = some r)
    (h : mergeSlate st fs r.slate = r.slate) : s.noteTake st fs n = s := by
  simp [noteTake, hr, h]

theorem State.noteTake_of_new {st : SlateStamp} {fs : NoteFields} {n : Nat} {r : Record} (hr : s.recordAt n = some r)
    (h : mergeSlate st fs r.slate ≠ r.slate) :
    s.noteTake st fs n = (s.modifyRecord n fun r' => { r' with slate := mergeSlate st fs r.slate }).changeRecord n := by
  simp [noteTake, hr, h]

/-- A final write of a slot stands at the port exactly when the first composed one is final (R87). -/
theorem State.finalOutstanding_of_all (s : State) (n : Nat) :
    ((∀ op ∈ s.port.outstanding ++ s.port.waiting, op.kind = .journalWrite n → op.block.isSome = true → op.isFinal = false) →
      s.finalOutstanding n = false)
    ∧ ((∃ op ∈ s.port.outstanding ++ s.port.waiting, op.kind = .journalWrite n ∧ op.block.isSome = true) →
      (∀ op ∈ s.port.outstanding ++ s.port.waiting, op.kind = .journalWrite n → op.block.isSome = true → op.isFinal = true) →
      s.finalOutstanding n = true) := by
  unfold finalOutstanding
  cases hop : s.composedWrite n with
  | none =>
    refine ⟨fun _ => rfl, ?_⟩
    rintro ⟨op, hmem, hkind, hblock⟩
    rw [composedWrite, List.find?_eq_none] at hop
    simpa [hkind, hblock] using hop op hmem
  | some op =>
    have hmem := List.mem_of_find?_eq_some hop
    have hp := List.find?_some hop
    simp only [Bool.and_eq_true, beq_iff_eq] at hp
    exact ⟨fun h => h op hmem hp.1 hp.2, fun _ h => h op hmem hp.1 hp.2⟩

/-- What a changed record leaves when its own write is not asked: the port, and on a CLOSING take an amendment at most (R73, R87). -/
theorem State.changeRecord_quiet {n : Nat} {r : Record} {g : Record → Record} (hr : s.recordAt n = some r) (hcan : s.canWriteJournal = true)
    (hstate : (g r).state = .closing) : ((s.modifyRecord n g).changeRecord n).port = s.port
      ∧ ∀ sl, s.slotAt n = some sl → ((s.modifyRecord n g).changeRecord n).slotAt n
        = some { sl with entry := .record (g r), amend := sl.amend || s.finalOutstanding n } := by
  have hg : (s.modifyRecord n g).recordAt n = some (g r) := by rw [recordAt_modifyRecord, if_pos rfl, hr]; rfl
  have hcan' : (s.modifyRecord n g).canWriteJournal = true := (canWriteJournal_congr (by simp) (by simp)).trans hcan
  have hfinal : (s.modifyRecord n g).finalOutstanding n = s.finalOutstanding n := by simp [finalOutstanding, composedWrite]
  have hslot : ∀ sl, s.slotAt n = some sl → (s.modifyRecord n g).slotAt n = some { sl with entry := .record (g r) } := by
    intro sl hsl
    obtain ⟨x, hx, hentry⟩ := recordAt_eq_some.1 hr
    cases hx.symm.trans hsl
    rw [slotAt_modifyRecord, if_pos rfl, hsl]
    simp [hentry, MirrorEntry.mapRecord]
  rw [changeRecord_of_closing hg hcan' hstate, hfinal]
  cases s.finalOutstanding n with
  | true =>
    refine ⟨by simp, fun sl hsl => ?_⟩
    rw [if_pos rfl, slotAt_modifySlot, if_pos rfl, hslot sl hsl]
    simp
  | false =>
    refine ⟨by simp, fun sl hsl => ?_⟩
    rw [if_neg Bool.false_ne_true, hslot sl hsl]
    simp

theorem State.changeRecord_barred_port {n : Nat} (s : State) (hcan : s.canWriteJournal = false) : (s.changeRecord n).port = s.port := by
  cases hr : s.recordAt n with
  | none => rw [changeRecord_of_none hr]
  | some r => rw [changeRecord_of_barred hr hcan]; simp

/-- What a NOTE does with the take that it finds. -/
def State.noteFound (note : Note) (f : Frame) (found : Option Nat) (s : State) : State :=
  found.elim s fun n => (State.noteTake { revision := note.revision, station := f.sender } note.fields n s).grant

theorem State.takeNote_of_last {note : Note} (hnote : decodeNote f.payload = some note) (htarget : note.target = .last) :
    s.takeNote f = s.noteFound note f s.lastTake := by
  simp only [takeNote, hnote, htarget, noteFound]
  cases s.lastTake <;> rfl

theorem State.takeNote_of_key {note : Note} {k : TakeKey} (hnote : decodeNote f.payload = some note) (htarget : note.target = .key k) :
    s.takeNote f = s.noteFound note f (s.takeWithKey k) := by
  simp only [takeNote, hnote, htarget, noteFound]
  cases s.takeWithKey k <;> rfl

/-- Settles O23. -/
theorem noteMergesIntoTheSlateItNames : Obligations.NoteMergesIntoTheSlateItNames := by
  refine ⟨fun w s f htaken => ⟨fun hnone => ?_, fun note st hnote htarget hst => ?_⟩,
    fun w s f note htaken hport hnote htarget hengine found hfound => ?_⟩
  · have hexec : exec (.note w) s = .next ((s.noteConflict f).takeNote f) := congrArg Host.Outcome.next (s.onFrame_of_taken _ htaken)
    rw [hexec]
    simp only [State.takeNote, hnone]
  · have hexec : exec (.note w) s = .next ((s.noteConflict f).takeNote f) := congrArg Host.Outcome.next (s.onFrame_of_taken _ htaken)
    obtain ⟨l, hl⟩ := s.exists_noteConflict f
    refine ⟨{ s.noteConflict f with slate := mergeSlate st note.fields s.slate }, ?_, (Slate.merged_iff ..).2 rfl, rfl⟩
    rw [hexec, hl, hst]
    simp only [State.takeNote, hnote, htarget]
  · obtain ⟨l, hl⟩ := s.exists_noteConflict f
    have hexec : exec (.note w) s = .next (State.noteFound note f found (s.noteConflict f)) := by
      refine (congrArg Host.Outcome.next (s.onFrame_of_taken _ htaken)).trans (congrArg Host.Outcome.next ?_)
      rcases hcase : note.target with _ | _ | k
      · exact absurd hcase htarget
      · have hlast : s.LastTakeIs found := by simpa only [hcase] using hfound
        rw [State.takeNote_of_last hnote hcase, hl]
        exact congrArg (State.noteFound note f · _) (State.lastTake_of_last (s := { s with link := l }) hengine hlast)
      · have hkeyed : s.KeyedTakeIs k found := by simpa only [hcase] using hfound
        rw [State.takeNote_of_key hnote hcase, hl]
        exact congrArg (State.noteFound note f · _) (State.takeWithKey_of_keyed (s := { s with link := l }) hengine hkeyed)
    clear hfound
    refine ⟨?_, ?_⟩
    · rintro rfl
      exact hexec
    rintro n r merged rfl hr hmerged
    have hmerge := (Slate.merged_iff ..).1 hmerged
    rw [hexec, hl]
    have hr' : ({ s with link := l } : State).recordAt n = some r := hr
    have hport' : ({ s with link := l } : State).port.Sound := hport
    simp only [State.noteFound, Option.elim_some]
    refine ⟨fun hsame => ?_, fun hne => ?_⟩
    · rw [State.noteTake_of_same hr' (hmerge.symm.trans hsame), State.grant_of_portSound _ hport']
    · rw [State.noteTake_of_new hr' (hmerge ▸ hne), ← hmerge]
      obtain ⟨r', hrec, hother, hrecord, hd, hhands, hframe⟩ := State.handedOn hport' hr' (g := fun r' => { r' with slate := merged }) rfl rfl
      refine ⟨_, r', rfl, hrec, hother, ?_, hd, fun hcan hstate => hhands hcan hstate, fun hcan hstate => ?_, fun hcan => ?_, ?_, hframe⟩
      · rw [hrecord]
      · obtain ⟨hquiet, hslot⟩ := State.changeRecord_quiet (g := fun r' => { r' with slate := merged }) hr' hcan hstate
        have hgrant : ((({ s with link := l } : State).modifyRecord n fun r' => { r' with slate := merged }).changeRecord n).grant
            = (({ s with link := l } : State).modifyRecord n fun r' => { r' with slate := merged }).changeRecord n :=
          State.grant_of_portSound _ (by rw [hquiet]; exact hport)
        rw [hgrant]
        refine ⟨hquiet, fun sl hsl => ⟨_, hslot sl hsl, rfl, fun hall => ?_, fun hex hall => ?_⟩⟩
        · have : ({ s with link := l } : State).finalOutstanding n = false := (State.finalOutstanding_of_all s n).1 hall
          simp [this]
        · have : ({ s with link := l } : State).finalOutstanding n = true := (State.finalOutstanding_of_all s n).2 hex hall
          simp [this]
      · have hcan' : (({ s with link := l } : State).modifyRecord n fun r' => { r' with slate := merged }).canWriteJournal = false :=
          (State.canWriteJournal_congr (by simp) (by simp)).trans hcan
        have hquiet : ((({ s with link := l } : State).modifyRecord n fun r' => { r' with slate := merged }).changeRecord n).port = s.port := by
          rw [State.changeRecord_barred_port _ hcan']
          simp
        rw [State.grant_of_portSound _ (by rw [hquiet]; exact hport), hquiet]
      · rw [hrecord]
        rfl

end Sys2Proof.Machine

/-! OPERATION_TIMEOUT is a failure of its operation: what a number that has left the port tells, and the completion that the timeout equals. -/

namespace Sys2Proof.Machine

/-! ### A number that has left the port does not come back -/

/-- The number has been given, and no operation at the port bears it. -/
def Port.Lacks (id : Nat) (p : Port) : Prop := id < p.nextOp ∧ ∀ op ∈ p.waiting ++ p.outstanding, op.id ≠ id

variable {s t u : State} {id : Nat}

theorem State.lacks_ask (h : s.port.Lacks id) (k : OpKind) (a : Nat) (b : Option (List Byte)) (f : Bool) : (s.ask k a b f).port.Lacks id := by
  obtain ⟨hlt, hnot⟩ := h
  refine ⟨hlt.trans (Nat.lt_succ_self _), fun op hop => ?_⟩
  simp only [State.ask_port, List.append_assoc, List.mem_append, List.mem_singleton] at hop
  rcases hop with hop | rfl | hop
  · exact hnot op (List.mem_append_left _ hop)
  · exact hlt.ne'
  · exact hnot op (List.mem_append_right _ hop)

theorem State.lacks_withdraw (h : s.port.Lacks id) (p : Op → Bool) : (s.withdraw p).port.Lacks id :=
  ⟨h.1, fun op hop => h.2 op ((List.filter_sublist.append (.refl _)).subset hop)⟩

theorem State.Moves.lacks (h : s.Moves t) (hs : s.port.Lacks id) : t.port.Lacks id := by
  refine h.induct (P := fun s => s.port.Lacks id) (fun a b hmove ha => ?_) hs
  cases hmove with
  | beside h => exact h.1 ▸ ha
  | ask => exact lacks_ask ha ..
  | withdraw p => exact lacks_withdraw ha p
  | _ => exact ha

theorem State.lacks_grantOne (h : s.port.Lacks id) : s.grantOne.port.Lacks id := by
  rcases s.grantOne_cases with ⟨heq, -⟩ | ⟨op, -, hpick, heq⟩
  · rwa [heq]
  · obtain ⟨op', hid, -, -, hport⟩ := (s.withdraw fun x => x.id == op.id).grantOp_port op
    obtain ⟨hlt, hnot⟩ := lacks_withdraw h fun x => x.id == op.id
    rw [heq, hport]
    refine ⟨hlt, fun x hx => ?_⟩
    simp only [List.mem_append, List.mem_singleton] at hx
    rcases hx with hx | hx | rfl
    · exact hnot x (List.mem_append_left _ hx)
    · exact hnot x (List.mem_append_right _ hx)
    · exact hid ▸ h.2 op (List.mem_append_left _ (mem_of_pickNext hpick))

theorem State.lacks_grant (h : s.port.Lacks id) : s.grant.port.Lacks id :=
  lacks_grantOne (lacks_grantOne (lacks_grantOne (lacks_grantOne h)))

theorem State.lacks_fillWindow (fuel : Nat) (h : s.port.Lacks id) : (s.fillWindow fuel).port.Lacks id := by
  induction fuel generalizing s with
  | zero => exact h
  | succ fuel ih =>
    unfold fillWindow
    dsimp only
    split
    · exact ih (lacks_ask h ..)
    · exact h

theorem State.lacks_advanceVerify (h : s.port.Lacks id) (who : Requester) (n : Nat) : (s.advanceVerify who n).port.Lacks id := by
  unfold advanceVerify
  dsimp only
  split
  · exact (((Moves.modifyRecord (s := (s.setVerify (s.verify.takePositions windowSize)).setVerify (Verify.released _)) .refl ..).changeRecord
      n).finalReport ..).lacks h
  · exact lacks_fillWindow (s := s.setVerify _) _ h

theorem State.lacks_verifyReadEnded (h : s.port.Lacks id) (block : Option (List Byte)) (op : Op) : (s.verifyReadEnded block op).port.Lacks id := by
  unfold verifyReadEnded
  split
  · split
    · unfold windowReadEnded
      split
      · refine lacks_advanceVerify ?_ ..
        exact h
      · split
        · exact lacks_ask h ..
        · refine lacks_advanceVerify ?_ ..
          exact h
    · exact h
  all_goals exact h

theorem State.lacks_timedOut (h : s.port.Lacks id) (op : Op) : (timedOut op s).port.Lacks id := by
  unfold timedOut
  split
  · exact (Moves.sizeEnded .refl ..).lacks h
  · exact (Moves.headerReadEnded .refl ..).lacks h
  · exact (Moves.slotReadEnded .refl ..).lacks h
  · exact lacks_verifyReadEnded h ..
  · exact (Moves.journalEnded .refl ..).lacks h
  · exact (Moves.headerWriteEnded .refl ..).lacks h
  · exact (Moves.prepareHeaderEnded .refl ..).lacks h
  · exact (Moves.prepareZeroEnded .refl ..).lacks h
  · exact (Moves.segmentFailed .refl ..).lacks h

/-- The slot of an operation that was outstanding is free of its number. -/
theorem State.lacks_release {op : Op} (h : s.port.Numbered) (hop : op ∈ s.port.outstanding) : (s.release op.id).port.Lacks op.id := by
  obtain ⟨-, hids, hnodup⟩ := h
  rw [List.map_append, List.nodup_append'] at hnodup
  refine ⟨hids op (List.mem_append_right _ hop), fun x hx hid => ?_⟩
  rcases List.mem_append.1 hx with hx | hx
  · exact hnodup.2.2 (List.mem_map_of_mem hx) (hid ▸ List.mem_map_of_mem hop)
  · simp [State.release, hid] at hx

/-! ### The operation that a number names -/

/-- At a port whose numbers are unique the number of an outstanding operation finds it, whatever test it meets. -/
theorem State.outstandingOp_of_mem {op : Op} {p : OpKind → Bool} (h : s.port.Numbered) (hop : op ∈ s.port.outstanding) (hp : p op.kind = true) :
    s.outstandingOp op.id p = some op := by
  obtain ⟨x, hx⟩ : ∃ x, s.outstandingOp op.id p = some x :=
    Option.isSome_iff_exists.1 (List.find?_isSome.2 ⟨op, hop, by simp [hp]⟩)
  rw [hx, h.eq_of_id (List.mem_append_right _ (List.mem_of_find?_eq_some hx)) (List.mem_append_right _ hop)
    (beq_iff_eq.1 (Bool.and_eq_true _ _ ▸ List.find?_some hx).1)]

theorem State.outstandingOp_eq_none {p : OpKind → Bool} (h : ∀ o ∈ s.port.outstanding, o.id ≠ id) : s.outstandingOp id p = none :=
  List.find?_eq_none.2 fun op hop => by simp [h op hop]

theorem State.firstBlockOf_release (id b i : Nat) : (s.release id).firstBlockOf b i = s.firstBlockOf b i := rfl

/-- Settles O37: the numbers at the port are unique, so the timeout and the failed completion find the same operation, and each kind's
failure is that of its completion. -/
theorem timeoutIsAFailureOfTheOperation : Obligations.TimeoutIsAFailureOfTheOperation := by
  intro s id op hport
  refine ⟨fun hnone => congrArg Host.Outcome.next (State.complete_of_none s _ (State.outstandingOp_eq_none hnone)), ?_⟩
  rintro hop rfl
  have hnum := hport.numbered
  have hfound {p : OpKind → Bool} (act : Op → State → State) (hp : p op.kind = true) :
      s.complete op.id p act = (act op (s.release op.id)).grant :=
    State.complete_of_outstanding s act (State.outstandingOp_of_mem hnum hop hp)
  refine ⟨_, congrArg Host.Outcome.next (hfound State.timedOut rfl), fun o ho => ?_, ?_⟩
  · exact (State.lacks_grant (State.lacks_timedOut (State.lacks_release hnum hop) op)).2 o (List.mem_append_right _ ho)
  · split
    case h_9 b i hkind =>
      intro hin
      refine congrArg Host.Outcome.next ?_
      have hfits : s.failureFits op.id (some (s.firstBlockOf b i)) = true := by
        unfold State.failureFits
        simp only [State.outstandingOp_of_mem (p := OpKind.isSegmentWrite) hnum hop (by rw [hkind]; rfl), hkind, hin]
      rw [if_pos hfits, hfound _ (by rw [hkind]; rfl)]
      simp only [State.segmentEnded, State.timedOut, hkind, State.firstBlockOf_release]
    all_goals
      next hkind =>
      refine congrArg Host.Outcome.next ((hfound _ (by rw [hkind]; rfl)).trans ?_)
      simp only [State.timedOut, hkind]

end Sys2Proof.Machine

/-! The bytes at an offset of a block, and the two blocks that the card carries: what is written is read back. -/

namespace Sys2Proof.Machine

/-! ### Bytes at an offset -/

/-- The part stands in the bytes at the offset. -/
def BytesAt (bs : List Byte) (off : Nat) (part : List Byte) : Prop := ∃ before after, bs = before ++ (part ++ after) ∧ before.length = off

variable {bs : List Byte} {off : Nat}

theorem bytesAt_self (bs : List Byte) : BytesAt bs 0 bs := ⟨[], [], by simp, rfl⟩

theorem bytesAt_append {p q : List Byte} : BytesAt bs off (p ++ q) ↔ BytesAt bs off p ∧ BytesAt bs (off + p.length) q := by
  constructor
  · rintro ⟨before, after, rfl, rfl⟩
    exact ⟨⟨before, q ++ after, by simp, rfl⟩, before ++ p, after, by simp, by simp⟩
  · rintro ⟨⟨before, after, rfl, rfl⟩, before', after', heq, hlength⟩
    have hsplit : before ++ p = before' ∧ after = q ++ after' := by
      rw [← List.append_assoc] at heq
      exact List.append_inj heq (by simp [hlength])
    obtain ⟨-, rfl⟩ := hsplit
    exact ⟨before, after', by simp, rfl⟩

theorem bytesAt_cons {b : Byte} {p : List Byte} : BytesAt bs off (b :: p) ↔ BytesAt bs off [b] ∧ BytesAt bs (off + 1) p := by
  rw [show b :: p = [b] ++ p from rfl, bytesAt_append]
  rfl

theorem slice_of_bytesAt {part : List Byte} (h : BytesAt bs off part) : slice bs off part.length = part := by
  obtain ⟨before, after, rfl, rfl⟩ := h
  simp [slice]

theorem field_of_le {n v : Nat} (h : BytesAt bs off (le n v)) (hv : v < 256 ^ n) : field bs off n = v := by
  have := slice_of_bytesAt h
  rw [length_le] at this
  rw [field, this, fromLe_le _ _ hv]

theorem field_of_byte {b : Byte} (h : BytesAt bs off [b]) : field bs off 1 = b.toNat := by
  have := slice_of_bytesAt h
  rw [List.length_singleton] at this
  simp [field, this, fromLe]

theorem BytesAt.of_padTo {n : Nat} {part : List Byte} (h : BytesAt bs off (padTo n part)) : BytesAt bs off part :=
  (bytesAt_append.1 h).1

/-- Each entry of a list of entries of one size stands at its place. -/
theorem bytesAt_flatMap {α : Type} {f : α → List Byte} {size : Nat} {l : List α} (hsize : ∀ x ∈ l, (f x).length = size)
    (h : BytesAt bs off (l.flatMap f)) (i : Nat) (hi : i < l.length) : BytesAt bs (off + size * i) (f l[i]) := by
  induction l generalizing off i with
  | nil => simp at hi
  | cons x l ih =>
    rw [List.flatMap_cons, bytesAt_append, hsize x List.mem_cons_self] at h
    cases i with
    | zero => exact h.1
    | succ i =>
      have := ih (fun y hy => hsize y (List.mem_cons_of_mem _ hy)) h.2 i (by simpa using hi)
      rwa [Nat.mul_succ, Nat.add_comm (size * i), ← Nat.add_assoc]

/-- Entries of one size are read back one by one. -/
theorem entriesAt_of_flatMap {α β : Type} {f : α → List Byte} {g : Nat → β} {k : α → β} {size : Nat} {l : List α}
    (hsize : ∀ x ∈ l, (f x).length = size) (hread : ∀ x ∈ l, ∀ o, BytesAt bs o (f x) → g o = k x) (h : BytesAt bs off (l.flatMap f)) :
    entriesAt g off size l.length = l.map k := by
  refine List.ext_getElem (by simp [entriesAt]) fun i hi hi' => ?_
  simp only [entriesAt, List.getElem_map, List.getElem_range]
  have hlt : i < l.length := by simpa using hi'
  exact hread _ (List.getElem_mem hlt) _ (bytesAt_flatMap hsize h i hlt)

theorem length_flatMap_of_size {α : Type} {f : α → List Byte} {size : Nat} (l : List α) (h : ∀ x, (f x).length = size) :
    (l.flatMap f).length = l.length * size := by
  simp [List.length_flatMap, h]

theorem bytesAt_withCheck {body part : List Byte} (h : BytesAt body off part) : BytesAt (withCheck body) off part := by
  obtain ⟨before, after, rfl, hlength⟩ := h
  exact ⟨before, _, by rw [withCheck, padTo, List.append_assoc, List.append_assoc, List.append_assoc], hlength⟩

/-! ### Values of one byte -/

theorem toNat_boolByte (b : Bool) : (boolByte b).toNat = b.toNat := by cases b <;> rfl

theorem toNat_boolByte_le (b : Bool) : (boolByte b).toNat ≤ 1 := by cases b <;> decide

theorem boolByte_beq_one (b : Bool) : ((boolByte b).toNat == 1) = b := by cases b <;> rfl

theorem rateOfByte_byte (c : RateCode) : rateOfByte c.byte = some c := by cases c <;> decide

theorem sampleRateOf_hz (r : SampleRate) : sampleRateOf r.hz = some r := sampleRateOf_eq_some.2 rfl

theorem hz_lt (r : SampleRate) : r.hz < 256 ^ 4 := by cases r <;> decide

/-! ### The profile and the header block (11.4) -/

theorem length_profileBytes (p : Profile) : (profileBytes p).length = 15 := by simp [profileBytes]

theorem profileAtOffset_of_bytesAt {p : Profile} (hp : p.Valid) (h : BytesAt bs off (profileBytes p)) : profileAtOffset bs off = some p := by
  obtain ⟨harm, hpre, hpost, hlow, hhigh, hall, hfollow⟩ := hp
  simp only [profileBytes, bytesAt_append, List.length_append, length_le, List.length_singleton] at h
  obtain ⟨⟨⟨⟨⟨⟨⟨h0, h4⟩, h5⟩, h7⟩, h8⟩, h9⟩, h10⟩, h11⟩ := h
  have hlt (v : Word16) : v.toNat < 256 ^ 2 := v.isLt
  have hlt' (v : Word32) : v.toNat < 256 ^ 4 := v.isLt
  have harm' : p.armMask.toNat ≠ 0 := fun h => harm (BitVec.eq_of_toNat_eq h)
  unfold profileAtOffset
  rw [field_of_le h0 (hz_lt _), field_of_byte h4, field_of_le h5 (hlt _), field_of_byte h7, field_of_le h8 (by omega),
    field_of_le h9 (by omega), field_of_le h10 (by omega), field_of_le h11 (hlt' _)]
  simp only [sampleRateOf_hz, rateOfByte_byte, BitVec.ofNat_toNat, BitVec.setWidth_eq, boolByte_beq_one]
  rw [if_pos ⟨harm', toNat_boolByte_le _, hpre, hpost, hlow, hhigh, hall, hfollow⟩]

theorem length_defectBytes (d : Defect) : (defectBytes d).length = 5 := by simp [defectBytes]

/-- Settles O52: each field of the block stands at the offset at which it is read. -/
theorem headerBlockReadsBack : Obligations.HeaderBlockReadsBack := by
  intro capacity h hcapacity ⟨hlow, hhigh, hprofile, hcount, hblocks⟩
  have hmax : maxDefects = 480 := rfl
  have hlist := length_flatMap_of_size h.defects length_defectBytes
  have hlength : (signature ++ le 2 1 ++ le 2 h.generation ++ profileBytes h.profile ++ [boolByte h.overflowed]
      ++ le 2 h.defects.length ++ h.defects.flatMap defectBytes).length ≤ blockBytes - 4 := by
    simp only [List.length_append, length_le, length_profileBytes, List.length_singleton, hlist, show signature.length = 8 from rfl,
      show blockBytes = 4096 from rfl]
    omega
  refine ⟨length_withCheck _ hlength, ?_⟩
  have hat := bytesAt_withCheck (bytesAt_self (signature ++ le 2 1 ++ le 2 h.generation ++ profileBytes h.profile
    ++ [boolByte h.overflowed] ++ le 2 h.defects.length ++ h.defects.flatMap defectBytes))
  simp only [bytesAt_append, List.length_append, length_le, length_profileBytes, List.length_singleton, show signature.length = 8 from rfl,
    Nat.zero_add, Nat.reduceAdd] at hat
  obtain ⟨⟨⟨⟨⟨⟨h0, h8⟩, h10⟩, h12⟩, h27⟩, h28⟩, h30⟩ := hat
  have hvalid := (defectBlocksValid_iff _ _).1 hblocks
  have hread : ∀ d ∈ h.defects, ∀ o, BytesAt (headerBlock h) o (defectBytes d) →
      (field (headerBlock h) o 4, field (headerBlock h) (o + 4) 1) = (d.block, (boolByte d.grown).toNat) := by
    intro d hd o ho
    simp only [defectBytes, bytesAt_append, length_le] at ho
    have := (hvalid.2 d.block (List.mem_map_of_mem hd)).2
    rw [field_of_le ho.1 (by omega), field_of_byte ho.2]
  have hentries : defectsAtOffset (headerBlock h) 30 h.defects.length = h.defects.map fun d => (d.block, (boolByte d.grown).toNat) :=
    entriesAt_of_flatMap (g := fun o => (field (headerBlock h) o 4, field (headerBlock h) (o + 4) 1))
      (fun d _ => length_defectBytes d) hread h30
  unfold decodeHeader
  rw [← headerBlock] at *
  dsimp only
  rw [field_of_le h10 (by omega), field_of_byte h27, field_of_le h28 (by omega), hentries, field_of_le h8 (by decide),
    profileAtOffset_of_bytesAt hprofile h12, if_pos]
  · simp [boolByte_beq_one, List.map_map, Function.comp_def]
  · refine ⟨slice_of_bytesAt h0, checkMatches_withCheck _ hlength, rfl, hlow, toNat_boolByte_le _, hcount, ?_, ?_⟩
    · simpa [List.map_map, Function.comp_def] using hblocks
    · simp [toNat_boolByte_le]

/-! ### The record block (11.5) -/

theorem length_keyBytes (k : TakeKey) : (keyBytes k).length = 3 := by simp [keyBytes]
theorem length_stampBytes (st : SlateStamp) : (stampBytes st).length = 3 := by simp [stampBytes]
theorem length_labelBytes (l : Label) : (labelBytes l).length = 4 := rfl
theorem length_markerBytes (m : Marker) : (markerBytes m).length = 6 := by simp [markerBytes]
theorem length_noteBytes (n : DefectNote) : (noteBytes n).length = 10 := by cases n <;> simp [noteBytes]
theorem length_extentBytes (e : Extent) : (extentBytes e).length = 8 := by simp [extentBytes]
theorem length_stringField {n : Nat} {s : List Byte} (h : s.length ≤ n) : (stringField n s).length = n + 1 := by
  rw [stringField, List.length_append, length_le, length_padTo n s h, Nat.add_comm]

theorem toNat_ofNat_byte {n : Nat} (h : n < 256) : (BitVec.ofNat 8 n).toNat = n := by
  rw [BitVec.toNat_ofNat]
  exact Nat.mod_eq_of_lt h

theorem field_of_ofNat {n : Nat} (h : BytesAt bs off [BitVec.ofNat 8 n]) (hn : n < 256) : field bs off 1 = n := by
  rw [field_of_byte h, toNat_ofNat_byte hn]

theorem field_of_word {n w : Nat} {v : BitVec w} (h : BytesAt bs off (le n v.toNat)) (hw : 2 ^ w ≤ 256 ^ n) : field bs off n = v.toNat :=
  field_of_le h (v.isLt.trans_le hw)

theorem keyAtOffset_of_bytesAt {k : TakeKey} (hk : k.origin < 256) (h : BytesAt bs off (keyBytes k)) : keyAtOffset bs off = k := by
  rw [keyBytes, bytesAt_cons] at h
  rw [keyAtOffset, field_of_ofNat h.1 hk, field_of_word h.2 (by decide), BitVec.ofNat_toNat, BitVec.setWidth_eq]

theorem stampAtOffset_of_bytesAt {st : SlateStamp} (hst : st.station ≤ 30) (h : BytesAt bs off (stampBytes st)) :
    stampAtOffset bs off = st ∧ field bs (off + 2) 1 ≤ 30 := by
  rw [stampBytes, bytesAt_append, length_le] at h
  rw [stampAtOffset, field_of_word h.1 (by decide), field_of_le h.2 (by omega), BitVec.ofNat_toNat, BitVec.setWidth_eq]
  exact ⟨rfl, hst⟩

theorem labelAtOffset_of_bytesAt {l : Label} {c : RateCode} (hl : labelValid c l = true) (h : BytesAt bs off (labelBytes l)) :
    labelAtOffset bs off = l := by
  have hnominal : c.nominal ≤ 30 := by cases c <;> decide
  simp only [labelValid, Bool.and_eq_true, decide_eq_true_eq] at hl
  obtain ⟨⟨⟨⟨hhh, hmm⟩, hss⟩, hff⟩, -⟩ := hl
  simp only [labelBytes, bytesAt_cons (p := _ :: _)] at h
  obtain ⟨h0, h1, h2, h3⟩ := h
  rw [labelAtOffset, field_of_ofNat h0 (by omega), field_of_ofNat h1 (by omega), field_of_ofNat h2 (by omega), field_of_ofNat h3 (by omega)]

theorem markerAtOffset_of_bytesAt {m : Marker} (hm : m.Valid) (h : BytesAt bs off (markerBytes m)) :
    markerAtOffset bs off = m ∧ field bs (off + 4) 1 = m.kind := by
  obtain ⟨hframe, hkind, horigin⟩ := hm
  simp only [markerBytes, bytesAt_append, List.length_append, length_le] at h
  obtain ⟨⟨h0, h4⟩, h5⟩ := h
  rw [markerAtOffset, field_of_le h0 (by omega), field_of_le h4 (by omega), field_of_le h5 (by omega)]
  exact ⟨rfl, rfl⟩

theorem extentAtOffset_of_bytesAt {e : Extent} (he : e.first < 2 ^ 32 ∧ e.count ≤ 2 ^ 32 - 1) (h : BytesAt bs off (extentBytes e)) :
    extentAtOffset bs off = e := by
  simp only [extentBytes, bytesAt_append, length_le] at h
  rw [extentAtOffset, field_of_le h.1 (by omega), field_of_le h.2 (by omega)]

/-- The kind and lane bytes of a defect note (11.5). -/
def DefectNote.kindAndLane : DefectNote → Nat × Nat
  | .gap _ _ => (0, 0)
  | .dropout lane _ _ => (1, lane)

theorem noteAtOffset_of_bytesAt {n : DefectNote} (hn : n.valid = true) (h : BytesAt bs off (noteBytes n)) :
    noteAtOffset bs off = n ∧ (field bs off 1, field bs (off + 1) 1) = n.kindAndLane := by
  unfold noteAtOffset
  cases n with
  | gap f len =>
    simp only [DefectNote.valid, Bool.and_eq_true, decide_eq_true_eq] at hn
    simp only [noteBytes, List.cons_append, List.nil_append, bytesAt_cons (p := _ :: _), bytesAt_cons (p := _ ++ _), bytesAt_append, length_le] at h
    obtain ⟨h0, h1, h2, h6⟩ := h
    rw [field_of_byte h0, field_of_byte h1, field_of_le h2 (by omega), field_of_le h6 (by omega)]
    exact ⟨rfl, rfl⟩
  | dropout lane f len =>
    simp only [DefectNote.valid, Bool.and_eq_true, decide_eq_true_eq] at hn
    simp only [noteBytes, List.cons_append, List.nil_append, bytesAt_cons (p := _ :: _), bytesAt_cons (p := _ ++ _), bytesAt_append, length_le] at h
    obtain ⟨h0, h1, h2, h6⟩ := h
    rw [field_of_byte h0, field_of_ofNat h1 (by omega), field_of_le h2 (by omega), field_of_le h6 (by omega)]
    exact ⟨rfl, rfl⟩

theorem stringField_of_bytesAt {n : Nat} {s : List Byte} (hs : s.length ≤ n) (hn : n < 256) (h : BytesAt bs off (stringField n s)) :
    field bs off 1 = s.length ∧ slice bs (off + 1) (field bs off 1) = s := by
  rw [stringField, bytesAt_append, length_le] at h
  have hlength : field bs off 1 = s.length := field_of_le h.1 (by omega)
  rw [hlength]
  exact ⟨rfl, slice_of_bytesAt h.2.of_padTo⟩

theorem length_slateBytes {sl : Slate} (h : sl.Fits) : (slateBytes sl).length = 93 := by
  simp only [slateBytes, List.length_append, length_stringField h.1, length_stringField h.2, length_stampBytes, length_le, List.length_singleton]

theorem dispositionOfCode_code (d : Disposition) : dispositionOfCode d.code.toNat = some d ∧ d.code.toNat ≤ 3 := by cases d <;> decide

theorem laneCount_le (m : Word16) : laneCount m ≤ 16 := (List.length_filter_le _ _).trans (by simp)

theorem trackCount_le (m : Word16) (mix : Bool) : trackCount m mix ≤ 18 := by
  have := laneCount_le m
  unfold trackCount
  split <;> omega

theorem cardStateOfCode_code {st : RecordState} (h : st ≠ .closing) : cardStateOfCode st.code.toNat = some st := by
  cases st with
  | closing => exact absurd rfl h
  | _ => rfl

end Sys2Proof.Machine

/-! The record block reads back. -/

namespace Sys2Proof.Machine

/-- Each field of the record stands in the bytes at its offset (11.5). -/
structure Record.WrittenIn (bs : List Byte) (r : Record) : Prop where
  index : BytesAt bs 0 (le 2 r.index)
  generation : BytesAt bs 2 (le 2 r.generation)
  state : BytesAt bs 4 [r.state.code]
  flags : BytesAt bs 5 (le 4 r.flags.toNat)
  key : BytesAt bs 9 (keyBytes r.key)
  continues : BytesAt bs 12 (le 2 (r.continues.getD 0))
  start : BytesAt bs 14 (le 6 r.start)
  stop : BytesAt bs 20 (le 6 (r.stop.getD 0))
  startLabel : BytesAt bs 26 (labelBytes r.startLabel)
  labelRate : BytesAt bs 30 [r.labelRate.byte]
  recorded : BytesAt bs 31 (le 6 r.recorded)
  lost : BytesAt bs 37 (le 6 r.lost)
  durable : BytesAt bs 43 (le 6 r.durable)
  armed : BytesAt bs 49 (le 2 r.armed.toNat)
  mixPresent : BytesAt bs 51 [boolByte r.mixPresent]
  rate : BytesAt bs 52 (le 4 r.rate.hz)
  frameBytes : BytesAt bs 56 (le 1 r.frameBytes)
  digest : BytesAt bs 57 (le 4 (r.digest.getD 0).toNat)
  clipCount : BytesAt bs 61 (le 2 r.clipCount)
  peaks : BytesAt bs 63 (r.peaks.flatMap (le 3))
  joinedCount : BytesAt bs 117 (le 1 r.joined.length)
  joined : BytesAt bs 118 (r.joined.flatMap keyBytes)
  slate : BytesAt bs 142 (slateBytes r.slate)
  markerCount : BytesAt bs 235 (le 1 r.markers.length)
  markers : BytesAt bs 236 (r.markers.flatMap markerBytes)
  noteCount : BytesAt bs 332 (le 1 r.notes.length)
  notes : BytesAt bs 333 (r.notes.flatMap noteBytes)
  extentCount : BytesAt bs 493 (le 1 r.extents.length)
  extents : BytesAt bs 494 (r.extents.flatMap extentBytes)

/-- Each field of the slate stands in the bytes at its offset (11.5). -/
structure Slate.WrittenIn (bs : List Byte) (sl : Slate) : Prop where
  scene : BytesAt bs 142 (stringField 8 sl.scene)
  sceneStamp : BytesAt bs 151 (stampBytes sl.sceneStamp)
  number : BytesAt bs 154 (le 2 sl.number)
  numberStamp : BytesAt bs 156 (stampBytes sl.numberStamp)
  circled : BytesAt bs 159 [boolByte sl.circled]
  circledStamp : BytesAt bs 160 (stampBytes sl.circledStamp)
  disposition : BytesAt bs 163 [sl.disposition.code]
  dispositionStamp : BytesAt bs 164 (stampBytes sl.dispositionStamp)
  text : BytesAt bs 167 (stringField 64 sl.text)
  textStamp : BytesAt bs 232 (stampBytes sl.textStamp)

variable {bs : List Byte} {r : Record} {capacity : Nat}

theorem Slate.writtenIn {sl : Slate} (hfits : sl.Fits) (h : BytesAt bs 142 (slateBytes sl)) : sl.WrittenIn bs := by
  simp only [slateBytes, bytesAt_append, List.length_append, length_le, length_stampBytes, length_stringField hfits.1, length_stringField hfits.2,
    List.length_singleton, Nat.reduceAdd] at h
  obtain ⟨⟨⟨⟨⟨⟨⟨⟨⟨h142, h151⟩, h154⟩, h156⟩, h159⟩, h160⟩, h163⟩, h164⟩, h167⟩, h232⟩ := h
  exact ⟨h142, h151, h154, h156, h159, h160, h163, h164, h167, h232⟩

theorem Slate.WrittenIn.slateAtOffset_eq {sl : Slate} (h : sl.WrittenIn bs) (hsl : sl.Valid) : slateAtOffset bs = sl := by
  obtain ⟨⟨hscene, htext⟩, hnumber, hstamps⟩ := hsl
  simp only [List.forall_mem_cons, List.not_mem_nil, false_implies, implies_true, and_true] at hstamps
  obtain ⟨h1, h2, h3, h4, h5⟩ := hstamps
  unfold slateAtOffset
  rw [(stringField_of_bytesAt hscene (by decide) h.scene).2, (stampAtOffset_of_bytesAt h1 h.sceneStamp).1, field_of_le h.number (by omega),
    (stampAtOffset_of_bytesAt h2 h.numberStamp).1, field_of_byte h.circled, boolByte_beq_one, (stampAtOffset_of_bytesAt h3 h.circledStamp).1,
    field_of_byte h.disposition, (dispositionOfCode_code _).1, (stampAtOffset_of_bytesAt h4 h.dispositionStamp).1,
    (stringField_of_bytesAt htext (by decide) h.text).2, (stampAtOffset_of_bytesAt h5 h.textStamp).1, Option.getD_some]

/-- The lists of a record that fits take no more than their places. -/
theorem Record.Fits.lengths (hfits : r.Fits) (hpeaks : r.peaks.length = trackCount r.armed r.mixPresent) :
    (r.peaks.flatMap (le 3)).length ≤ 54 ∧ (r.joined.flatMap keyBytes).length ≤ 24 ∧ (r.markers.flatMap markerBytes).length ≤ 96
      ∧ (r.notes.flatMap noteBytes).length ≤ 160 ∧ (r.extents.flatMap extentBytes).length ≤ 512 := by
  obtain ⟨hmarkers, hnotes, hjoined, hextents, -⟩ := hfits
  have htracks := trackCount_le r.armed r.mixPresent
  have h1 : maxMarkers = 16 := rfl
  have h2 : maxNotes = 16 := rfl
  have h3 : maxJoined = 8 := rfl
  have h4 : maxExtents = 64 := rfl
  rw [length_flatMap_of_size _ (length_le 3), length_flatMap_of_size _ length_keyBytes, length_flatMap_of_size _ length_markerBytes,
    length_flatMap_of_size _ length_noteBytes, length_flatMap_of_size _ length_extentBytes]
  omega

/-- The record block is a body with its check value, in which each field stands at its offset. -/
theorem recordBlock_spec (hfits : r.Fits) (hpeaks : r.peaks.length = trackCount r.armed r.mixPresent) :
    (∃ body, body.length ≤ blockBytes - 4 ∧ recordBlock r = withCheck body) ∧ r.WrittenIn (recordBlock r) := by
  obtain ⟨hp, hj, hm, hn, he⟩ := hfits.lengths hpeaks
  have hslate := length_slateBytes hfits.2.2.2.2
  have hat : BytesAt (recordBlock r) 0 _ := bytesAt_withCheck (bytesAt_self _)
  simp only [bytesAt_append, List.length_append, length_le, length_keyBytes, length_labelBytes, hslate, length_padTo _ _ hp,
    length_padTo _ _ hj, length_padTo _ _ hm, length_padTo _ _ hn, List.length_singleton, Nat.zero_add, Nat.reduceAdd] at hat
  refine ⟨⟨_, ?_, rfl⟩, ?_⟩
  · simp only [List.length_append, length_le, length_keyBytes, length_labelBytes, hslate, length_padTo _ _ hp,
      length_padTo _ _ hj, length_padTo _ _ hm, length_padTo _ _ hn, length_padTo _ _ he, List.length_singleton]
    decide
  · obtain ⟨⟨⟨⟨⟨⟨⟨⟨⟨⟨⟨⟨⟨⟨⟨⟨⟨⟨⟨⟨⟨⟨⟨⟨⟨⟨⟨⟨h0, h2⟩, h4⟩, h5⟩, h9⟩, h12⟩, h14⟩, h20⟩, h26⟩, h30⟩, h31⟩, h37⟩, h43⟩, h49⟩, h51⟩, h52⟩, h56⟩,
      h57⟩, h61⟩, h63⟩, h117⟩, h118⟩, h142⟩, h235⟩, h236⟩, h332⟩, h333⟩, h493⟩, h494⟩ := hat
    exact ⟨h0, h2, h4, h5, h9, h12, h14, h20, h26, h30, h31, h37, h43, h49, h51, h52, h56, h57, h61, h63.of_padTo, h117, h118.of_padTo,
      h142, h235, h236.of_padTo, h332, h333.of_padTo, h493, h494.of_padTo⟩

/-- The relations between the fields of a record within its ranges (R198). -/
theorem recordConsistent_of_valid (h : r.Valid capacity) : recordConsistent capacity r = true := by
  obtain ⟨-, -, -, -, -, -, -, -, hend, hlabel, hdurable, hlimit, -, hbytes, -, -, -, -, -, -, -, -, -, hextents⟩ := h
  simp only [recordConsistent, Bool.and_eq_true, decide_eq_true_eq, List.all_eq_true]
  refine ⟨⟨⟨⟨⟨hlabel, hbytes⟩, hdurable⟩, hlimit⟩, fun e he => ?_⟩, ?_⟩
  · obtain ⟨hcount, hfirst, hlast⟩ := hextents e he
    exact ⟨⟨hcount, hfirst⟩, hlast⟩
  · unfold Record.EndValid at hend
    cases hsettled : r.state.settled with
    | false => rfl
    | true =>
      rw [if_pos hsettled] at hend
      obtain ⟨-, hall, stop, hstop, hle, -, hsum⟩ := hend
      rw [Option.mem_def.1 hstop]
      simp [hle, hsum, hall]

theorem recordRangesOk_of_writtenIn (hw : r.WrittenIn bs) (h : r.Valid capacity) : recordRangesOk bs = true := by
  obtain ⟨hlow, hhigh, hgen, hgen', -, horigin, hcontinues, -, -, -, -, -, harmed, -, -, -, -, hfits, hjoined, -, hslate, hmarkers, hnotes, -⟩ := h
  obtain ⟨hmarkerCount, hnoteCount, hjoinedCount, hextentCount, hscene, htext⟩ := hfits
  have hsw := Slate.writtenIn hslate.1 hw.slate
  have h1 : maxMarkers = 16 := rfl
  have h2 : maxNotes = 16 := rfl
  have h3 : maxJoined = 8 := rfl
  have h4 : maxExtents = 64 := rfl
  have h5 : journalSlots = 4096 := rfl
  have hkey : BytesAt bs 9 [BitVec.ofNat 8 r.key.origin] := by
    have := hw.key
    rw [keyBytes, bytesAt_cons] at this
    exact this.1
  have hprev : r.continues.getD 0 < r.index := by
    cases hc : r.continues with
    | none => exact hlow
    | some n => exact (hcontinues n hc).2
  have hkinds : entriesAt (fun o => field bs (o + 4) 1) 236 6 r.markers.length = r.markers.map (·.kind) :=
    entriesAt_of_flatMap (fun m _ => length_markerBytes m) (fun m hm o ho => (markerAtOffset_of_bytesAt (hmarkers m hm) ho).2) hw.markers
  have hlanes : entriesAt (fun o => (field bs o 1, field bs (o + 1) 1)) 333 10 r.notes.length = r.notes.map DefectNote.kindAndLane :=
    entriesAt_of_flatMap (fun n _ => length_noteBytes n) (fun n hn o ho => (noteAtOffset_of_bytesAt (hnotes n hn) ho).2) hw.notes
  have hstamps := hslate.2.2
  simp only [List.forall_mem_cons, List.not_mem_nil, false_implies, implies_true, and_true] at hstamps
  obtain ⟨ht1, ht2, ht3, ht4, ht5⟩ := hstamps
  have harmed' : r.armed.toNat ≠ 0 := fun h => harmed (BitVec.eq_of_toNat_eq h)
  have hflags : r.flags.toNat < 2 ^ 13 := r.flags.isLt
  have hjoinedPos := List.length_pos_of_ne_nil hjoined
  unfold recordRangesOk
  simp only [field_of_le hw.index (by omega), field_of_le hw.generation (by omega), field_of_le hw.flags (by omega), field_of_ofNat hkey (by omega),
    field_of_le hw.continues (by omega), field_of_byte hw.mixPresent, field_of_word hw.armed (by decide), field_of_le hw.joinedCount (by omega),
    field_of_le hw.markerCount (by omega), field_of_le hw.noteCount (by omega), field_of_le hw.extentCount (by omega),
    (stringField_of_bytesAt hscene (by decide) hsw.scene).1, (stringField_of_bytesAt htext (by decide) hsw.text).1, field_of_byte hsw.circled,
    field_of_byte hsw.disposition, hkinds, hlanes, List.all_cons, List.all_nil, (stampAtOffset_of_bytesAt ht1 hsw.sceneStamp).2,
    (stampAtOffset_of_bytesAt ht2 hsw.numberStamp).2, (stampAtOffset_of_bytesAt ht3 hsw.circledStamp).2,
    (stampAtOffset_of_bytesAt ht4 hsw.dispositionStamp).2, (stampAtOffset_of_bytesAt ht5 hsw.textStamp).2, Bool.and_eq_true, decide_eq_true_eq,
    List.all_map, List.all_eq_true, Function.comp_apply, Bool.or_eq_true, decide_true, and_true]
  have hlane : ∀ n ∈ r.notes, n.kindAndLane.1 = 0 ∨ n.kindAndLane.1 = 1 ∧ n.kindAndLane.2 ≤ 15 := by
    intro n hn
    have hvalid := hnotes n hn
    cases n with
    | gap => exact .inl rfl
    | dropout lane =>
      simp only [DefectNote.valid, Bool.and_eq_true, decide_eq_true_eq] at hvalid
      exact .inr ⟨rfl, hvalid.1.1⟩
  refine ⟨⟨?_, fun m hm => (hmarkers m hm).2.1⟩, hlane⟩
  have hmix := toNat_boolByte_le r.mixPresent
  have hcircled := toNat_boolByte_le r.slate.circled
  have hcode := (dispositionOfCode_code r.slate.disposition).2
  simp only [and_assoc]
  exact ⟨hlow, hhigh, hgen, hflags, horigin, hprev, hmix, harmed', hjoinedPos, hjoinedCount, hmarkerCount, hnoteCount, hextentCount, hscene,
    htext, hcircled, hcode⟩

/-- The slot's record, read field by field. -/
theorem decodeRecord_of_writtenIn (hw : r.WrittenIn bs) (h : r.Valid capacity) (hcapacity : capacity ≤ 2 ^ 32) (hcheck : checkMatches bs = true) :
    decodeRecord capacity bs = some r := by
  have hranges := recordRangesOk_of_writtenIn hw h
  have hconsistent := recordConsistent_of_valid h
  obtain ⟨hlow, hhigh, hgen, hgen', hstate, horigin, hcontinues, hstart, hend, hlabel, hdurable, hlimit, harmed, hframeBytes, hpeaks, hpeak, hclip,
    hfits, hjoined, hjoinedKeys, hslate, hmarkers, hnotes, hextents⟩ := h
  obtain ⟨hmarkerCount, hnoteCount, hjoinedCount, hextentCount, hscene, htext⟩ := hfits
  have hsw := Slate.writtenIn hslate.1 hw.slate
  have h1 : maxMarkers = 16 := rfl
  have h2 : maxNotes = 16 := rfl
  have h3 : maxJoined = 8 := rfl
  have h4 : maxExtents = 64 := rfl
  have h5 : journalSlots = 4096 := rfl
  have h6 : positionLimit = 256 ^ 6 := rfl
  have htracks := trackCount_le r.armed r.mixPresent
  have hprev : r.continues.getD 0 < r.index := by
    cases hc : r.continues with
    | none => exact hlow
    | some n => exact (hcontinues n hc).2
  have hflags : r.flags.toNat < 256 ^ 4 := r.flags.isLt.trans (by decide)
  have hbytes : r.frameBytes < 256 := by
    rw [hframeBytes, frameBytesOf]
    omega
  have hentries : entriesAt (fun o => field bs o 3) 63 3 (trackCount r.armed r.mixPresent) = r.peaks := by
    rw [← hpeaks, entriesAt_of_flatMap (k := id) (fun _ _ => length_le ..) (fun p hp o ho => field_of_le ho (hpeak p hp)) hw.peaks, List.map_id]
  have hkeys : entriesAt (keyAtOffset bs) 118 3 r.joined.length = r.joined := by
    rw [entriesAt_of_flatMap (k := id) (fun k _ => length_keyBytes k) (fun k hk o ho => keyAtOffset_of_bytesAt (hjoinedKeys k hk) ho) hw.joined,
      List.map_id]
  have hmarkerList : entriesAt (markerAtOffset bs) 236 6 r.markers.length = r.markers := by
    rw [entriesAt_of_flatMap (k := id) (fun m _ => length_markerBytes m) (fun m hm o ho => (markerAtOffset_of_bytesAt (hmarkers m hm) ho).1)
      hw.markers, List.map_id]
  have hnoteList : entriesAt (noteAtOffset bs) 333 10 r.notes.length = r.notes := by
    rw [entriesAt_of_flatMap (k := id) (fun n _ => length_noteBytes n) (fun n hn o ho => (noteAtOffset_of_bytesAt (hnotes n hn) ho).1)
      hw.notes, List.map_id]
  have hextentList : entriesAt (extentAtOffset bs) 494 8 r.extents.length = r.extents := by
    have hfit : ∀ e ∈ r.extents, e.first < 2 ^ 32 ∧ e.count ≤ 2 ^ 32 - 1 := fun e he => by
      obtain ⟨he1, he2, he3⟩ := hextents e he
      have : audioFirst = 4097 := rfl
      omega
    rw [entriesAt_of_flatMap (k := id) (fun e _ => length_extentBytes e) (fun e he o ho => extentAtOffset_of_bytesAt (hfit e he) ho) hw.extents,
      List.map_id]
  have hprevious : (if r.continues.getD 0 = 0 then none else some (r.continues.getD 0)) = r.continues := by
    cases hc : r.continues with
    | none => rfl
    | some n =>
      have := (hcontinues n hc).1
      rw [Option.getD_some, if_neg (by omega)]
  have hstop : r.stop.getD 0 < 256 ^ 6 ∧ (if r.state.settled then some (r.stop.getD 0) else none) = r.stop
      ∧ (if r.state.settled then some (r.digest.getD 0) else none) = r.digest := by
    unfold Record.EndValid at hend
    split at hend
    · next hsettled =>
      obtain ⟨hdigest, -, stop, hstop, -, hlt, -⟩ := hend
      obtain ⟨d, hd⟩ := Option.isSome_iff_exists.1 hdigest
      rw [Option.mem_def.1 hstop, hd]
      simp [hsettled, ← h6, hlt]
    · next hsettled =>
      rw [hend.1, hend.2]
      simp [hsettled]
  obtain ⟨hstopLt, hstopEq, hdigestEq⟩ := hstop
  unfold decodeRecord
  simp only [field_of_byte hw.state, cardStateOfCode_code hstate, field_of_byte hw.labelRate, BitVec.ofNat_toNat, BitVec.setWidth_eq,
    rateOfByte_byte, field_of_le hw.rate (hz_lt _), sampleRateOf_hz]
  simp only [field_of_le hw.index (by omega), field_of_le hw.generation (by omega), keyAtOffset_of_bytesAt (by omega) hw.key,
    field_of_le hw.continues (by omega), hprevious, field_of_le hw.flags hflags, field_of_le hw.start (by omega), field_of_le hw.stop hstopLt,
    hstopEq, labelAtOffset_of_bytesAt hlabel hw.startLabel, field_of_le hw.recorded (by omega), field_of_le hw.lost (by omega),
    field_of_le hw.durable (by omega), field_of_word hw.armed (by decide), field_of_byte hw.mixPresent, boolByte_beq_one,
    field_of_le hw.frameBytes (by omega), field_of_word hw.digest (by decide), BitVec.ofNat_toNat, BitVec.setWidth_eq, hdigestEq, hentries,
    field_of_le hw.clipCount (by omega), field_of_le hw.joinedCount (by omega), hkeys, hsw.slateAtOffset_eq hslate,
    field_of_le hw.markerCount (by omega), hmarkerList, field_of_le hw.noteCount (by omega), hnoteList, field_of_le hw.extentCount (by omega),
    hextentList]
  rw [if_pos ⟨hcheck, hranges, hconsistent⟩]

/-- A block whose first two bytes spell an index is neither all 0 nor all 0xFF. -/
theorem blankBlock_eq_false (h : r.WrittenIn bs) (hlow : 1 ≤ r.index) (hhigh : r.index ≤ journalSlots) : blankBlock bs = false := by
  have hslots : journalSlots = 4096 := rfl
  obtain ⟨before, after, rfl, hbefore⟩ := h.index
  obtain rfl := List.eq_nil_of_length_eq_zero hbefore
  have h0 : BitVec.ofNat 8 r.index ≠ 0 ∨ BitVec.ofNat 8 (r.index / 256) ≠ 0 := by
    rw [ne_eq, ne_eq, ← BitVec.toNat_inj, ← BitVec.toNat_inj, BitVec.toNat_ofNat, BitVec.toNat_ofNat]
    simp
    omega
  have h1 : BitVec.ofNat 8 (r.index / 256) ≠ 0xFF := by
    rw [ne_eq, ← BitVec.toNat_inj, BitVec.toNat_ofNat]
    simp
    omega
  simp only [blankBlock, le, List.nil_append, List.cons_append, List.all_cons, Bool.or_eq_false_iff, Bool.and_eq_false_iff, beq_eq_false_iff_ne]
  tauto

/-- Settles O53: each field of the block stands at the offset at which it is read. -/
theorem recordBlockReadsBack : Obligations.RecordBlockReadsBack := by
  intro capacity r hcapacity h
  have hlow := h.1
  have hhigh := h.2.1
  obtain ⟨-, -, -, -, -, -, -, -, -, -, -, -, -, -, hpeaks, -, -, hfits, -⟩ := id h
  obtain ⟨⟨body, hlength, hbody⟩, hw⟩ := recordBlock_spec hfits hpeaks
  refine ⟨hbody ▸ length_withCheck body hlength, ?_⟩
  unfold classifySlot
  dsimp only
  rw [if_neg (by simp [blankBlock_eq_false hw hlow hhigh]),
    decodeRecord_of_writtenIn hw h hcapacity (hbody ▸ checkMatches_withCheck body hlength)]
  simp

end Sys2Proof.Machine

/-! A ROLL that is acted on, of a peer or of this station's own line: it is refused, it joins the open take, or it opens one. -/

namespace Sys2Proof.Machine

variable {s t : State} {w : Wire} {f : Frame}

/-! ### The STATE frame of a step -/

theorem State.GrantedTo.openKey (h : s.GrantedTo t) : t.openKey = s.openKey := by
  have hengine : t.engine = s.engine := by rw [h.frame]
  unfold State.openKey
  rw [hengine]
  cases s.engine.openTake with
  | none => rfl
  | some n =>
    obtain ⟨g, hg, ht⟩ := h.slots n
    simp only [Option.bind_some, State.recordAt, ht]
    cases s.slotAt n with
    | none => rfl
    | some sl =>
      cases hentry : sl.entry with
      | unreadable => simp [hentry, MirrorEntry.mapRecord, MirrorEntry.record?]
      | record r =>
        simp only [Option.map_some, Option.bind_some, hentry, MirrorEntry.mapRecord, MirrorEntry.record?]
        rw [hg r]

/-- The grants of a step are not announced. -/
theorem State.GrantedTo.stateContent (h : s.GrantedTo t) : t.stateContent = s.stateContent := by
  unfold State.stateContent
  rw [h.openKey]
  rw [h.frame]
  rfl

/-- The frame that a change of the announced states queues is the one that the state after the grants would queue. -/
theorem State.link_grant_queueState (u : State) : u.queueState.grant.link = u.link.enqueueState u.queueState.grant.stateContent := by
  rw [u.queueState.grantedTo_grant.stateContent, stateContent_queueState]
  simp

/-! ### What a ROLL does (R42–R44) -/

theorem State.actRoll_of_open {n : Nat} (h : s.engine.openTake = some n) (k : TakeKey) (pt : Point) : s.actRoll k pt = s.joinTake n k := by
  simp only [actRoll, h]

theorem State.actRoll_of_refused {r : RefusalReason} (hopen : s.engine.openTake = none) (h : s.refusalOf = some r) (k : TakeKey) (pt : Point) :
    s.actRoll k pt = s.refuseRoll r := by
  simp only [actRoll, hopen, h]

theorem State.actRoll_of_admitted {p : Profile} (hopen : s.engine.openTake = none) (h : s.refusalOf = none) (hp : s.media.profile = some p)
    (k : TakeKey) (pt : Point) : s.actRoll k pt = (State.announce s (s.openTake p k pt)).grant := by
  simp only [actRoll, hopen, h, hp]

/-- Nothing refuses a ROLL in STANDBY with room (R42). -/
theorem State.refusalOf_eq_none (hstate : s.engine.takeState = .standby) (hslot : s.verify.slot.blocksJournal = false)
    (hnext : s.journal.nextIndex ≤ 4096) (hqueue : s.writer.queue.length < 3) : s.refusalOf = none := by
  unfold refusalOf
  rw [if_neg (by simp [hstate, hslot]), if_neg (show ¬ journalSlots < s.journal.nextIndex from not_lt.2 hnext),
    if_neg (show ¬ maxQueue ≤ s.writer.queue.length from not_le.2 hqueue)]

/-- In an ordered holder map a new key takes the place of a key of its origin (R44). -/
theorem mem_addHolder {k h : TakeKey} {l : List TakeKey} (hl : (l.map (·.origin)).Pairwise (· < ·)) :
    h ∈ addHolder k l ↔ h = k ∨ (h.origin ≠ k.origin ∧ h ∈ l) := by
  induction l with
  | nil => simp [addHolder]
  | cons x l ih =>
    rw [List.map_cons, List.pairwise_cons] at hl
    obtain ⟨hfirst, hrest⟩ := hl
    have hbehind : ∀ y ∈ l, x.origin < y.origin := fun y hy => hfirst _ (List.mem_map_of_mem hy)
    unfold addHolder
    split
    · next hlt =>
      have hall : ∀ y ∈ x :: l, y.origin ≠ k.origin := by
        intro y hy
        rcases List.mem_cons.1 hy with rfl | hy
        · exact hlt.ne'
        · exact (hlt.trans (hbehind y hy)).ne'
      rw [List.mem_cons]
      exact or_congr_right ⟨fun hh => ⟨hall h hh, hh⟩, And.right⟩
    · split
      · next heq =>
        have hall : ∀ y ∈ l, y.origin ≠ k.origin := fun y hy => heq ▸ (hbehind y hy).ne'
        rw [List.mem_cons, List.mem_cons]
        refine or_congr_right ⟨fun hh => ⟨hall h hh, .inr hh⟩, ?_⟩
        rintro ⟨hne, rfl | hh⟩
        · exact absurd heq.symm hne
        · exact hh
      · next hne =>
        rw [List.mem_cons, ih hrest, List.mem_cons]
        by_cases hx : h = x
        · subst hx
          simp [Ne.symm hne]
        · simp [hx]

/-- A take joined (R44): its record, the holder map, the station, and the STATE frame of a TAIL that turns back. -/
theorem State.joinTake_spec {n : Nat} {r : Record} (key : TakeKey) (hengine : s.engine.Sound) (hopen : s.engine.openTake = some n)
    (hr : s.recordAt n = some r) :
    (s.joinTake n key).recordAt n = some { r with joined := if r.joined.length < 8 ∧ key ∉ r.joined then r.joined ++ [key] else r.joined }
      ∧ s.OtherSlotsKept n (s.joinTake n key)
      ∧ (∀ h : TakeKey, h ∈ (s.joinTake n key).engine.holders ↔ h = key ∨ (h.origin ≠ key.origin ∧ h ∈ s.engine.holders))
      ∧ (s.joinTake n key).engine = { s.engine with
          takeState := .rolling, holders := (s.joinTake n key).engine.holders, pendingStop := none }
      ∧ (s.joinTake n key).link = (if s.engine.takeState = .tail then s.link.enqueueState (s.joinTake n key).stateContent else s.link)
      ∧ s.joinTake n key = { s with engine := (s.joinTake n key).engine, journal := (s.joinTake n key).journal, link := (s.joinTake n key).link } := by
  have hstate : s.engine.takeState = .rolling ∨ s.engine.takeState = .tail := hengine.1.1 (by simp [hopen])
  have hrecord : (s.modifyRecord n (·.join key)).recordAt n
      = some { r with joined := if r.joined.length < 8 ∧ key ∉ r.joined then r.joined ++ [key] else r.joined } := by
    rw [recordAt_modifyRecord, if_pos rfl, hr, Option.map_some, Record.join, show maxJoined = 8 from rfl]
    split <;> rfl
  have hslots := s.otherSlotsKept_modifyRecord n (·.join key)
  obtain ⟨j, hj⟩ : ∃ j, s.modifyRecord n (·.join key) = { s with journal := j } := ⟨_, s.modifyRecord_frame_eq n _⟩
  have hjoin : s.joinTake n key = State.announce s { s with journal := j, engine := { s.engine with
      takeState := .rolling, holders := addHolder key s.engine.holders, pendingStop := none } } := by
    unfold joinTake
    rw [hj]
  rw [hj] at hrecord hslots
  have hholders {h : TakeKey} := mem_addHolder (k := key) (h := h) hengine.2.2
  rcases hstate with hstate | hstate
  · rw [hjoin, announce_of_eq (by simp [announced, hstate]), if_neg (show ¬ s.engine.takeState = .tail by simp [hstate])]
    exact ⟨hrecord, hslots, fun h => hholders, rfl, rfl, rfl⟩
  · rw [hjoin, announce_of_ne (by simp [announced, hstate]), if_pos hstate]
    exact ⟨hrecord, hslots, fun h => hholders, rfl, queueState_link_eq _, rfl⟩

/-- A ROLL refused (R42): the notice, and the STATE frame that carries it. -/
theorem State.refuseRoll_spec (s : State) (reason : RefusalReason) :
    (s.refuseRoll reason).engine = { s.engine with refusal := some reason }
      ∧ (s.refuseRoll reason).link = s.link.enqueueState (s.refuseRoll reason).stateContent
      ∧ s.refuseRoll reason = { s with engine := (s.refuseRoll reason).engine, link := (s.refuseRoll reason).link } :=
  ⟨rfl, queueState_link_eq _, rfl⟩

/-! ### A take opens (R43) -/

/-- What opens does not depend on the take engine or the link controller before. -/
theorem State.OpensTake.of_beside {p : Profile} {key : TakeKey} {pt : Point} {e : Engine} {l : Link}
    (h : ({ s with engine := e, link := l } : State).OpensTake p key pt t) : s.OpensTake p key pt t := h

/-- The record of a take that opens is charged for the frames of its span that are gone already (R17). -/
theorem State.openTake_record (s : State) (p : Profile) (key : TakeKey) (pt : Point) :
    (if (takeStart s.intake.rate p.preRoll s.intake.position pt.position).1 < s.intake.oldestHeld then
      (s.newRecord p key (takeStart s.intake.rate p.preRoll s.intake.position pt.position).1
        (openingFlags pt (takeStart s.intake.rate p.preRoll s.intake.position pt.position).2)).charge 0
          (s.intake.oldestHeld - (takeStart s.intake.rate p.preRoll s.intake.position pt.position).1)
      else s.newRecord p key (takeStart s.intake.rate p.preRoll s.intake.position pt.position).1
        (openingFlags pt (takeStart s.intake.rate p.preRoll s.intake.position pt.position).2)) = s.openedRecord p key pt := by
  unfold openedRecord
  generalize takeStart s.intake.rate p.preRoll s.intake.position pt.position = start
  split
  · next hlt =>
    have hmissing : s.intake.oldestHeld - start.1 ≠ 0 := by omega
    simp [Record.charge, Record.runNote, newRecord, Record.addNote, maxNotes, openingFlags, frameBytesOf, if_neg hmissing]
  · next hge =>
    have hmissing : s.intake.oldestHeld - start.1 = 0 := by omega
    simp [hmissing, newRecord, openingFlags, frameBytesOf]

/-- The slot just appended is that of the next take index. -/
theorem slotAt_appended {s u : State} {sl : MirrorSlot} (hnext : s.journal.mirror.length + 1 = s.journal.nextIndex)
    (hu : u.journal.mirror = s.journal.mirror ++ [sl]) (k : Nat) :
    u.slotAt k = if k = s.journal.nextIndex then some sl else s.slotAt k := by
  unfold State.slotAt
  rw [hu, ← hnext]
  by_cases h0 : k = 0
  · simp [h0]
  · rw [if_neg h0, if_neg h0]
    by_cases hk : k = s.journal.mirror.length + 1
    · simp [hk]
    · rw [if_neg hk]
      by_cases hlt : k - 1 < s.journal.mirror.length
      · rw [List.getElem?_append_left hlt]
      · rw [List.getElem?_append_right (by omega), List.getElem?_eq_none (by simp; omega), List.getElem?_eq_none (by omega)]

/-- What an appended take leaves once the write of its slot has been asked, held back, or granted (R84, R88, R123). -/
theorem State.addTake_spec (hport : s.port.Sound) (hnext : s.journal.mirror.length + 1 = s.journal.nextIndex)
    {r : Record} (hindex : r.index = s.journal.nextIndex) (w : Nat) :
    (s.addTake r w).port.Offers (· = .journalWrite s.journal.nextIndex) ∧ (s.addTake r w).port.Numbered
      ∧ (s.addTake r w).journal.nextIndex = s.journal.nextIndex + 1
      ∧ (∀ k, (s.addTake r w).slotAt k = if k = s.journal.nextIndex then
          some { entry := .record r, inFlight := !s.provisionalHeld s.journal.nextIndex, amend := false, firstDone := false
                 held := s.provisionalHeld s.journal.nextIndex, keptBytes := none } else s.slotAt k)
      ∧ (s.provisionalHeld s.journal.nextIndex = false → (s.addTake r w).Asked (.journalWrite s.journal.nextIndex) 1)
      ∧ (s.addTake r w).writer.queue = s.writer.queue ++ [QueueEntry.joining s.journal.nextIndex w]
      ∧ s.addTake r w = { s with
          journal := (s.addTake r w).journal, port := (s.addTake r w).port, writer := { s.writer with queue := (s.addTake r w).writer.queue } } := by
  unfold addTake
  rw [hindex]
  dsimp only
  generalize hu : ({ s with
      journal := { mirror := s.journal.mirror ++ [{ entry := .record r, inFlight := false, amend := false, firstDone := false
                                                    held := s.provisionalHeld s.journal.nextIndex, keptBytes := none }]
                   nextIndex := s.journal.nextIndex + 1 }
      writer := { s.writer with queue := s.writer.queue ++ [QueueEntry.joining s.journal.nextIndex w] } } : State) = u
  have hslot := slotAt_appended hnext (s := s) (u := u) (by rw [← hu])
  have hown := (hslot s.journal.nextIndex).trans (if_pos rfl)
  have hport' : u.port = s.port := by rw [← hu]
  have hask := u.askWrite_frame_eq s.journal.nextIndex
  have hoffers : (u.askWrite s.journal.nextIndex).port.Offers (· = .journalWrite s.journal.nextIndex) :=
    offers_askWrite (hport' ▸ hport.offers _) rfl
  have hnum : (u.askWrite s.journal.nextIndex).port.Numbered := numbered_askWrite (hport' ▸ hport.numbered) _
  have hnextIndex : (u.askWrite s.journal.nextIndex).journal.nextIndex = s.journal.nextIndex + 1 := by rw [(u.askWrite_frame _).2.2.2.2.2.2.2.2.2.2.1, ← hu]
  refine ⟨hoffers, hnum, hnextIndex, ?_, ?_, by rw [hask, ← hu], by rw [hask, ← hu]⟩
  · intro k
    cases hheld : s.provisionalHeld s.journal.nextIndex with
    | true =>
      rw [askWrite_of_held hown hheld, hslot k, hheld]
      rfl
    | false =>
      rw [askWrite_of_clear hown rfl hheld rfl]
      show (u.modifySlot s.journal.nextIndex _).slotAt k = _
      rw [slotAt_modifySlot, hown, hslot k, hheld]
      split <;> rfl
  · intro hheld
    rw [askWrite_of_clear hown rfl hheld rfl]
    exact asked_ask ..

/-- A take that opens, beside a sound port, from a station that is not ROLLING (R43, R71, R84, R88, R123). -/
theorem State.openTake_spec (hport : s.port.Sound) (hnext : s.journal.mirror.length + 1 = s.journal.nextIndex)
    (hqueue : ∀ e ∈ s.writer.queue, e.index ≠ s.journal.nextIndex) (hstate : s.engine.takeState ≠ .rolling) (p : Profile) (key : TakeKey)
    (pt : Point) :
    s.OpensTake p key pt (State.announce s (s.openTake p key pt)).grant
      ∧ (State.announce s (s.openTake p key pt)).grant.engine = { s.engine with
          takeState := .rolling, openTake := some s.journal.nextIndex, holders := [key], pendingStop := none }
      ∧ (State.announce s (s.openTake p key pt)).grant.link
        = s.link.enqueueState (State.announce s (s.openTake p key pt)).grant.stateContent := by
  have hrecord := s.openTake_record p key pt
  have hindex : (s.openedRecord p key pt).index = s.journal.nextIndex := rfl
  obtain ⟨hoffers, hnum, hnextIndex, hslots, hasked, hq, hframe⟩ :=
    addTake_spec hport hnext hindex (max (takeStart s.intake.rate p.preRoll s.intake.position pt.position).1 s.intake.oldestHeld)
  generalize hu : s.addTake (s.openedRecord p key pt)
    (max (takeStart s.intake.rate p.preRoll s.intake.position pt.position).1 s.intake.oldestHeld) = u at *
  have hopened : s.openTake p key pt = { u with
      engine := { u.engine with takeState := .rolling, openTake := some s.journal.nextIndex, holders := [key], pendingStop := none }
      slate := u.slate.advance } := by
    unfold State.openTake
    dsimp only
    rw [hrecord, hu]
    rfl
  have hengine : u.engine = s.engine := by rw [hframe]
  have hannounce : State.announce s (s.openTake p key pt) = (s.openTake p key pt).queueState := by
    refine announce_of_ne fun h => hstate ?_
    rw [hopened] at h
    exact congrArg (·.1) h
  rw [hannounce]
  generalize hv : (s.openTake p key pt).queueState = v
  have hvu : v = { u with
      engine := { s.engine with takeState := .rolling, openTake := some s.journal.nextIndex, holders := [key], pendingStop := none }
      slate := s.slate.advance, link := v.link } := by
    rw [← hv, hopened]
    rw [hframe]
    rfl
  have hport' : v.port = u.port := by rw [hvu]
  have hvslots (k : Nat) : v.slotAt k = u.slotAt k := by rw [hvu]; rfl
  have hgrant := v.grantedTo_grant
  have hgrantFrame := grant_frame_of_journal (u := v) (hport' ▸ hoffers.mono fun k hk => ⟨_, hk⟩)
  have hown : v.slotAt s.journal.nextIndex = some _ := (hvslots _).trans ((hslots _).trans (if_pos rfl))
  refine ⟨⟨?_, ?_, ?_, ?_, ?_, ?_, ?_⟩, ?_, ?_⟩
  · rw [hgrant.frame, hvu]
    exact hnextIndex
  · obtain ⟨sl, hsl, hsame⟩ := hgrant.slotAt hown
    obtain ⟨r, hr, hrsame, hdurable⟩ := v.recordAt_grant (recordAt_eq_some.2 ⟨_, hown, rfl⟩)
    obtain ⟨x, hx, hentry⟩ := recordAt_eq_some.1 hr
    cases hsl.symm.trans hx
    have hbytes : v.durableBytes s.journal.nextIndex = some 0 := by
      have hentry : v.entryOf s.journal.nextIndex = some (QueueEntry.joining s.journal.nextIndex
          (max (takeStart s.intake.rate p.preRoll s.intake.position pt.position).1 s.intake.oldestHeld)) := by
        have : v.writer.queue = u.writer.queue := by rw [hvu]
        rw [entryOf, this, hq, List.find?_append, List.find?_eq_none.2 (fun e he => by simpa using hqueue e he)]
        simp [QueueEntry.joining]
      exact durableBytes_of_entry _ hentry
    have hzero : r.durable = 0 := by
      rw [hbytes] at hdurable
      simpa [durableFrames, openedRecord] using hdurable
    rw [hsl, hsame, hentry, hrsame, hzero]
    rfl
  · intro hheld
    refine asked_grant (hport' ▸ hnum) ?_
    obtain ⟨op, hop, hkind⟩ := hasked hheld
    exact ⟨op, hport' ▸ hop, hkind⟩
  · intro k hk
    rw [(otherSlotsKept_grant (n := s.journal.nextIndex) (hport' ▸ hoffers)).1 k hk, hvslots, hslots, if_neg hk]
  · rw [hgrantFrame, hvu]
    exact hq
  · rw [hgrantFrame, hvu]
    rfl
  · rw [hgrantFrame, hvu, hframe]
  · rw [hgrantFrame, hvu]
  · rw [← hv, link_grant_queueState, hopened]
    rw [hframe]

/-! ### The obligations -/

/-- In STANDBY of a coherent state no mount is in progress: the next take index follows the mirror, and no queued take has it (R84, R102). -/
theorem State.Coherent.next_free (h : s.Coherent) (hstate : s.engine.takeState = .standby) :
    s.journal.mirror.length + 1 = s.journal.nextIndex ∧ (∀ e ∈ s.writer.queue, e.index ≠ s.journal.nextIndex) ∧ s.engine.openTake = none := by
  obtain ⟨⟨hengine, -, -⟩, ⟨hmount, -, -, hmirror, -⟩, ⟨-, hqueue, -⟩, hstation, -⟩ := h
  have hready : s.media.state = .ready := by
    by_contra hready
    have := hstation.2 fun h => hready h.1
    rw [hstate] at this
    cases this
  have hnone : s.media.mount = .none := hmount.2 (by simp [hready])
  refine ⟨(hmirror (by simp [hnone, Mount.scanning])).1, fun e he => (hqueue e he).1.ne, ?_⟩
  by_contra hopen
  have := hengine.1 (Option.isSome_iff_ne_none.2 hopen)
  simp [hstate] at this

theorem Engine.fresh_iff {e : Engine} {origin : Nat} {n : Word16} : e.fresh origin n = true ↔
    ∀ m, e.lastRollOf origin = some m → 1 ≤ (n - m).toNat ∧ (n - m).toNat ≤ 32767 := by
  unfold Engine.fresh
  cases e.lastRollOf origin with
  | none => simp
  | some m => simp [newer]

/-- Entering a roll number replaces the last-roll table alone. -/
theorem Engine.exists_setLastRoll (e : Engine) (origin : Nat) (n : Word16) : ∃ l, e.setLastRoll origin n = { e with lastRoll := l } := ⟨_, rfl⟩

theorem Engine.followSet_setLastRoll (e : Engine) (origin : Nat) (n : Word16) : (e.setLastRoll origin n).followSet = e.followSet := by
  unfold Engine.setLastRoll
  rfl

/-- What a fresh ROLL of an origin leaves of the state before it is acted on (R40). -/
def State.rollEntered (f : Frame) (s : State) : State := { s with engine := s.engine.setLastRoll f.sender (rollNumber f.payload) }

theorem State.takeRoll_of_stale (h : s.engine.fresh f.sender (rollNumber f.payload) = false) : s.takeRoll f = s := by
  unfold takeRoll
  dsimp only
  rw [h]
  rfl

theorem State.takeRoll_of_unfollowed (h : s.engine.fresh f.sender (rollNumber f.payload) = true)
    (hfollow : s.engine.followSet.getLsbD f.sender = false) : s.takeRoll f = s.rollEntered f := by
  have hset : stationInSet (s.engine.setLastRoll f.sender (rollNumber f.payload)).followSet f.sender = false := by
    rw [stationInSet, Engine.followSet_setLastRoll, hfollow]
  unfold takeRoll
  dsimp only
  rw [h, hset]
  rfl

theorem State.takeRoll_of_followed (h : s.engine.fresh f.sender (rollNumber f.payload) = true)
    (hfollow : s.engine.followSet.getLsbD f.sender = true) : s.takeRoll f = (s.rollEntered f).actRoll
      { origin := f.sender, roll := rollNumber f.payload } (convertStamp s.timecode s.intake.rate s.intake.position (stampAt f.payload 2)) := by
  have hset : stationInSet (s.engine.setLastRoll f.sender (rollNumber f.payload)).followSet f.sender = true := by
    rw [stationInSet, Engine.followSet_setLastRoll, hfollow]
  unfold takeRoll
  dsimp only
  rw [h, hset]
  rfl

/-- A ROLL taken is handed to the take engine, which the own number's conflict does not touch. -/
theorem exec_roll (htaken : s.takenFrame .roll w = some f) : exec (.roll w) s = .next ((s.noteConflict f).takeRoll f) :=
  congrArg Host.Outcome.next (s.onFrame_of_taken _ htaken)

/-- Settles O13: the freshness of the ROLL, the follow set, and the first reason that refuses it. -/
theorem rollIsIgnoredOrRefused : Obligations.RollIsIgnoredOrRefused := by
  refine ⟨?_, fun w s f reason htaken hfresh hfollow hopen hreason => ?_⟩
  · rintro w s f _ htaken rfl
    obtain ⟨l, hl⟩ := s.exists_noteConflict f
    rw [exec_roll htaken, hl]
    refine ⟨fun m hm hold => congrArg Host.Outcome.next (State.takeRoll_of_stale ?_), fun hnew hfollow =>
      congrArg Host.Outcome.next (State.takeRoll_of_unfollowed (Engine.fresh_iff.2 hnew) hfollow)⟩
    rw [← Bool.not_eq_true, Engine.fresh_iff]
    exact fun h => hold (h m hm)
  · obtain ⟨l, hl⟩ := s.exists_noteConflict f
    rw [exec_roll htaken, hl, State.takeRoll_of_followed (s := { s with link := l }) hfresh hfollow, State.rollEntered]
    obtain ⟨last, hlast⟩ := s.engine.exists_setLastRoll f.sender (rollNumber f.payload)
    rw [hlast]
    generalize hs1 : ({ s with link := l, engine := { s.engine with lastRoll := last } } : State) = s1
    have hopen1 : s1.engine.openTake = none := by rw [← hs1]; exact hopen
    have hreason1 : s1.refusalOf = some reason := by rw [← hs1]; exact hreason
    refine ⟨_, congrArg Host.Outcome.next (State.actRoll_of_refused hopen1 hreason1 _ _), ?_⟩
    obtain ⟨hengine, hlink, hframe⟩ := s1.refuseRoll_spec reason
    subst hs1
    exact ⟨hengine, hlink, hframe⟩

/-- Settles O15: the fresh followed ROLL joins the take (`State.joinTake_spec`). -/
theorem rollJoinsTheOpenTake : Obligations.RollJoinsTheOpenTake := by
  rintro w s f n r _ htaken rfl hengine hfresh hfollow hopen hr
  obtain ⟨l, hl⟩ := s.exists_noteConflict f
  rw [exec_roll htaken, hl, State.takeRoll_of_followed (s := { s with link := l }) hfresh hfollow, State.rollEntered]
  obtain ⟨last, hlast⟩ := s.engine.exists_setLastRoll f.sender (rollNumber f.payload)
  rw [hlast]
  generalize hs1 : ({ s with link := l, engine := { s.engine with lastRoll := last } } : State) = s1
  have hengine1 : s1.engine.Sound := by rw [← hs1]; exact hengine
  have hopen1 : s1.engine.openTake = some n := by rw [← hs1]; exact hopen
  have hr1 : s1.recordAt n = some r := by rw [← hs1]; exact hr
  refine ⟨_, congrArg Host.Outcome.next (State.actRoll_of_open hopen1 _ _), ?_⟩
  obtain ⟨hrecord, hslots, hholders, hengine', hlink, hframe⟩ := State.joinTake_spec
    { origin := f.sender, roll := rollNumber f.payload } hengine1 hopen1 hr1
  subst hs1
  exact ⟨hrecord, hslots, hholders, hengine', hlink, hframe⟩

/-- Settles O14: nothing refuses the fresh followed ROLL, and a take opens (`State.openTake_spec`). -/
theorem rollOpensATake : Obligations.RollOpensATake := by
  rintro w s f p _ htaken rfl hcoherent hport hfresh hfollow hstate hslot hnext hqueue hp
  obtain ⟨l, hl⟩ := s.exists_noteConflict f
  obtain ⟨hmirror, hfree, hopen⟩ := hcoherent.next_free hstate
  rw [exec_roll htaken, hl, State.takeRoll_of_followed (s := { s with link := l }) hfresh hfollow, State.rollEntered]
  obtain ⟨last, hlast⟩ := s.engine.exists_setLastRoll f.sender (rollNumber f.payload)
  rw [hlast]
  dsimp only
  generalize hs1 : ({ s with link := l, engine := { s.engine with lastRoll := last } } : State) = s1
  have hopen1 : s1.engine.openTake = none := by rw [← hs1]; exact hopen
  have hadmitted1 : s1.refusalOf = none := by rw [← hs1]; exact State.refusalOf_eq_none hstate hslot hnext hqueue
  have hp1 : s1.media.profile = some p := by rw [← hs1]; exact hp
  refine ⟨_, congrArg Host.Outcome.next (State.actRoll_of_admitted hopen1 hadmitted1 hp1 _ _), ?_⟩
  obtain ⟨hopens, hengine, hlink⟩ := State.openTake_spec (s := s1) (by rw [← hs1]; exact hport) (by rw [← hs1]; exact hmirror)
    (by rw [← hs1]; exact hfree) (by rw [← hs1]; simp [hstate]) p
    { origin := f.sender, roll := rollNumber f.payload } (convertStamp s.timecode s.intake.rate s.intake.position (stampAt f.payload 2))
  subst hs1
  exact ⟨hopens.of_beside, hengine, hlink⟩

/-- Settles O16: the rise is taken as a ROLL of this station's own. -/
theorem rollLineRiseRollsLocally : Obligations.RollLineRiseRollsLocally := by
  rintro edge s _ _ _ rfl rfl rfl
  refine ⟨fun h => ?_, fun hline hheld => ?_⟩
  · refine congrArg Host.Outcome.next (if_neg ?_)
    rw [s.heldFrom_iff]
    tauto
  · have hexec : exec (.rollLineRise edge) s = .next (s.riseRoll edge) :=
      congrArg Host.Outcome.next (if_pos ⟨hline, (s.heldFrom_iff edge).2 hheld⟩)
    rw [hexec]
    unfold State.riseRoll
    dsimp only
    generalize hs1 : State.queueTransport _ ({ s with engine := { s.engine with
      ownRoll := s.engine.ownRoll + 1, rollLine := some true, rollRiseTaken := true } } : State) = s1
    refine ⟨fun p hcoherent hport hstate hslot hnext hqueue hp => ?_, fun k r hengine hopen hr => ?_, fun reason hopen hreason => ?_⟩
    · obtain ⟨hmirror, hfree, hopen⟩ := hcoherent.next_free hstate
      have hopen1 : s1.engine.openTake = none := by rw [← hs1]; exact hopen
      have hadmitted1 : s1.refusalOf = none := by rw [← hs1]; exact State.refusalOf_eq_none hstate hslot hnext hqueue
      have hp1 : s1.media.profile = some p := by rw [← hs1]; exact hp
      refine ⟨_, congrArg Host.Outcome.next (State.actRoll_of_admitted hopen1 hadmitted1 hp1 _ _), ?_⟩
      obtain ⟨hopens, hengine, hlink⟩ := State.openTake_spec (s := s1) (by rw [← hs1]; exact hport) (by rw [← hs1]; exact hmirror)
        (by rw [← hs1]; exact hfree) (by rw [← hs1]; simp [State.queueTransport, hstate]) p
        { origin := s.link.station, roll := s.engine.ownRoll + 1 } (Point.exact edge)
      subst hs1
      exact ⟨hopens, hengine, hlink⟩
    · have hengine1 : s1.engine.Sound := by rw [← hs1]; exact hengine
      have hopen1 : s1.engine.openTake = some k := by rw [← hs1]; exact hopen
      have hr1 : s1.recordAt k = some r := by rw [← hs1]; exact hr
      refine ⟨_, congrArg Host.Outcome.next (State.actRoll_of_open hopen1 _ _), ?_⟩
      obtain ⟨hrecord, hslots, hholders, hengine', hlink, hframe⟩ := State.joinTake_spec
        { origin := s.link.station, roll := s.engine.ownRoll + 1 } hengine1 hopen1 hr1
      subst hs1
      exact ⟨hholders, hrecord, hslots, hengine', hlink, hframe⟩
    · have hopen1 : s1.engine.openTake = none := by rw [← hs1]; exact hopen
      have hreason1 : s1.refusalOf = some reason := by rw [← hs1]; exact hreason
      refine ⟨_, congrArg Host.Outcome.next (State.actRoll_of_refused hopen1 hreason1 _ _), ?_⟩
      obtain ⟨hengine, hlink, hframe⟩ := s1.refuseRoll_spec reason
      subst hs1
      exact ⟨hengine, hlink, hframe⟩

end Sys2Proof.Machine

/-! The end of drawing (R90, R125, R131, R132): a take that has come to its stop is sealed and its final write asked; and a take whose stop
is fixed (R46, R47, R55–R57, R78, R142). What is said here before the grants of a step stands after them. -/

namespace Sys2Proof.Machine

variable {s t u : State} {n b : Nat} {e : QueueEntry} {r : Record} {phase : BufferPhase} {seg : Segment}

/-! ### The entry of a take -/

theorem State.index_of_entryOf (h : s.entryOf n = some e) : e.index = n := by
  simpa using List.find?_some h

theorem State.slotAt_of_writer {w : Writer} (n : Nat) : ({ s with writer := w } : State).slotAt n = s.slotAt n := rfl

/-! ### Sealing (R131, R132, R133) -/

/-- The blocks that a sealed segment does not use leave the extent list (R132). -/
def Record.shortened (seg : Segment) (r : Record) : Record :=
  { r with extents := if ceilDiv seg.data.length blockBytes < seg.run.count
      then shortenLast (seg.run.count - ceilDiv seg.data.length blockBytes) r.extents else r.extents }

theorem State.sealCurrent_of_idle (he : s.entryOf n = some e) (hc : e.current = none) (isLast : Bool) : s.sealCurrent n isLast = s := by
  simp [sealCurrent, he, hc]

/-- A take's queue entry once its current buffer is sealed (R131). -/
def QueueEntry.afterSeal (e : QueueEntry) : QueueEntry := { e with sealedSegs := e.sealedSegs + 1, current := none }

/-- The state of a take whose current buffer is sealed, before its write is asked. -/
def State.withSealed (s : State) (n b : Nat) (isLast : Bool) (e : QueueEntry) (seg : Segment) : State :=
  ((s.setBuffer b (.used .ready (seg.close isLast (e.sealedSegs + 1)))).modifyEntry n QueueEntry.afterSeal).modifyRecord n
    (·.shortened seg)

theorem State.sealCurrent_of_current (he : s.entryOf n = some e) (hc : e.current = some b) (hb : s.buffer b = .used phase seg) (isLast : Bool) :
    s.sealCurrent n isLast = (s.withSealed n b isLast e seg).askNew (.segmentWrite b 0) := by
  simp only [sealCurrent, he, hc, hb]
  rfl

theorem State.slotAt_withSealed (isLast : Bool) (k : Nat) : (s.withSealed n b isLast e seg).slotAt k
    = if k = n then (s.slotAt n).map (fun sl => { sl with entry := sl.entry.mapRecord (·.shortened seg) }) else s.slotAt k := by
  rw [withSealed, slotAt_modifyRecord]
  rfl

theorem State.entryOf_withSealed (he : s.entryOf n = some e) (isLast : Bool) : (s.withSealed n b isLast e seg).entryOf n
    = some { e with sealedSegs := e.sealedSegs + 1, current := none } := by
  have hwriter : ∀ v : State, (v.modifyRecord n (·.shortened seg)).entryOf n = v.entryOf n := fun v => by simp [entryOf]
  have hset : (s.setBuffer b (.used .ready (seg.close isLast (e.sealedSegs + 1)))).entryOf n = some e := he
  rw [withSealed, hwriter]
  refine (entryOf_modifyEntry _ n n QueueEntry.afterSeal fun _ => rfl).trans ?_
  rw [if_pos rfl, hset]
  rfl

theorem State.buffer_withSealed (hb : b < 8) (isLast : Bool) (c : Nat) : (s.withSealed n b isLast e seg).buffer c
    = if c = b then .used .ready (seg.close isLast (e.sealedSegs + 1)) else s.buffer c := by
  have hwriter : ∀ v : State, (v.modifyRecord n (·.shortened seg)).buffer c = v.buffer c := fun v => by simp [buffer]
  rw [withSealed, hwriter]
  exact buffer_setBuffer _ _ _ _ hb

/-- The record with a last extent, once its segment used fewer blocks than its run (R132). -/
theorem Record.shortened_extents {front : List Extent} {x : Extent} (hr : r.extents = front ++ [x])
    (hused : ceilDiv seg.data.length blockBytes < seg.run.count) : (r.shortened seg).extents
      = if x.count ≤ seg.run.count - ceilDiv seg.data.length blockBytes then front
        else front ++ [{ first := x.first, count := x.count - (seg.run.count - ceilDiv seg.data.length blockBytes) }] := by
  rw [Record.shortened]
  dsimp only
  rw [if_pos hused, hr, shortenLast, List.reverse_append, List.reverse_singleton, List.singleton_append]
  dsimp only
  split <;> simp

/-- A buffer as it is sealed, with its write at the port (R131, R133). -/
theorem State.sealed_of_close {isLast : Bool} {k : Nat} (hb : t.buffer b = .used phase (seg.close isLast (k + 1)))
    (hasked : t.Asked (.segmentWrite b 0) 1) : t.Sealed b seg [] (k + 1) (sealTag isLast (k + 1)) := by
  refine ⟨⟨phase, _, hb, rfl, rfl, ?_, rfl, rfl, rfl, ?_, rfl⟩, hasked⟩
  · simp [Segment.close]
  · simp [Segment.close, ceilDiv, blockBytes]

/-- A segment of bytes and more is one of all of them. -/
theorem State.Sealed.of_append {bytes : List Byte} {k : Nat} {tag : PositionTag}
    (h : t.Sealed b { seg with data := seg.data ++ bytes } [] k tag) : t.Sealed b seg bytes k tag := by
  obtain ⟨⟨phase, seg', h1, h2, h3, h4, h5, h6, h7, h8, h9⟩, hasked⟩ := h
  rw [List.append_nil] at h4 h8
  exact ⟨⟨phase, seg', h1, h2, h3, h4, h5, h6, h7, h8, h9⟩, hasked⟩

theorem State.Sealed.grant {bytes : List Byte} {k : Nat} {tag : PositionTag} (h : t.Sealed b seg bytes k tag) (hport : t.port.Numbered) :
    t.grant.Sealed b seg bytes k tag := by
  obtain ⟨⟨phase, seg', h1, h2, h3, h4, h5, h6, h7, h8, h9⟩, hasked⟩ := h
  have hbuffer := t.grantedTo_grant.buffers b
  rw [h1] at hbuffer
  obtain ⟨phase', seg'', ht, hsame, hwrites, -⟩ := hbuffer
  refine ⟨⟨phase', seg'', ht, ?_, ?_, ?_, ?_, ?_, ?_, ?_, ?_⟩, asked_grant hport hasked⟩
  iterate 7 rw [hsame]; assumption
  rw [hwrites, h9]
  rw [hsame]

/-! ### The final write -/

theorem State.finalDue_of_done (hr : s.recordAt n = some r) (he : s.entryOf n = some e) (hstate : r.state = .closing)
    (hstop : r.stop.getD 0 ≤ e.next) (hc : e.current = none) : s.finalDue n = decide (e.sealedSegs = e.completed) := by
  simp [finalDue, finalDueOf, hr, he, hstate, hstop, hc]

theorem State.buffer_askWrite (n c : Nat) : (s.askWrite n).buffer c = s.buffer c := by simp [buffer]

theorem State.entryOf_askWrite (n k : Nat) : (s.askWrite n).entryOf k = s.entryOf k := by simp [entryOf]

/-- What is asked stands at the port after another write was asked. -/
theorem State.Asked.askWrite {kind : OpKind} {a : Nat} (h : s.Asked kind a) (n : Nat) : (s.askWrite n).Asked kind a := by
  unfold State.askWrite
  split
  · exact h
  · split
    · exact h
    · split
      · split
        · obtain ⟨op, hop, hkind⟩ := h
          exact ⟨op, by simpa using hop, hkind⟩
        · exact h
      · obtain ⟨op, hop, hkind⟩ := h
        refine ⟨op, ?_, hkind⟩
        simp only [askNew, ask, State.modifySlot_frame, List.mem_append] at hop ⊢
        tauto

/-- Asking the final write leaves all but its slot's write flags and the port. -/
theorem State.askFinalIfDue_cases (s : State) (n : Nat) : (s.finalDue n = true ∧ s.askFinalIfDue n = s.askWrite n)
    ∨ (s.finalDue n = false ∧ s.askFinalIfDue n = s) := by
  unfold askFinalIfDue
  cases h : s.finalDue n
  · exact .inr ⟨rfl, rfl⟩
  · exact .inl ⟨rfl, rfl⟩

theorem State.askFinalIfDue_keeps (s : State) (n : Nat) : (∀ c, (s.askFinalIfDue n).buffer c = s.buffer c)
    ∧ (∀ k, (s.askFinalIfDue n).entryOf k = s.entryOf k) ∧ (∀ k, (s.askFinalIfDue n).recordAt k = s.recordAt k)
    ∧ (∀ kind a, s.Asked kind a → (s.askFinalIfDue n).Asked kind a) := by
  rcases s.askFinalIfDue_cases n with ⟨-, h⟩ | ⟨-, h⟩
  · rw [h]
    exact ⟨s.buffer_askWrite n, s.entryOf_askWrite n, s.recordAt_askWrite n, fun _ _ ha => ha.askWrite n⟩
  · rw [h]
    exact ⟨fun _ => rfl, fun _ => rfl, fun _ => rfl, fun _ _ ha => ha⟩

/-! ### A take that has come to its stop -/

theorem State.finishIfDone_of_done (hr : s.recordAt n = some r) (he : s.entryOf n = some e) (hstate : r.state = .closing)
    (hstop : r.stop.getD 0 ≤ e.next) : s.finishIfDone n = (s.sealCurrent n true).askFinalIfDue n := by
  simp [finishIfDone, hr, he, hstate, hstop]

theorem State.finishIfDone_of_going (hr : s.recordAt n = some r) (he : s.entryOf n = some e)
    (h : r.state ≠ .closing ∨ e.next < r.stop.getD 0) : s.finishIfDone n = s := by
  have : ¬ (r.state = .closing ∧ r.stop.getD 0 ≤ e.next) := by
    rintro ⟨h1, h2⟩
    exact h.elim (· h1) fun h => absurd h2 (not_le.2 h)
  simp [finishIfDone, hr, he, this]

theorem State.finishIfDone_of_unqueued (he : s.entryOf n = none) : s.finishIfDone n = s := by
  unfold finishIfDone
  rw [he]
  split <;> simp_all

/-- A CLOSING take with no more frames to draw comes to its end (R90, R125, R131, R132). -/
theorem State.endsDrawing_finishIfDone (hr : s.recordAt n = some r) (he : s.entryOf n = some e) (hstate : r.state = .closing)
    (hstop : r.stop.getD 0 ≤ e.next) : ∃ r', (s.finishIfDone n).recordAt n = some r' ∧ r' = { r with extents := r'.extents }
      ∧ s.EndsDrawing e r e.next (s.finishIfDone n) r' := by
  obtain rfl := index_of_entryOf he
  rw [finishIfDone_of_done hr he hstate hstop]
  cases hc : e.current with
  | none =>
    rw [sealCurrent_of_idle he hc]
    obtain ⟨-, hentry, hrecord, -⟩ := s.askFinalIfDue_keeps e.index
    refine ⟨r, (hrecord _).trans hr, rfl, fun _ _ _ h => by simp [hc] at h, fun _ => ⟨rfl, ⟨e.digest, ?_⟩, fun hdone sl hsl hheld => ?_⟩⟩
    · rw [hentry, he]
    · have hdue : s.finalDue e.index = true := (finalDue_of_done hr he hstate hstop hc).trans (decide_eq_true hdone)
      have hask : s.askFinalIfDue e.index = s.askWrite e.index := if_pos hdue
      obtain ⟨sl', hsl', -, -, -, -, hopen⟩ := handsOn_askWrite hr sl hsl
      rw [hask]
      exact ⟨sl', hsl', (hopen hheld).1, fun hclear => ((hopen hheld).2.1 hclear).2⟩
  | some b =>
    cases hb : s.buffer b with
    | free =>
      have hseal : s.sealCurrent e.index true = s := by simp [sealCurrent, he, hc, hb]
      rw [hseal]
      obtain ⟨-, -, hrecord, -⟩ := s.askFinalIfDue_keeps e.index
      refine ⟨r, (hrecord _).trans hr, rfl, fun b' phase seg hb' hused => ?_, fun h => by simp [hc] at h⟩
      cases hc.symm.trans hb'
      simp [hb] at hused
    | used phase seg =>
      rw [sealCurrent_of_current he hc hb]
      obtain ⟨hbuffer, hentry, hrecord, hasked⟩ := ((s.withSealed e.index b true e seg).askNew (.segmentWrite b 0)).askFinalIfDue_keeps e.index
      have hlt : b < 8 := s.lt_of_buffer_ne_free (by simp [hb])
      refine ⟨r.shortened seg, ?_, rfl, fun b' phase' seg' hb' hused htake _ => ?_, fun h => by simp [hc] at h⟩
      · rw [hrecord]
        show (s.withSealed e.index b true e seg).recordAt e.index = _
        rw [withSealed, recordAt_modifyRecord, if_pos rfl]
        exact congrArg (Option.map _) hr
      · cases hc.symm.trans hb'
        cases hb.symm.trans hused
        have hcount : (seg.data.length + 4095) / 4096 = ceilDiv seg.data.length blockBytes := rfl
        refine ⟨?_, ⟨e.digest, ?_⟩, ?_⟩
        · have htag : sealTag true (e.sealedSegs + 1) = if e.sealedSegs = 0 then PositionTag.only else .last := by
            simp [sealTag]
          rw [← htag]
          refine sealed_of_close (phase := .ready) ?_ (hasked _ _ (asked_ask ..))
          rw [hbuffer]
          exact (buffer_withSealed hlt true b).trans (if_pos rfl)
        · rw [hentry]
          exact entryOf_withSealed he true
        · rintro used rfl
          rw [hcount]
          refine ⟨fun hall => ?_, fun front x hused hext => Record.shortened_extents hext hused⟩
          rw [Record.shortened]
          exact if_neg (not_lt.2 hall)

/-! ### What stands after the grants -/

theorem State.EndsDrawing.grant {w : Nat} {r' r'' : Record} (h : s.EndsDrawing e r w t r') (hport : t.port.Numbered)
    (hext : r''.extents = r'.extents) : s.EndsDrawing e r w t.grant r'' := by
  obtain ⟨hcurrent, hidle⟩ := h
  refine ⟨fun b phase seg hc hb htake hall => ?_, fun hc => ?_⟩
  · obtain ⟨hsealed, ⟨d, hd⟩, hblocks⟩ := hcurrent b phase seg hc hb htake hall
    obtain ⟨d', hd'⟩ := t.grantedTo_grant.entryOf hd
    exact ⟨hsealed.grant hport, ⟨d', hd'⟩, by rw [hext]; exact hblocks⟩
  · obtain ⟨hsame, ⟨d, hd⟩, hfinal⟩ := hidle hc
    obtain ⟨d', hd'⟩ := t.grantedTo_grant.entryOf hd
    refine ⟨hext.trans hsame, ⟨d', hd'⟩, fun hdone sl hsl hheld => ?_⟩
    obtain ⟨sl', hsl', hflight, hasked⟩ := hfinal hdone sl hsl hheld
    obtain ⟨x, hx, hsamex⟩ := t.grantedTo_grant.slotAt hsl'
    exact ⟨x, hx, by rw [hsamex]; exact hflight, fun hclear => asked_grant hport (hasked hclear)⟩

/-- The end of drawing is seen from any state with the same buffers and queue, and the same write flags at its slot. -/
theorem State.EndsDrawing.of_before {w : Nat} {r0 r' : Record} (h : u.EndsDrawing e r w t r') (hwriter : u.writer = s.writer)
    (hslot : ∀ sl, s.slotAt e.index = some sl → ∃ sl', u.slotAt e.index = some sl' ∧ sl'.held = sl.held ∧ sl'.inFlight = sl.inFlight)
    (hext : r.extents = r0.extents) : s.EndsDrawing e r0 w t r' := by
  obtain ⟨hcurrent, hidle⟩ := h
  have hbuffer : ∀ c, u.buffer c = s.buffer c := fun c => by rw [buffer, buffer, hwriter]
  rw [hwriter] at hcurrent
  rw [hext] at hcurrent hidle
  refine ⟨fun b phase seg hc hb => hcurrent b phase seg hc ((hbuffer b).trans hb), fun hc => ?_⟩
  obtain ⟨hsame, hentry, hfinal⟩ := hidle hc
  refine ⟨hsame, hentry, fun hdone sl hsl hheld => ?_⟩
  obtain ⟨x, hx, hxheld, hxflight⟩ := hslot sl hsl
  obtain ⟨sl', hsl', hflight, hasked⟩ := hfinal hdone x hx (hxheld.trans hheld)
  exact ⟨sl', hsl', hflight, fun hclear => hasked (hxflight.trans hclear)⟩

end Sys2Proof.Machine

/-! A take whose stop is fixed: CLOSING, its markers trimmed, and at its end when it has passed all frames below the stop (R46, R47, R55–R57,
R78, R142). -/

namespace Sys2Proof.Machine

variable {s t u : State} {n b : Nat} {e : QueueEntry} {r : Record}

/-! ### A CLOSING record handed on -/

/-- A slot whose record and amendment flag alone may differ. -/
def MirrorSlot.SameWrites (a b : MirrorSlot) : Prop := b = { a with entry := b.entry, amend := b.amend }

theorem State.modifySlot_self (s : State) (n : Nat) : s.modifySlot n (fun sl => sl) = s := by
  unfold modifySlot
  split
  · rfl
  · rw [show (fun sl : MirrorSlot => sl) = id from rfl, List.modify_id]

/-- A CLOSING record that is handed on changes its slot alone: its flags, and its amendment flag (R73, R87). -/
theorem State.changeRecord_of_closed (hr : s.recordAt n = some r) (hstate : r.state = .closing) :
    ∃ g : MirrorSlot → MirrorSlot, s.changeRecord n = s.modifySlot n g ∧ (∀ sl : MirrorSlot, sl.SameWrites (g sl))
      ∧ ∃ h : Record → Record, (∀ sl, (g sl).entry = sl.entry.mapRecord h) ∧ (h = id ∨ h = (·.flag .unsaved)) := by
  cases hcan : s.canWriteJournal with
  | false =>
    rw [changeRecord_of_barred hr hcan, modifyRecord, modifySlot_modifySlot]
    exact ⟨_, rfl, fun _ => rfl, (·.flag .unsaved), fun _ => rfl, .inr rfl⟩
  | true =>
    rw [changeRecord_of_closing hr hcan hstate]
    split
    · exact ⟨_, rfl, fun _ => rfl, id, fun sl => sl.entry.mapRecord_id.symm, .inl rfl⟩
    · exact ⟨fun sl => sl, (s.modifySlot_self n).symm, fun _ => rfl, id, fun sl => sl.entry.mapRecord_id.symm, .inl rfl⟩

theorem hasFlag_unsaved_or {h : Record → Record} (hh : h = id ∨ h = (·.flag .unsaved)) (r : Record) :
    h r = { r with flags := (h r).flags } ∧ ∀ f : TakeFlag, hasFlag r.flags f = true → hasFlag (h r).flags f = true := by
  rcases hh with rfl | rfl
  · exact ⟨rfl, fun _ hf => hf⟩
  · exact ⟨rfl, fun f hf => hasFlag_setFlag _ f _ hf⟩

/-! ### Markers trimmed (R78) -/

/-- A record without the markers at or beyond a stop. -/
def Record.trimmedTo (stop : Nat) (r r' : Record) : Prop :=
  r' = { r with markers := r.markers.filter fun m => decide (m.frame + r.start < stop), flags := r'.flags }
    ∧ (∀ f : TakeFlag, hasFlag r.flags f = true → hasFlag r'.flags f = true)
    ∧ ((∃ m ∈ r.markers, stop ≤ m.frame + r.start) → hasFlag r'.flags .markersDropped = true)

/-- Markers at or beyond the stop of a CLOSING record are removed (R78), and its slot alone changes. -/
theorem State.trimMarkers_eq (hr : s.recordAt n = some r) (hstate : r.state = .closing) :
    ∃ g : MirrorSlot → MirrorSlot, s.trimMarkers n = s.modifySlot n g ∧ (∀ sl : MirrorSlot, sl.SameWrites (g sl))
      ∧ ∃ h : Record → Record, (∀ sl, (g sl).entry = sl.entry.mapRecord h) ∧ r.trimmedTo (r.stop.getD 0) (h r) := by
  generalize hkeep : r.markers.filter (fun m => decide (m.frame + r.start < r.stop.getD 0)) = keep
  by_cases hall : keep.length = r.markers.length
  · have hsame : s.trimMarkers n = s := by simp only [trimMarkers, hr, hkeep, hall, if_true]
    have hmarkers : keep = r.markers := by
      rw [← hkeep]
      exact List.Sublist.eq_of_length List.filter_sublist (by rw [hkeep, hall])
    refine ⟨fun sl => sl, hsame.trans (s.modifySlot_self n).symm, fun _ => rfl, id, fun sl => sl.entry.mapRecord_id.symm, ?_, fun _ hf => hf, ?_⟩
    · rw [hkeep, hmarkers]
      rfl
    · rintro ⟨m, hm, hle⟩
      rw [← hmarkers, ← hkeep, List.mem_filter, decide_eq_true_eq] at hm
      exact absurd hm.2 (not_lt.2 hle)
  · generalize hg : (fun x : Record => Record.flag .markersDropped { x with markers := keep }) = cut
    have hcut : s.trimMarkers n = (s.modifyRecord n cut).changeRecord n := by
      simp only [trimMarkers, hr, hkeep, if_neg hall, hg]
    have hrecord : (s.modifyRecord n cut).recordAt n = some (cut r) := by rw [recordAt_modifyRecord, if_pos rfl, hr]; rfl
    obtain ⟨g, hchange, hsame, h, hentry, hh⟩ := changeRecord_of_closed hrecord (by rw [← hg]; exact hstate)
    obtain ⟨hflags, hmono⟩ := hasFlag_unsaved_or hh (cut r)
    have hdropped : hasFlag (cut r).flags .markersDropped = true := by
      rw [← hg]
      exact hasFlag_setFlag_same ..
    refine ⟨g ∘ fun sl => { sl with entry := sl.entry.mapRecord cut }, ?_, fun sl => ?_, h ∘ cut, fun sl => ?_, ?_, fun f hf => ?_,
      fun _ => hmono _ hdropped⟩
    · rw [hcut, hchange, modifyRecord, modifySlot_modifySlot]
    · have := hsame { sl with entry := sl.entry.mapRecord cut }
      unfold MirrorSlot.SameWrites at this ⊢
      rw [Function.comp_apply, this]
    · rw [Function.comp_apply, hentry]
      exact MirrorEntry.mapRecord_mapRecord ..
    · show h (cut r) = { r with markers := _, flags := (h (cut r)).flags }
      rw [hkeep, hflags, ← hg]
      rfl
    · refine hmono f ?_
      rw [← hg]
      exact hasFlag_setFlag _ f _ hf

/-! ### The stop is fixed -/

/-- A record that has become CLOSING at a stop, before anything of it was sealed or composed (R46, R78). -/
def Record.StopsAt (stop : Nat) (r r' : Record) : Prop :=
  r' = { r with state := .closing, stop := some stop, markers := r.markers.filter fun m => decide (m.frame + r.start < stop), flags := r'.flags }
    ∧ (∀ f : TakeFlag, hasFlag r.flags f = true → hasFlag r'.flags f = true)
    ∧ ((∃ m ∈ r.markers, stop ≤ m.frame + r.start) → hasFlag r'.flags .markersDropped = true)

/-- Fixing a stop changes the slot of the take, and then the take may be at its end. -/
theorem State.closeTake_eq (hr : s.recordAt n = some r) (stop : Nat) : ∃ (g : MirrorSlot → MirrorSlot) (r1 : Record),
    s.closeTake n stop = (s.modifySlot n g).finishIfDone n ∧ (∀ sl : MirrorSlot, sl.SameWrites (g sl))
      ∧ (s.modifySlot n g).recordAt n = some r1 ∧ r.StopsAt stop r1 := by
  generalize hclose : (fun x : Record => { x with state := RecordState.closing, stop := some stop }) = close
  have hrecord : (s.modifyRecord n close).recordAt n = some (close r) := by rw [recordAt_modifyRecord, if_pos rfl, hr]; rfl
  obtain ⟨g, htrim, hsame, h, hentry, htrimmed, hmono, hdropped⟩ := trimMarkers_eq hrecord (by rw [← hclose])
  have hslot : (s.modifyRecord n close).trimMarkers n = s.modifySlot n (g ∘ fun sl => { sl with entry := sl.entry.mapRecord close }) := by
    rw [htrim, modifyRecord, modifySlot_modifySlot]
  refine ⟨g ∘ fun sl => { sl with entry := sl.entry.mapRecord close }, h (close r), ?_, fun sl => ?_, ?_, ?_, ?_, ?_⟩
  · rw [closeTake, hclose, hslot]
  · have := hsame { sl with entry := sl.entry.mapRecord close }
    unfold MirrorSlot.SameWrites at this ⊢
    rw [Function.comp_apply, this]
  · obtain ⟨sl, hsl, hsle⟩ := recordAt_eq_some.1 hr
    refine recordAt_eq_some.2 ⟨_, (slotAt_modifySlot ..).trans (by rw [if_pos rfl, hsl]; rfl), ?_⟩
    rw [Function.comp_apply, hentry]
    dsimp only
    rw [hsle]
    rfl
  · rw [htrimmed, ← hclose]
    rfl
  · rw [← hclose] at hmono ⊢
    exact hmono
  · rw [← hclose] at hdropped ⊢
    exact hdropped

theorem MirrorSlot.SameWrites.slot {g : MirrorSlot → MirrorSlot} (hg : ∀ sl : MirrorSlot, sl.SameWrites (g sl)) {sl : MirrorSlot}
    (hsl : s.slotAt n = some sl) :
    ∃ sl', (s.modifySlot n g).slotAt n = some sl' ∧ sl'.held = sl.held ∧ sl'.inFlight = sl.inFlight := by
  refine ⟨g sl, by rw [State.slotAt_modifySlot, if_pos rfl, hsl]; rfl, ?_, ?_⟩
  all_goals
    have := hg sl
    unfold MirrorSlot.SameWrites at this
    rw [this]

theorem Record.StopsAt.closedAt {stop : Nat} {r1 r' : Record} (h : r.StopsAt stop r1)
    (hr : r' = { r1 with extents := r'.extents, durable := r'.durable }) : r.ClosedAt stop r' := by
  obtain ⟨hsame, hmono, -⟩ := h
  have hflags : r'.flags = r1.flags := by rw [hr]
  refine ⟨?_, fun f hf => hflags ▸ hmono f hf⟩
  rw [hr]
  dsimp only
  rw [hsame]

/-- A take whose stop is fixed, before the grants of the step: what it leaves (R46, R57, R125, R142). -/
theorem State.closesAt_closeTake (hr : s.recordAt n = some r) (he : s.entryOf n = some e) (stop : Nat) :
    s.ClosesAt e r stop (s.closeTake n stop) := by
  obtain ⟨g, r1, hclose, hsame, hrecord, hstops⟩ := closeTake_eq hr stop
  have hr1 := hstops.1
  obtain rfl := index_of_entryOf he
  have hentry : (s.modifySlot e.index g).entryOf e.index = some e := by simpa [entryOf] using he
  rw [hclose]
  rcases lt_or_ge e.next stop with hlt | hge
  · have hgoing : (s.modifySlot e.index g).finishIfDone e.index = s.modifySlot e.index g :=
      finishIfDone_of_going hrecord hentry (.inr (by rw [hr1]; exact hlt))
    rw [hgoing]
    exact ⟨r1, hrecord, hstops.closedAt rfl, fun _ => ⟨by rw [hr1], e.digest, hentry⟩, fun h => absurd h (not_le.2 hlt)⟩
  · obtain ⟨r', hr', hext, hends⟩ := endsDrawing_finishIfDone hrecord hentry (by rw [hr1]) (by rw [hr1]; exact hge)
    refine ⟨r', hr', hstops.closedAt (by rw [hext]), fun h => absurd h (not_lt.2 hge), fun _ => ?_⟩
    exact hends.of_before (by simp) (fun sl hsl => MirrorSlot.SameWrites.slot hsame hsl) (by rw [hr1])

/-- The markers of a take whose stop is fixed that lie at or beyond it leave their mark (R78). -/
theorem State.markersDropped_closeTake (hr : s.recordAt n = some r) (stop : Nat) : ∃ r', (s.closeTake n stop).recordAt n = some r'
    ∧ r.ClosedAt stop r' ∧ ((∃ m ∈ r.markers, stop ≤ m.frame + r.start) → hasFlag r'.flags .markersDropped = true) := by
  obtain ⟨g, r1, hclose, hsame, hrecord, hstops⟩ := closeTake_eq hr stop
  rw [hclose]
  have hr1 := hstops.1
  have hgo : (∃ e, s.entryOf n = some e ∧ stop ≤ e.next) ∨ (s.modifySlot n g).finishIfDone n = s.modifySlot n g := by
    cases he : s.entryOf n with
    | none => exact .inr (finishIfDone_of_unqueued (by simpa [entryOf] using he))
    | some e =>
      rcases lt_or_ge e.next stop with hlt | hge
      · exact .inr (finishIfDone_of_going hrecord (by simpa [entryOf] using he) (.inr (by rw [hr1]; exact hlt)))
      · exact .inl ⟨e, rfl, hge⟩
  rcases hgo with ⟨e, he, hge⟩ | hstay
  · have hentry : (s.modifySlot n g).entryOf n = some e := by simpa [entryOf] using he
    obtain ⟨r', hr', hext, -⟩ := endsDrawing_finishIfDone hrecord hentry (by rw [hr1]) (by rw [hr1]; exact hge)
    refine ⟨r', hr', hstops.closedAt (by rw [hext]), fun h => ?_⟩
    rw [hext]
    exact hstops.2.2 h
  · rw [hstay]
    exact ⟨r1, hrecord, hstops.closedAt rfl, hstops.2.2⟩

theorem State.ClosesAt.grant {stop : Nat} (h : s.ClosesAt e r stop t) (hport : t.port.Numbered) : s.ClosesAt e r stop t.grant := by
  obtain ⟨r1, hr1, hclosed, hgoing, hdone⟩ := h
  obtain ⟨r', hr', hsame⟩ := t.grantedTo_grant.recordAt hr1
  have hext : r'.extents = r1.extents := by rw [hsame]
  refine ⟨r', hr', ⟨?_, fun f hf => ?_⟩, fun hlt => ?_, fun hge => (hdone hge).grant hport hext⟩
  · rw [hsame]
    dsimp only
    conv_lhs => rw [hclosed.1]
  · have : r'.flags = r1.flags := by rw [hsame]
    rw [this]
    exact hclosed.2 f hf
  · obtain ⟨hsameExt, d, hd⟩ := hgoing hlt
    obtain ⟨d', hd'⟩ := t.grantedTo_grant.entryOf hd
    exact ⟨hext.trans hsameExt, d', hd'⟩

/-- A closing is seen from any state with the same buffers and queue, and the same write flags at its slot. -/
theorem State.ClosesAt.of_before {stop : Nat} (h : u.ClosesAt e r stop t) (hwriter : u.writer = s.writer)
    (hslot : ∀ sl, s.slotAt e.index = some sl → ∃ sl', u.slotAt e.index = some sl' ∧ sl'.held = sl.held ∧ sl'.inFlight = sl.inFlight) :
    s.ClosesAt e r stop t := by
  obtain ⟨r', hr', hclosed, hgoing, hdone⟩ := h
  exact ⟨r', hr', hclosed, hgoing, fun hge => (hdone hge).of_before hwriter hslot rfl⟩

/-! ### What a closing leaves alone -/

/-- A write of the take's slot, or of a buffer. -/
def OpKind.IsWriteOf (n : Nat) (k : OpKind) : Prop := k = .journalWrite n ∨ ∃ b i, k = .segmentWrite b i

theorem State.offers_finishIfDone {P : OpKind → Prop} (h : s.port.Offers P) (hP : ∀ k, OpKind.IsWriteOf n k → P k) : (s.finishIfDone n).port.Offers P := by
  have hseal : (s.sealCurrent n true).port.Offers P := by
    unfold sealCurrent
    repeat' split
    iterate 3 exact h
    exact offers_ask (by simpa [setBuffer, modifyEntry, setQueue] using h) (hP _ (.inr ⟨_, _, rfl⟩)) ..
  unfold finishIfDone
  split
  · split
    · rcases (s.sealCurrent n true).askFinalIfDue_cases n with ⟨-, hask⟩ | ⟨-, hask⟩
      · rw [hask]
        exact offers_askWrite hseal (hP _ (.inl rfl))
      · rw [hask]
        exact hseal
    · exact h
  · exact h

theorem State.otherSlotsKept_finishIfDone (s : State) (n : Nat) : s.OtherSlotsKept n (s.finishIfDone n) := by
  have hseal : s.OtherSlotsKept n (s.sealCurrent n true) := by
    unfold sealCurrent
    repeat' split
    iterate 3 exact ⟨fun _ _ => rfl, rfl⟩
    exact State.otherSlotsKept_modifyRecord _ n _
  unfold finishIfDone
  split
  · split
    · refine hseal.trans ?_
      rcases (s.sealCurrent n true).askFinalIfDue_cases n with ⟨-, hask⟩ | ⟨-, hask⟩
      · rw [hask]
        exact State.otherSlotsKept_askWrite _ n
      · rw [hask]
        exact ⟨fun _ _ => rfl, rfl⟩
    · exact ⟨fun _ _ => rfl, rfl⟩
  · exact ⟨fun _ _ => rfl, rfl⟩

theorem State.finishIfDone_frame_eq (s : State) (n : Nat) : s.finishIfDone n =
    { s with journal := (s.finishIfDone n).journal, port := (s.finishIfDone n).port, writer := (s.finishIfDone n).writer } := by
  obtain ⟨h1, h2, h3, h4, h5, h6, h7, h8, h9, -⟩ := s.finishIfDone_frame n
  generalize s.finishIfDone n = t at *
  cases t
  cases s
  simp only at h1 h2 h3 h4 h5 h6 h7 h8 h9
  simp [h1, h2, h3, h4, h5, h6, h7, h8, h9]

theorem State.closeTake_frame_eq (s : State) (n stop : Nat) : s.closeTake n stop =
    { s with journal := (s.closeTake n stop).journal, port := (s.closeTake n stop).port, writer := (s.closeTake n stop).writer } := by
  obtain ⟨h1, h2, h3, h4, h5, h6, h7, h8, h9, -⟩ := s.closeTake_frame n stop
  generalize s.closeTake n stop = t at *
  cases t
  cases s
  simp only at h1 h2 h3 h4 h5 h6 h7 h8 h9
  simp [h1, h2, h3, h4, h5, h6, h7, h8, h9]

theorem State.otherSlotsKept_closeTake (hr : s.recordAt n = some r) (stop : Nat) : s.OtherSlotsKept n (s.closeTake n stop) := by
  obtain ⟨g, -, hclose, -⟩ := closeTake_eq hr stop
  rw [hclose]
  exact (s.otherSlotsKept_modifySlot n g).trans (State.otherSlotsKept_finishIfDone _ n)

theorem State.offers_closeTake {P : OpKind → Prop} (h : s.port.Offers P) (hP : ∀ k, OpKind.IsWriteOf n k → P k) (hr : s.recordAt n = some r)
    (stop : Nat) : (s.closeTake n stop).port.Offers P := by
  obtain ⟨g, -, hclose, -⟩ := closeTake_eq hr stop
  rw [hclose]
  exact offers_finishIfDone (by simpa using h) hP

theorem State.numbered_closeTake (h : s.port.Numbered) (n stop : Nat) : (s.closeTake n stop).port.Numbered :=
  (State.Moves.closeTake .refl n stop).port_numbered h

/-- After writes of one take were asked beside a sound port, the grants change journal, port and writer alone, and of the journal that
take's slot alone. -/
theorem State.grant_frame_of_writes (h : u.port.Offers (OpKind.IsWriteOf n)) :
    u.grant = { u with journal := u.grant.journal, port := u.grant.port, writer := u.grant.writer } ∧ u.OtherSlotsKept n u.grant := by
  have hverify : u.grant.verify = u.verify := verify_grant_other (h.mono fun k hk => by
    rcases hk with rfl | ⟨b, i, rfl⟩ <;> rfl)
  refine ⟨?_, fun k hk => slotAt_grant_other (h.mono fun x hx => ?_), by simp⟩
  · have hframe := u.grantedTo_grant.frame
    rw [hframe]
    simp only [hverify]
  · rcases hx with rfl | ⟨b, i, rfl⟩
    · simpa using Ne.symm hk
    · simp

end Sys2Proof.Machine

/-! TAIL_END, CUT, STATE, ROLL_LINE_FALL and CLOCK_LOSS: the take that ends, and the station that leaves it. -/

namespace Sys2Proof.Machine

variable {s t u : State} {n : Nat} {r : Record} {w : Wire} {f : Frame}

/-! ### A closing with what the step does beside it -/

/-- A take closed beside a sound port, with what the step leaves of the take engine, the intake and the link controller, after its
grants. -/
theorem State.closed_spec (hport : u.port.Sound) (hr : u.recordAt n = some r) (stop : Nat) (e : Engine) (i : Intake) (l : Link)
    (ht : t = State.grant { u.closeTake n stop with engine := e, intake := i, link := l }) :
    t = { u with engine := e, intake := i, link := l, journal := t.journal, port := t.port, writer := t.writer }
      ∧ u.OtherSlotsKept n t ∧ (∀ x, u.entryOf n = some x → u.ClosesAt x r stop t)
      ∧ ∃ r', t.recordAt n = some r' ∧ r.ClosedAt stop r'
        ∧ ((∃ m ∈ r.markers, stop ≤ m.frame + r.start) → hasFlag r'.flags .markersDropped = true) := by
  have hnum := numbered_closeTake hport.numbered n stop
  have hoffers : (u.closeTake n stop).port.Offers (OpKind.IsWriteOf n) := offers_closeTake (hport.offers _) (fun _ h => h) hr stop
  have hframe := u.closeTake_frame_eq n stop
  generalize hv : ({ u.closeTake n stop with engine := e, intake := i, link := l } : State) = v at ht
  have hvport : v.port = (u.closeTake n stop).port := by rw [← hv]
  obtain ⟨hgrant, hslots⟩ := grant_frame_of_writes (u := v) (hvport ▸ hoffers)
  have hkept := (u.otherSlotsKept_closeTake hr stop)
  rw [ht]
  refine ⟨?_, ?_, fun x hx => ?_, ?_⟩
  · rw [hgrant, ← hv]
    rw [hframe]
  · refine State.OtherSlotsKept.trans ?_ hslots
    rw [← hv]
    exact hkept
  · refine ClosesAt.grant ?_ (hvport ▸ hnum)
    rw [← hv]
    exact closesAt_closeTake hr hx stop
  · obtain ⟨r1, hr1, hclosed, hdropped⟩ := markersDropped_closeTake hr stop
    have hr1v : v.recordAt n = some r1 := by rw [← hv]; exact hr1
    obtain ⟨r', hr', hsame⟩ := v.grantedTo_grant.recordAt hr1v
    have hflags : r'.flags = r1.flags := by rw [hsame]
    refine ⟨r', hr', ⟨?_, fun f hf => hflags ▸ hclosed.2 f hf⟩, fun h => hflags ▸ hdropped h⟩
    rw [hsame]
    dsimp only
    conv_lhs => rw [hclosed.1]

/-- A closing of a record whose flags were changed just before is one of the take as it stood. -/
theorem State.ClosesAt.of_modifyRecord {e : QueueEntry} {stop : Nat} {g : Record → Record}
    (h : (s.modifyRecord n g).ClosesAt e r stop t) : s.ClosesAt e r stop t := by
  refine h.of_before (by simp) fun sl hsl => ?_
  rw [slotAt_modifyRecord]
  split
  · next hn =>
    rw [hn] at hsl
    rw [hsl]
    exact ⟨_, rfl, rfl, rfl⟩
  · exact ⟨sl, hsl, rfl, rfl⟩

/-- A take closed by a step that brings the station to STANDBY and announces it (R7, R46, R47, R56). -/
theorem State.closedToStandby_spec (hstate : s.engine.takeState ≠ .standby) (hport : u.port.Sound) (hr : u.recordAt n = some r) (stop : Nat)
    (ht : t = (State.announce s (u.closeTake n stop).enterStandby).grant) :
    t.engine = { u.engine with takeState := .standby }
      ∧ t.intake = { u.intake with armMask := u.intake.nextArm.getD u.intake.armMask, nextArm := none }
      ∧ t.link = u.link.enqueueState t.stateContent
      ∧ t = { u with engine := t.engine, intake := t.intake, journal := t.journal, port := t.port, writer := t.writer, link := t.link }
      ∧ u.OtherSlotsKept n t ∧ (∀ x, u.entryOf n = some x → u.ClosesAt x r stop t)
      ∧ ∃ r', t.recordAt n = some r' ∧ r.ClosedAt stop r'
        ∧ ((∃ m ∈ r.markers, stop ≤ m.frame + r.start) → hasFlag r'.flags .markersDropped = true) := by
  have hframe := u.closeTake_frame_eq n stop
  have hstandby : (u.closeTake n stop).enterStandby = { u.closeTake n stop with
      engine := { u.engine with takeState := .standby }
      intake := { u.intake with armMask := u.intake.nextArm.getD u.intake.armMask, nextArm := none } } := by
    unfold State.enterStandby
    rw [hframe]
  have hannounce : State.announce s (u.closeTake n stop).enterStandby = (u.closeTake n stop).enterStandby.queueState :=
    announce_of_ne fun h => hstate (congrArg (·.1) h)
  rw [hannounce, hstandby] at ht
  obtain ⟨hall, hslots, hcloses, hclosed⟩ := closed_spec hport hr stop _ _ _ (ht.trans (by rw [queueState]))
  refine ⟨by rw [hall], by rw [hall], ?_, ?_, hslots, hcloses, hclosed⟩
  · rw [ht, link_grant_queueState]
    rw [hframe]
  · conv_lhs => rw [hall]
    rw [hall]

/-- A take closed by a step that announces another change of the states. -/
theorem State.closedAndAnnounced_spec (hport : u.port.Sound) (hr : u.recordAt n = some r) (stop : Nat)
    (ht : t = (u.closeTake n stop).queueState.grant) :
    t.link = u.link.enqueueState t.stateContent
      ∧ t = { u with journal := t.journal, port := t.port, writer := t.writer, link := t.link }
      ∧ u.OtherSlotsKept n t ∧ ∀ x, u.entryOf n = some x → u.ClosesAt x r stop t := by
  have hframe := u.closeTake_frame_eq n stop
  have hengine : (u.closeTake n stop).engine = u.engine := by rw [hframe]
  have hintake : (u.closeTake n stop).intake = u.intake := by rw [hframe]
  obtain ⟨hall, hslots, hcloses, -⟩ := closed_spec hport hr stop u.engine u.intake _ (ht.trans (by rw [queueState, ← hengine, ← hintake]))
  refine ⟨?_, ?_, hslots, hcloses⟩
  · rw [ht, link_grant_queueState]
    rw [hframe]
  · conv_lhs => rw [hall]
    rw [hall]

/-! ### TAIL_END (R47) -/

theorem State.tailDue_of_tail {stop : Nat} (hstate : s.engine.takeState = .tail) (hopen : s.engine.openTake = some n)
    (hstop : s.engine.pendingStop = some stop) : s.tailDue = if stop ≤ s.intake.position then some (n, stop) else none := by
  simp only [tailDue, hstate, hopen, hstop]

/-- Settles O19: the take closes at its pending stop. -/
theorem tailEndsAtThePendingStop : Obligations.TailEndsAtThePendingStop := by
  intro s n stop r hport hstate hopen hstop hr
  refine ⟨fun hdue => ?_, fun hearly => ?_⟩
  · have hexec : s.tailIfDue = s.endTail n stop := by
      rw [State.tailIfDue, State.tailDue_of_tail hstate hopen hstop, if_pos hdue]
    obtain ⟨hengine, hintake, hlink, hframe, -, hcloses, hclosed⟩ := State.closedToStandby_spec (s := s) (t := s.endTail n stop)
      (u := s.clearOpen) (n := n) (r := r) (by simp [hstate]) hport hr stop (by unfold State.endTail; rfl)
    exact ⟨s.endTail n stop, congrArg Host.Outcome.next hexec, hengine, hintake, hclosed, hcloses, hlink, hframe⟩
  · refine congrArg Host.Outcome.next ?_
    rw [State.tailIfDue, State.tailDue_of_tail hstate hopen hstop, if_neg (not_le.2 hearly)]

/-! ### Holders leaving (R45, R46, R48, R51) -/

/-- One of several holders leaves: the holder map alone changes (R45). -/
theorem State.holderLeaves_of_rest (hport : s.port.Sound) {station : Nat} {rest : List TakeKey}
    (hrest : rest = s.engine.holders.filter fun h => h.origin != station) (hne : rest ≠ []) (pt : Point) :
    s.holderLeaves n station pt = { s with engine := { s.engine with holders := rest } } := by
  have hempty : rest.isEmpty = false := by simpa using hne
  unfold holderLeaves
  rw [← hrest]
  dsimp only
  rw [hempty, if_neg Bool.false_ne_true, announce_of_eq (by simp [announced])]
  exact grant_of_portSound _ hport

/-- What is marked on the record at the end of its last hold (R46). -/
def Record.markedOut (pt : Point) (clamped : Bool) (r : Record) : Record := (r.pointFlags pt).flagIf clamped .stopClamped

/-- The last holder leaves (R46): TAIL with a pending stop, or STANDBY with the take CLOSING. -/
theorem State.holderLeaves_last {e : QueueEntry} {p : Profile} {station : Nat} (hstate : s.engine.takeState = .rolling) (hport : s.port.Sound)
    (hrest : (s.engine.holders.filter fun h => h.origin != station) = []) (hr : s.recordAt n = some r) (he : s.entryOf n = some e)
    (hp : s.media.profile = some p) (pt : Point) (ht : t = s.holderLeaves n station pt) :
    s.LastHolderOut n r e p.postRoll pt t ∧ t.link = s.link.enqueueState t.stateContent := by
  generalize hfound : takeStop s.intake.rate p.postRoll r.start pt.position = found
  generalize hs1 : ({ s with engine := { s.engine with holders := [] } } : State) = s1
  have hleaves : s.holderLeaves n station pt = (State.announce s (s1.lastHolderLeft n pt)).grant := by
    unfold holderLeaves
    rw [hrest, ← hs1]
    rfl
  generalize hmark : Record.markedOut pt (decide (found < e.next)) = mark
  have hleft : s1.lastHolderLeft n pt = if s.intake.position < max found e.next then
      { s1.modifyRecord n mark with engine := { (s1.modifyRecord n mark).engine with takeState := .tail, pendingStop := some (max found e.next) } }
      else ((s1.modifyRecord n mark).clearOpen.closeTake n (max found e.next)).enterStandby := by
    have hr1 : s1.recordAt n = some r := by rw [← hs1]; exact hr
    have he1 : s1.entryOf n = some e := by rw [← hs1]; exact he
    have hp1 : s1.media.profile = some p := by rw [← hs1]; exact hp
    have hi1 : s1.intake = s.intake := by rw [← hs1]
    unfold lastHolderLeft
    simp only [hr1, he1, hp1, hi1, hfound]
    rw [← hmark]
    rfl
  have hmarked : (s1.modifyRecord n mark).recordAt n = some { r with
      flags := setFlagIf (decide (found < e.next)) .stopClamped
        (setFlagIf pt.clamped .stampClamped (setFlagIf pt.rateMismatch .rateMismatch r.flags)) } := by
    rw [recordAt_modifyRecord, if_pos rfl, ← hs1, ← hmark]
    exact congrArg (Option.map _) hr
  have hslots : s.OtherSlotsKept n (s1.modifyRecord n mark) := by
    have := s1.otherSlotsKept_modifyRecord n mark
    rw [← hs1] at this ⊢
    exact this
  obtain ⟨j, hj⟩ : ∃ j, s1.modifyRecord n mark = { s1 with journal := j } := ⟨_, s1.modifyRecord_frame_eq n mark⟩
  have hflags (sl : MirrorSlot) (hsl : s.slotAt n = some sl) :
      ∃ sl', (s1.modifyRecord n mark).slotAt n = some sl' ∧ sl'.held = sl.held ∧ sl'.inFlight = sl.inFlight := by
    have hsl1 : s1.slotAt n = some sl := by rw [← hs1]; exact hsl
    exact ⟨{ sl with entry := sl.entry.mapRecord mark }, by rw [slotAt_modifyRecord, if_pos rfl, hsl1]; rfl, rfl, rfl⟩
  rw [hleft] at hleaves
  rw [hj, ← hs1] at hleaves hmarked hslots hflags
  unfold LastHolderOut
  rw [hfound]
  dsimp only
  rw [hleaves] at ht
  by_cases hearly : s.intake.position < max found e.next
  · rw [if_pos hearly] at ht ⊢
    rw [announce_of_ne (by simp [announced, hstate]), grant_of_portSound _ (by exact hport)] at ht
    subst ht
    exact ⟨⟨rfl, hmarked, hslots, rfl⟩, queueState_link_eq _⟩
  · rw [if_neg hearly] at ht ⊢
    obtain rfl := index_of_entryOf he
    obtain ⟨hengine, hintake, hlink, hframe, hkept, hcloses, -⟩ :=
      closedToStandby_spec (s := s) (by simp [hstate]) (by exact hport) (by exact hmarked) (max found e.next) ht
    exact ⟨⟨hengine, (hcloses e he).of_before rfl hflags, hslots.trans hkept, hintake, hframe⟩, hlink⟩

/-- In a sound engine ROLLING has an open take (R37). -/
theorem Engine.Sound.open_of_rolling {e : Engine} (h : e.Sound) (hstate : e.takeState = .rolling) : ∃ n, e.openTake = some n :=
  Option.isSome_iff_exists.1 (h.1.2 (.inl hstate))

theorem State.rollingTake_of_rolling (hstate : s.engine.takeState = .rolling) (hopen : s.engine.openTake = some n) : s.rollingTake = some n := by
  simp [rollingTake, hstate, hopen]

theorem State.rollingTake_of_other (hstate : s.engine.takeState ≠ .rolling) : s.rollingTake = none := by
  simp [rollingTake, hstate]

theorem State.takeCut_of_held (hstate : s.engine.takeState = .rolling) (hopen : s.engine.openTake = some n)
    (hheld : { origin := f.sender, roll := rollNumber f.payload } ∈ s.engine.holders) : s.takeCut f
      = s.holderLeaves n f.sender (convertStamp s.timecode s.intake.rate s.intake.position (stampAt f.payload 2)) := by
  simp only [takeCut, rollingTake_of_rolling hstate hopen, holdsWith, List.contains_iff_mem.2 hheld, if_true]

theorem State.takeCut_of_unheld (h : s.engine.takeState ≠ .rolling ∨ { origin := f.sender, roll := rollNumber f.payload } ∉ s.engine.holders) :
    s.takeCut f = s := by
  unfold takeCut
  split
  · rfl
  · next n hrolling =>
    have hstate : s.engine.takeState = .rolling := by
      by_contra hstate
      simp [rollingTake_of_other hstate] at hrolling
    rcases h with h | h
    · exact absurd hstate h
    · rw [if_neg (by simpa [holdsWith] using h)]

theorem reportsDeparture_iff (bs : List Byte) : reportsDeparture bs = true ↔ field bs 0 1 ∈ [0, 1, 3] := by
  simp [reportsDeparture, or_assoc]

theorem State.takeState_of_departure (hstate : s.engine.takeState = .rolling) (hopen : s.engine.openTake = some n)
    (hreport : field f.payload 0 1 ∈ [0, 1, 3]) (hheld : ∃ h ∈ s.engine.holders, h.origin = f.sender) :
    s.takeState_ f = s.holderLeaves n f.sender (Point.exact s.intake.position) := by
  have hany : (s.engine.holders.any fun h => h.origin == f.sender) = true := by simpa using hheld
  simp only [takeState_, rollingTake_of_rolling hstate hopen, (reportsDeparture_iff _).2 hreport, hany, and_self, if_true]

theorem State.takeState_of_other (h : s.engine.takeState ≠ .rolling ∨ field f.payload 0 1 = 2 ∨ 3 < field f.payload 0 1
    ∨ ∀ h ∈ s.engine.holders, h.origin ≠ f.sender) : s.takeState_ f = s := by
  unfold takeState_
  split
  · rfl
  · next n hrolling =>
    have hstate : s.engine.takeState = .rolling := by
      by_contra hstate
      simp [rollingTake_of_other hstate] at hrolling
    refine if_neg ?_
    rw [reportsDeparture_iff, List.any_eq_true]
    rintro ⟨hreport, x, hx, hsender⟩
    simp only [List.mem_cons, List.not_mem_nil, or_false] at hreport
    rcases h with h | h | h | h
    · exact h hstate
    · omega
    · omega
    · exact h x hx (by simpa using hsender)

/-- Settles O17: the holder that leaves is one of several, or the last (`State.holderLeaves_last`). -/
theorem holdersLeaveByCutOrState : Obligations.HoldersLeaveByCutOrState := by
  refine ⟨?_, ?_⟩
  · rintro w s f _ htaken rfl hengine hport
    obtain ⟨l, hl⟩ := s.exists_noteConflict f
    have hexec : exec (.cut w) s = .next ((s.noteConflict f).takeCut f) := congrArg Host.Outcome.next (s.onFrame_of_taken _ htaken)
    rw [hexec, hl]
    refine ⟨fun h => congrArg Host.Outcome.next (State.takeCut_of_unheld h), fun rest hstate hheld hrest => ?_⟩
    obtain ⟨m, hm⟩ := hengine.open_of_rolling hstate
    have hcut := State.takeCut_of_held (s := { s with link := l }) hstate hm hheld
    refine ⟨fun hne => ?_, fun n r e p hnil hopen hr he hp => ?_⟩
    · rw [hcut]
      exact congrArg Host.Outcome.next (State.holderLeaves_of_rest (s := { s with link := l }) hport hrest hne _)
    · cases hm.symm.trans hopen
      refine ⟨_, congrArg Host.Outcome.next hcut, ?_⟩
      exact State.holderLeaves_last (s := { s with link := l }) hstate hport (hrest.symm.trans hnil) hr he hp _ rfl
  · intro w s f htaken hengine hport
    obtain ⟨l, hl⟩ := s.exists_noteConflict f
    have hexec : exec (.state w) s = .next ((s.noteConflict f).takeState_ f) := congrArg Host.Outcome.next (s.onFrame_of_taken _ htaken)
    rw [hexec, hl]
    refine ⟨fun h => congrArg Host.Outcome.next (State.takeState_of_other h), fun rest hstate hreport hheld hrest => ?_⟩
    obtain ⟨m, hm⟩ := hengine.open_of_rolling hstate
    have hleave := State.takeState_of_departure (s := { s with link := l }) hstate hm hreport hheld
    refine ⟨fun hne => ?_, fun n r e p hnil hopen hr he hp => ?_⟩
    · rw [hleave]
      exact congrArg Host.Outcome.next (State.holderLeaves_of_rest (s := { s with link := l }) hport hrest hne _)
    · cases hm.symm.trans hopen
      refine ⟨_, congrArg Host.Outcome.next hleave, ?_⟩
      exact State.holderLeaves_last (s := { s with link := l }) hstate hport (hrest.symm.trans hnil) hr he hp _ rfl

/-! ### The local line falls (R49, R51) -/

theorem State.cutLocally_of_unheld {edge : Nat} (h : s.engine.takeState ≠ .rolling ∨ { origin := s.link.station, roll := s.engine.ownRoll } ∉ s.engine.holders) :
    s.cutLocally edge = s.queueTransport (.cut s.engine.ownRoll s.timecode.rate (s.labelAt edge)) := by
  unfold cutLocally
  generalize hs1 : s.queueTransport (.cut s.engine.ownRoll s.timecode.rate (s.labelAt edge)) = s1
  have hstation : s1.link.station = s.link.station := by rw [← hs1]; exact Link.station_enqueueTransport ..
  have hengine : s1.engine = s.engine := by rw [← hs1]; rfl
  dsimp only
  split
  · rfl
  · next n hrolling =>
    have hstate : s.engine.takeState = .rolling := by
      by_contra hstate
      rw [← hengine] at hstate
      simp [rollingTake_of_other hstate] at hrolling
    rcases h with h | h
    · exact absurd hstate h
    · rw [if_neg (by simpa [holdsWith, hengine, hstation] using h)]

theorem State.cutLocally_of_held {edge : Nat} (hstate : s.engine.takeState = .rolling) (hopen : s.engine.openTake = some n)
    (hheld : { origin := s.link.station, roll := s.engine.ownRoll } ∈ s.engine.holders) :
    s.cutLocally edge = (s.queueTransport (.cut s.engine.ownRoll s.timecode.rate (s.labelAt edge))).holderLeaves n s.link.station
      (Point.exact edge) := by
  unfold cutLocally
  generalize hs1 : s.queueTransport (.cut s.engine.ownRoll s.timecode.rate (s.labelAt edge)) = s1
  have hstation : s1.link.station = s.link.station := by rw [← hs1]; exact Link.station_enqueueTransport ..
  have hengine : s1.engine = s.engine := by rw [← hs1]; rfl
  have hrolling : s1.rollingTake = some n := rollingTake_of_rolling (by rw [hengine]; exact hstate) (by rw [hengine]; exact hopen)
  simp only [hrolling, holdsWith, hengine, hstation, List.contains_iff_mem.2 hheld, if_true]

/-- Settles O18: without this station's hold the fall has no local effect; with it the hold ends as any other. -/
theorem rollLineFallCutsLocally : Obligations.RollLineFallCutsLocally := by
  rintro edge s s1 _ rfl rfl
  refine ⟨fun h => ?_, fun hline hheld htaken => ?_, ?_, fun level => rfl, fun level => rfl⟩
  · refine congrArg Host.Outcome.next (if_neg ?_)
    rw [s.heldFrom_iff]
    tauto
  · refine congrArg Host.Outcome.next ((if_pos ⟨hline, (s.heldFrom_iff edge).2 hheld⟩).trans ?_)
    dsimp only
    rw [htaken]
    rfl
  · rintro _ hline hheld htaken hengine hport rfl
    generalize hs1 : ({ s with engine := { s.engine with rollLine := some false } } : State) = s1
    have hexec : exec (.rollLineFall edge) s = .next (s1.cutLocally edge) := by
      subst hs1
      exact congrArg Host.Outcome.next ((if_pos ⟨hline, (s.heldFrom_iff edge).2 hheld⟩).trans (if_pos htaken))
    have hstation : s1.link.station = s.link.station := by rw [← hs1]
    have hroll : s1.engine.ownRoll = s.engine.ownRoll := by rw [← hs1]
    have hstate1 : s1.engine.takeState = s.engine.takeState := by rw [← hs1]
    have hholders1 : s1.engine.holders = s.engine.holders := by rw [← hs1]
    have hopen1 : s1.engine.openTake = s.engine.openTake := by rw [← hs1]
    have hcut : s1.queueTransport (.cut s.engine.ownRoll s1.timecode.rate (s1.labelAt edge))
        = s1.queueTransport (.cut s.engine.ownRoll s.timecode.rate (s.labelAt edge)) := by
      rw [← hs1]
      rfl
    generalize hs2 : s1.queueTransport (.cut s.engine.ownRoll s.timecode.rate (s.labelAt edge)) = s2 at hcut ⊢
    have hunheld := State.cutLocally_of_unheld (s := s1) (edge := edge)
    have hcutHeld {k : Nat} := State.cutLocally_of_held (s := s1) (n := k) (edge := edge)
    rw [hstate1, hholders1, hstation, hroll, hcut] at hunheld
    simp only [hstate1, hholders1, hopen1, hstation, hroll, hcut] at hcutHeld
    have hport2 : s2.port.Sound := by rw [← hs2, ← hs1]; exact hport
    rw [hexec]
    refine ⟨fun h => congrArg Host.Outcome.next (hunheld h), fun rest hstate hmem hrest hne => ?_, fun n r e p hstate hmem hall hopen hr he hp => ?_⟩
    · obtain ⟨m, hm⟩ := hengine.open_of_rolling hstate
      refine congrArg Host.Outcome.next ((hcutHeld hstate hm hmem).trans (State.holderLeaves_of_rest hport2 ?_ hne _))
      rw [hrest, ← hs2, ← hs1]
      rfl
    · refine ⟨_, congrArg Host.Outcome.next (hcutHeld hstate hopen hmem), ?_⟩
      have hnone : (s2.engine.holders.filter fun h => h.origin != s.link.station) = [] := by
        rw [← hs2, ← hs1]
        exact List.filter_eq_nil_iff.2 fun h hh => by simp [hall h hh]
      have hstate2 : s2.engine.takeState = .rolling := by rw [← hs2, ← hs1]; exact hstate
      have hr2 : s2.recordAt n = some r := by rw [← hs2, ← hs1]; exact hr
      have he2 : s2.entryOf n = some e := by rw [← hs2, ← hs1]; exact he
      have hp2 : s2.media.profile = some p := by rw [← hs2, ← hs1]; exact hp
      exact State.holderLeaves_last hstate2 hport2 hnone hr2 he2 hp2 _ rfl

end Sys2Proof.Machine

/-! CLOCK_LOSS and FRAME_STORE: the intake frozen, and one frame stored. -/

namespace Sys2Proof.Machine

variable {s t u : State} {n : Nat} {r : Record}

/-! ### CLOCK_LOSS (R2, R57) -/

/-- The open take of a coherent state has a record and a queue entry (R84, R123). -/
theorem State.Coherent.open_take (h : s.Coherent) (hopen : s.engine.openTake = some n) :
    ∃ r e, s.recordAt n = some r ∧ s.entryOf n = some e := by
  obtain ⟨-, -, ⟨-, hqueue, hholds⟩, -⟩ := id h
  obtain ⟨e, he, rfl⟩ := hholds n hopen
  obtain ⟨-, r, hr, -⟩ := hqueue e he
  obtain ⟨-, -, -, x, hx⟩ := h.open_record hopen hr
  exact ⟨r, x, hr, hx⟩

theorem Intake.quiet_loseClock (i : Intake) : i.loseClock.Quiet := by
  refine ⟨fun t => ?_, rfl, fun k => ⟨?_, ?_⟩⟩ <;> simp [Intake.loseClock]

theorem exec_clockLoss_of_running {why : ClockFault} (hclock : s.intake.clock = .running) : exec (.clockLoss why) s
    = .next (if faultIsLoss s.intake.rate why = true then s.loseClock else s) := by
  show Host.Outcome.next _ = _
  rw [State.clockReturnIfDue_of_running hclock]
  simp only [hclock, true_and]

/-- The clock is lost with no take open: the station is OFFLINE (R38). -/
theorem State.loseClock_of_idle (hport : s.port.Sound) (hclock : s.intake.clock = .running) (hengine : s.engine.Sound)
    (hopen : s.engine.openTake = none) : s.loseClock
      = ({ s with intake := s.intake.loseClock, engine := { s.engine with takeState := .offline } } : State).queueState := by
  have hstate : s.engine.takeState = .standby ∨ s.engine.takeState = .offline := by
    have := hengine.1
    rw [hopen] at this
    cases hs : s.engine.takeState <;> simp [hs] at this ⊢
  have hrefresh : ({ s with intake := s.intake.loseClock } : State).refreshStation
      = { s with intake := s.intake.loseClock, engine := { s.engine with takeState := .offline } } := by
    unfold refreshStation
    rcases hstate with hstate | hstate <;> simp [hstate, usable, Intake.loseClock, setTake]
    rw [← hstate]
  have hidle : s.loseClock = (State.announce s (({ s with intake := s.intake.loseClock } : State).refreshStation)).grant := by
    unfold loseClock
    rw [hopen]
  rw [hidle, hrefresh, announce_of_ne (by simp [announced, hclock, Intake.loseClock]), grant_of_portSound]
  exact hport

/-- The clock is lost with a take open: it is cut at the frozen position (R57). -/
theorem State.loseClock_of_open (hport : s.port.Sound) (hclock : s.intake.clock = .running) (hopen : s.engine.openTake = some n)
    (hr : s.recordAt n = some r) :
    s.loseClock.intake = s.intake.loseClock
      ∧ s.loseClock.engine = { s.engine with takeState := .offline, openTake := none, holders := [], pendingStop := none }
      ∧ (∀ e, s.entryOf n = some e → s.ClosesAt e (r.flag .clockLost) (max r.start s.intake.position) s.loseClock)
      ∧ s.loseClock.link = s.link.enqueueState s.loseClock.stateContent
      ∧ s.loseClock = { s with intake := s.loseClock.intake, engine := s.loseClock.engine, journal := s.loseClock.journal
                               port := s.loseClock.port, writer := s.loseClock.writer, link := s.loseClock.link } := by
  generalize hs1 : ({ s with
      intake := s.intake.loseClock
      engine := { s.engine with takeState := .offline, openTake := none, holders := [], pendingStop := none } } : State) = s1
  obtain ⟨j, hj⟩ : ∃ j, s1.modifyRecord n (·.flag .clockLost) = { s1 with journal := j } := ⟨_, s1.modifyRecord_frame_eq n _⟩
  have hcut : s.loseClock = (State.announce s ((s1.modifyRecord n (·.flag .clockLost)).closeTake n (max r.start s.intake.position))).grant := by
    unfold loseClock
    simp only [hopen]
    have hstart : (({ s with intake := s.intake.loseClock } : State).recordAt n) = some r := hr
    unfold cutAtLoss
    rw [hstart, ← hs1]
    rfl
  have hmarked : (s1.modifyRecord n (·.flag .clockLost)).recordAt n = some (r.flag .clockLost) := by
    rw [recordAt_modifyRecord, if_pos rfl, ← hs1]
    exact congrArg (Option.map _) hr
  have hframe := (s1.modifyRecord n (·.flag .clockLost)).closeTake_frame_eq n (max r.start s.intake.position)
  have hannounce : State.announce s ((s1.modifyRecord n (·.flag .clockLost)).closeTake n (max r.start s.intake.position))
      = ((s1.modifyRecord n (·.flag .clockLost)).closeTake n (max r.start s.intake.position)).queueState := by
    refine announce_of_ne fun h => ?_
    have := congrArg (·.2.2) h
    rw [hframe, hj, ← hs1] at this
    simp [announced, hclock, Intake.loseClock] at this
  rw [hannounce] at hcut
  have hport1 : (s1.modifyRecord n (·.flag .clockLost)).port.Sound := by
    rw [hj, ← hs1]
    exact hport
  obtain ⟨hlink, hall, -, hcloses⟩ := closedAndAnnounced_spec hport1 hmarked _ hcut
  generalize s.loseClock = t at *
  refine ⟨?_, ?_, fun e he => ?_, ?_, ?_⟩
  · rw [hall, hj, ← hs1]
  · rw [hall, hj, ← hs1]
  · have hcloses1 := (hcloses e (by rw [hj, ← hs1]; exact he)).of_modifyRecord
    rw [← hs1] at hcloses1
    exact hcloses1
  · rw [hlink, hj, ← hs1]
  · conv_lhs => rw [hall]
    rw [hall, hj, ← hs1]

/-- Settles O8: with no take open the station goes OFFLINE, and an open take is cut at the frozen position. -/
theorem clockLossStopsIntakeAndCutsTheTake : Obligations.ClockLossStopsIntakeAndCutsTheTake := by
  intro why s hcoherent hport
  refine ⟨fun hclock hloss => ?_, fun hclock hloss => ?_, fun hclock hcount => ?_⟩
  · refine ⟨s.loseClock, (exec_clockLoss_of_running hclock).trans (congrArg Host.Outcome.next (if_pos hloss)), ?_⟩
    cases hopen : s.engine.openTake with
    | none =>
      have hpending : s.engine.pendingStop = none := by
        have hengine := hcoherent.1
        by_contra hstop
        have htail := hengine.2.1.1 (Option.isSome_iff_ne_none.2 hstop)
        have := hengine.1.2 (.inr htail)
        simp [hopen] at this
      rw [State.loseClock_of_idle hport hclock hcoherent.1 hopen]
      refine ⟨s.intake.quiet_loseClock, rfl, ?_, fun n r h => by simp at h, State.queueState_link_eq _, rfl⟩
      show ({ s.engine with takeState := .offline } : Engine) = { s.engine with
        takeState := .offline, openTake := none, holders := s.engine.holders, pendingStop := none }
      generalize s.engine = e at hopen hpending
      cases e
      simp only at hopen hpending
      rw [hopen, hpending]
    | some n =>
      obtain ⟨r, e, hr, he⟩ := hcoherent.open_take hopen
      obtain ⟨hintake, hengine, hcloses, hlink, hframe⟩ := State.loseClock_of_open hport hclock hopen hr
      refine ⟨hintake ▸ s.intake.quiet_loseClock, ?_, ?_, ?_, hlink, hframe⟩
      · rw [hintake]
        rfl
      · rw [hengine]
      · rintro _ r' ⟨⟩ hr'
        cases hr.symm.trans hr'
        exact ⟨by rw [hengine], e, he, hcloses e he⟩
  · exact (exec_clockLoss_of_running hclock).trans (congrArg Host.Outcome.next (if_neg (by simp [hloss])))
  · show Host.Outcome.next _ = _
    rw [State.clockReturnIfDue_of_early hcount]
    exact congrArg Host.Outcome.next (if_neg (by simp [hclock]))

/-! ### FRAME_STORE (R1, R5, R11, R14) -/

/-- The charges of a store change the journal, the port and the writer alone. -/
theorem State.chargeAll_shape (s : State) (limit : Nat) : ∃ j p w, s.chargeAll limit = { s with journal := j, port := p, writer := w } := by
  unfold chargeAll
  generalize s.writer.queue.map (·.index) = l
  induction l generalizing s with
  | nil => exact ⟨_, _, _, rfl⟩
  | cons n l ih =>
    obtain ⟨h1, h2, h3, h4, h5, h6, h7, h8, h9, -⟩ := s.chargeTake_frame limit n
    obtain ⟨j, p, w, hframe⟩ := ih (State.chargeTake limit s n)
    refine ⟨j, p, w, hframe.trans ?_⟩
    rw [h1, h2, h3, h4, h5, h6, h7, h8, h9]

theorem exec_frameStore (interval : Nat) (words : Vector (Option Sample) 16) (s : State) : exec (.frameStore interval words) s
    = .next (if s.settleDue.intake.clock = .running ∧ periodValid s.settleDue.intake.rate interval = true then
        (s.settleDue.storeFrame words).grant else s) := rfl

/-- The intake after a store, its position apart (R1, R11, R14). -/
theorem State.storeFrame_eq (s : State) (words : Vector (Option Sample) 16) : s.storeFrame words
    = ({ s.chargeAll (s.intake.position + 1 - ringSlots) with intake := s.intake.store words } : State).advancePosition := by
  unfold storeFrame
  obtain ⟨j, p, w, hframe⟩ := s.chargeAll_shape (s.intake.position + 1 - ringSlots)
  rw [hframe]

theorem State.advancePosition_spec (s : State) : s.advancePosition.intake = { s.intake with position := s.advancePosition.intake.position }
    ∧ s.advancePosition.intake.position = (if s.intake.position + 1 < 2 ^ 48 then s.intake.position + 1
        else (Config.positionPastTop s.freeDraws).toNat)
    ∧ s.advancePosition = { s with intake := s.advancePosition.intake, freeDraws := s.advancePosition.freeDraws } := by
  unfold advancePosition
  by_cases h : s.intake.position + 1 < 2 ^ 48
  · rw [if_pos h, if_pos (show s.intake.position + 1 < positionLimit from h)]
    exact ⟨rfl, rfl, rfl⟩
  · rw [if_neg h, if_neg (show ¬ s.intake.position + 1 < positionLimit from h)]
    exact ⟨rfl, rfl, rfl⟩

theorem LaneState.step_eq (valid : Bool) (x : LaneState) : x.step valid = if valid then .active else if x = .off then .off else .lost := by
  cases x <;> cases valid <;> rfl

/-- Settles O4: the frame formed stands in its slot of the ring, and every other slot as before. -/
theorem frameStoreStoresOneFrame : Obligations.FrameStoreStoresOneFrame := by
  rintro interval words s u rfl
  generalize hu : s.settleDue = u
  refine ⟨fun hclock hvalid => ?_, fun hnot => ?_⟩
  · refine ⟨(u.storeFrame words).grant, ?_, ?_⟩
    · rw [exec_frameStore, hu, if_pos ⟨hclock, hvalid⟩]
    · have hgrantFrame := (u.storeFrame words).grantedTo_grant.frame
      have hgrantIntake : (u.storeFrame words).grant.intake = (u.storeFrame words).intake := by rw [hgrantFrame]
      obtain ⟨hintake, hposition, hframe⟩ := ({ u.chargeAll (u.intake.position + 1 - ringSlots) with
        intake := u.intake.store words } : State).advancePosition_spec
      rw [← u.storeFrame_eq words] at hintake hposition hframe
      obtain ⟨j, p, w, hcharged⟩ := u.chargeAll_shape (u.intake.position + 1 - ringSlots)
      have hstored : u.intake.store words = { u.intake with
          lanes := (u.intake.store words).lanes, windowCount := (u.intake.store words).windowCount
          windowMax := (u.intake.store words).windowMax, ring := (u.intake.store words).ring } := rfl
      have hpos : (u.storeFrame words).intake.position = (if u.intake.position + 1 < 2 ^ 48 then u.intake.position + 1
          else (Config.positionPastTop u.freeDraws).toNat) := by
        rw [hposition]
        rw [hcharged]
        rfl
      generalize hv : u.storeFrame words = v at *
      have hring : v.intake.ring = slotPut (u.intake.position % ringSlots) (u.intake.formFrame words) u.intake.ring := by
        rw [hintake]
        rfl
      have hheldAt : v.intake.oldestHeld = max u.intake.fillStart (v.intake.position - ringSlots) := by
        rw [hintake]
        rfl
      rw [hgrantIntake]
      refine ⟨hpos, fun hroom hfill => ?_, fun hroom q hq hheld => ?_, fun i => ?_, ?_, fun k => ?_, ?_, ?_⟩
      · rw [if_pos hroom] at hpos
        unfold Intake.frameAt
        rw [if_pos, hring]
        · exact slotGet_slotPut_same ..
        · rw [hheldAt, hpos]
          have : ringSlots = 524288 := rfl
          omega
      · rw [if_pos hroom] at hpos
        rw [hheldAt, hpos] at hheld
        have hslots : ringSlots = 524288 := rfl
        have hother : q % ringSlots ≠ u.intake.position % ringSlots := by
          rw [hslots] at hheld ⊢
          omega
        unfold Intake.frameAt
        rw [if_pos (by rw [hheldAt, hpos]; omega), if_pos (by unfold Intake.oldestHeld; omega), hring]
        exact slotGet_slotPut_other hother ..
      · rw [hintake]
        exact (Vector.getElem_ofFn ..).trans (LaneState.step_eq ..)
      · rw [hintake]
        rfl
      · rw [hintake]
        exact Vector.getElem_ofFn ..
      · rw [hintake, hstored]
      · rw [hgrantFrame, hframe]
        rw [hcharged]
  · rw [exec_frameStore, hu, if_neg]
    rintro ⟨h1, h2⟩
    rcases hnot with h | h
    · simp [h1] at h
    · simp [h2] at h

end Sys2Proof.Machine

/-! The charges of a store (R15): each take on its own, whatever the order. -/

namespace Sys2Proof.Machine

variable {s t u : State} {n k : Nat} {e : QueueEntry} {r : Record}

/-- A take that needs another frame next. -/
def QueueEntry.movedTo (upTo : Nat) (e : QueueEntry) : QueueEntry := { e with next := upTo }

/-! ### What one take's steps leave of another -/

/-- Nothing but take `k` is being filled into buffer `b`. -/
def State.OwnBuffer (s : State) (k b : Nat) : Prop := ∀ x ∈ s.writer.queue, x.current = some b → x.index = k

/-- Take `k` stands as it stood: its slot, its queue entry, its own buffers, and what was asked. -/
structure State.KeepsTake (k : Nat) (s t : State) : Prop where
  slot : t.slotAt k = s.slotAt k
  entry : t.entryOf k = s.entryOf k
  asked : ∀ kind a, s.Asked kind a → t.Asked kind a
  own : ∀ b, s.OwnBuffer k b → t.OwnBuffer k b
  buffer : ∀ b, s.OwnBuffer k b → t.buffer b = s.buffer b

namespace State.KeepsTake

theorem refl (k : Nat) (s : State) : s.KeepsTake k s := ⟨rfl, rfl, fun _ _ h => h, fun _ h => h, fun _ _ => rfl⟩

theorem trans (h : s.KeepsTake k t) (h' : t.KeepsTake k u) : s.KeepsTake k u where
  slot := h'.slot.trans h.slot
  entry := h'.entry.trans h.entry
  asked kind a ha := h'.asked kind a (h.asked kind a ha)
  own b hb := h'.own b (h.own b hb)
  buffer b hb := (h'.buffer b (h.own b hb)).trans (h.buffer b hb)

theorem record (h : s.KeepsTake k t) : t.recordAt k = s.recordAt k := by
  unfold State.recordAt
  rw [h.slot]

theorem modifyRecord (s : State) (hk : k ≠ n) (g : Record → Record) : s.KeepsTake k (s.modifyRecord n g) where
  slot := by rw [slotAt_modifyRecord, if_neg hk]
  entry := by simp [State.entryOf]
  asked kind a ha := by
    obtain ⟨op, hop, hkind⟩ := ha
    exact ⟨op, by simpa using hop, hkind⟩
  own b hb := by simpa [OwnBuffer] using hb
  buffer b _ := by simp [State.buffer]

theorem modifyEntry (s : State) (hk : k ≠ n) {g : QueueEntry → QueueEntry} (hindex : ∀ x, (g x).index = x.index)
    (hcurrent : ∀ x b, (g x).current = some b → x.current = some b) : s.KeepsTake k (s.modifyEntry n g) where
  slot := rfl
  entry := by rw [entryOf_modifyEntry _ _ _ _ hindex, if_neg hk]
  asked _ _ ha := ha
  own b hb := by
    intro y hy hc
    obtain ⟨x, hx, rfl⟩ := List.mem_map.1 hy
    by_cases hxn : x.index = n
    · simp only [hxn, if_true] at hc ⊢
      rw [hindex]
      exact hb x hx (hcurrent x b hc)
    · simp only [hxn, if_false] at hc ⊢
      exact hb x hx hc
  buffer _ _ := rfl

theorem askWrite (s : State) (hk : k ≠ n) : s.KeepsTake k (s.askWrite n) where
  slot := (s.otherSlotsKept_askWrite n).1 k hk
  entry := s.entryOf_askWrite n k
  asked _ _ ha := ha.askWrite n
  own b hb := by simpa [OwnBuffer] using hb
  buffer b _ := s.buffer_askWrite n b

theorem sealCurrent (s : State) (hk : k ≠ n) (isLast : Bool) : s.KeepsTake k (s.sealCurrent n isLast) := by
  cases he : s.entryOf n with
  | none => simpa [State.sealCurrent, he] using refl k s
  | some e =>
    cases hc : e.current with
    | none => rw [sealCurrent_of_idle he hc]; exact refl k s
    | some c =>
      cases hb : s.buffer c with
      | free => simpa [State.sealCurrent, he, hc, hb] using refl k s
      | used phase seg =>
        rw [sealCurrent_of_current he hc hb]
        have hlt : c < 8 := s.lt_of_buffer_ne_free (by simp [hb])
        have hset : s.KeepsTake k (s.setBuffer c (.used .ready (seg.close isLast (e.sealedSegs + 1)))) :=
          { refl k s with
            buffer := fun b hown => by
              rw [buffer_setBuffer _ _ _ _ hlt, if_neg]
              rintro rfl
              have hmem := List.mem_of_find?_eq_some he
              exact hk ((index_of_entryOf he).symm.trans (hown e hmem hc)).symm }
        have hseal := (hset.trans (modifyEntry _ hk (g := QueueEntry.afterSeal) (fun _ => rfl) fun _ _ h => by
          simp [QueueEntry.afterSeal] at h)).trans (modifyRecord _ hk (·.shortened seg))
        refine hseal.trans { refl k (s.withSealed n c isLast e seg) with slot := rfl, entry := rfl, buffer := fun _ _ => rfl, own := fun _ h => h, asked := fun kind a ha => ?_ }
        obtain ⟨op, hop, hkind⟩ := ha
        refine ⟨op, ?_, hkind⟩
        simp only [askNew, ask, List.mem_append] at hop ⊢
        tauto

theorem finishIfDone (s : State) (hk : k ≠ n) : s.KeepsTake k (s.finishIfDone n) := by
  unfold State.finishIfDone
  split
  · split
    · refine (sealCurrent s hk true).trans ?_
      rcases (s.sealCurrent n true).askFinalIfDue_cases n with ⟨-, h⟩ | ⟨-, h⟩
      · rw [h]
        exact askWrite _ hk
      · rw [h]
        exact refl k _
    · exact refl k s
  · exact refl k s

theorem chargeTake (s : State) (hk : k ≠ n) (limit : Nat) : s.KeepsTake k (State.chargeTake limit s n) := by
  unfold State.chargeTake
  split
  · split
    · dsimp only
      exact ((modifyRecord s hk _).trans (modifyEntry _ hk (g := QueueEntry.movedTo _) (fun _ => rfl) fun _ _ h => h)).trans (finishIfDone _ hk)
    · exact refl k s
  · exact refl k s

end State.KeepsTake

/-- The charges of other takes leave take `k`. -/
theorem State.keepsTake_chargeAll {l : List Nat} (s : State) (hk : k ∉ l) (limit : Nat) :
    s.KeepsTake k (l.foldl (fun s n => State.chargeTake limit s n) s) := by
  induction l generalizing s with
  | nil => exact .refl k s
  | cons n l ih =>
    rw [List.mem_cons, not_or] at hk
    exact (KeepsTake.chargeTake s hk.1 limit).trans (ih _ hk.2)

/-! ### What the charge of one take leaves at the port -/

theorem State.offers_chargeTake {P : OpKind → Prop} (h : s.port.Offers P) (limit : Nat) (hP : ∀ x, OpKind.IsWriteOf n x → P x) :
    (State.chargeTake limit s n).port.Offers P := by
  unfold chargeTake
  split
  · split
    · exact offers_finishIfDone (by simpa [modifyEntry, setQueue] using h) hP
    · exact h
  · exact h

/-- The charges of other takes ask no write of slot `k`. -/
theorem State.offers_chargeAll {l : List Nat} (h : s.port.Offers (· ≠ .journalWrite k)) (hk : k ∉ l) (limit : Nat) :
    (l.foldl (fun s n => State.chargeTake limit s n) s).port.Offers (· ≠ .journalWrite k) := by
  induction l generalizing s with
  | nil => exact h
  | cons n l ih =>
    rw [List.mem_cons, not_or] at hk
    refine ih (offers_chargeTake h limit fun x hx => ?_) hk.2
    rcases hx with rfl | ⟨b, i, rfl⟩
    · simpa using Ne.symm hk.1
    · simp

/-! ### The take charged -/

theorem Record.charge_shape (q k : Nat) (r : Record) :
    r.charge q k = { r with lost := (r.charge q k).lost, notes := (r.charge q k).notes, flags := (r.charge q k).flags } := by
  unfold Record.charge Record.runNote Record.addNote
  repeat' split
  all_goals rfl

/-- A take that needs no frame below the limit is not charged (R15). -/
theorem State.chargeTake_of_spared (hr : s.recordAt n = some r) (he : s.entryOf n = some e) {limit : Nat}
    (h : limit ≤ e.next ∨ s.needsFrames e = false) : State.chargeTake limit s n = s := by
  have hnot : ¬ (s.needsFrames e = true ∧ e.next < limit) := by
    rintro ⟨h1, h2⟩
    rcases h with h | h
    · exact absurd h2 (not_lt.2 h)
    · simp [h1] at h
  simp only [chargeTake, hr, he, if_neg hnot]

/-- The state of a take charged up to a frame, before it may be at its end. -/
def State.charged (s : State) (n upTo : Nat) (e : QueueEntry) (r : Record) : State :=
  (s.modifyRecord n (·.charge (e.next - r.start) (upTo - e.next))).modifyEntry n (QueueEntry.movedTo upTo)

theorem State.chargeTake_of_behind (hr : s.recordAt n = some r) (he : s.entryOf n = some e) {limit : Nat} (hneeds : s.needsFrames e = true)
    (hlt : e.next < limit) : State.chargeTake limit s n
      = (s.charged n (if r.state = .opened then limit else min limit (r.stop.getD 0)) e r).finishIfDone n := by
  simp only [chargeTake, hr, he, hneeds, hlt, and_self, if_true]
  rfl

theorem State.recordAt_charged (hr : s.recordAt n = some r) (upTo : Nat) :
    (s.charged n upTo e r).recordAt n = some (r.charge (e.next - r.start) (upTo - e.next)) := by
  show (s.modifyRecord n _).recordAt n = _
  rw [recordAt_modifyRecord, if_pos rfl, hr]
  rfl

theorem State.entryOf_charged (he : s.entryOf n = some e) (upTo : Nat) : (s.charged n upTo e r).entryOf n = some { e with next := upTo } := by
  have hentry : (s.modifyRecord n (·.charge (e.next - r.start) (upTo - e.next))).entryOf n = some e := by simpa [entryOf] using he
  refine (entryOf_modifyEntry _ n n (QueueEntry.movedTo upTo) fun _ => rfl).trans ?_
  rw [if_pos rfl, hentry]
  rfl

/-- The end of drawing, seen from a state with the same buffers and the same takes filling them. -/
theorem State.EndsDrawing.of_same_buffers {w : Nat} {e0 : QueueEntry} {r0 r' : Record} (h : u.EndsDrawing e r w t r')
    (he : e = { e0 with next := e.next }) (hbuffer : ∀ c, s.OwnBuffer e0.index c → u.buffer c = s.buffer c)
    (hown : ∀ b, s.OwnBuffer e0.index b → u.OwnBuffer e0.index b)
    (hslot : ∀ sl, s.slotAt e0.index = some sl → ∃ sl', u.slotAt e0.index = some sl' ∧ sl'.held = sl.held ∧ sl'.inFlight = sl.inFlight)
    (hext : r.extents = r0.extents) : s.EndsDrawing e0 r0 w t r' := by
  obtain ⟨hcurrent, hidle⟩ := h
  rw [hext] at hcurrent hidle
  rw [he] at hcurrent hidle
  refine ⟨fun b phase seg hc hb htake hall => hcurrent b phase seg hc ((hbuffer b hall).trans hb) htake (hown b hall), fun hc => ?_⟩
  obtain ⟨hsame, hentry, hfinal⟩ := hidle hc
  refine ⟨hsame, hentry, fun hdone sl hsl hheld => ?_⟩
  obtain ⟨x, hx, hxheld, hxflight⟩ := hslot sl hsl
  obtain ⟨sl', hsl', hflight, hasked⟩ := hfinal hdone x hx (hxheld.trans hheld)
  exact ⟨sl', hsl', hflight, fun hclear => hasked (hxflight.trans hclear)⟩

theorem State.ownBuffer_modifyNext {upTo b m : Nat} (h : s.OwnBuffer m b) :
    (s.modifyEntry n (QueueEntry.movedTo upTo)).OwnBuffer m b := by
  intro y hy hc
  obtain ⟨x, hx, rfl⟩ := List.mem_map.1 hy
  by_cases hxn : x.index = n
  · simp only [hxn, if_true] at hc ⊢
    exact hxn ▸ h x hx hc
  · simp only [hxn, if_false] at hc ⊢
    exact h x hx hc

/-- A take charged up to a frame below its stop goes on; one charged up to its stop is at its end (R15, R125). -/
theorem State.finishIfDone_charged (hr : s.recordAt n = some r) (he : s.entryOf n = some e) {upTo : Nat} :
    ((r.state ≠ .closing ∨ upTo < r.stop.getD 0) → (s.charged n upTo e r).finishIfDone n = s.charged n upTo e r)
      ∧ (r.state = .closing → r.stop.getD 0 ≤ upTo → ∃ r', ((s.charged n upTo e r).finishIfDone n).recordAt n = some r'
        ∧ r' = { r.charge (e.next - r.start) (upTo - e.next) with extents := r'.extents }
        ∧ s.EndsDrawing e r upTo ((s.charged n upTo e r).finishIfDone n) r') := by
  have hr1 := recordAt_charged (e := e) hr upTo
  have he1 := entryOf_charged (r := r) he upTo
  have hshape := r.charge_shape (e.next - r.start) (upTo - e.next)
  generalize r.charge (e.next - r.start) (upTo - e.next) = x at *
  refine ⟨fun h => finishIfDone_of_going hr1 he1 (by rw [hshape]; exact h), fun hstate hstop => ?_⟩
  obtain ⟨r', hr', hext, hends⟩ := endsDrawing_finishIfDone hr1 he1 (by rw [hshape]; exact hstate) (by rw [hshape]; exact hstop)
  refine ⟨r', hr', hext, hends.of_same_buffers rfl (fun c _ => by simp [charged, buffer, modifyEntry, setQueue]) (fun b hb => ?_) (fun sl hsl => ?_)
    (by rw [hshape])⟩
  · exact ownBuffer_modifyNext (by simpa [OwnBuffer] using hb)
  · obtain rfl := index_of_entryOf he
    refine ⟨{ sl with entry := sl.entry.mapRecord (·.charge (e.next - r.start) (upTo - e.next)) }, ?_, rfl, rfl⟩
    show (s.modifyRecord e.index _).slotAt e.index = _
    rw [slotAt_modifyRecord, if_pos rfl, hsl]
    rfl

/-! ### The queue under charges -/

/-- What comes to an end of a queue entry is its buffer, and the count of its sealed segments. -/
def QueueEntry.MayEnd (x y : QueueEntry) : Prop :=
  y = { x with next := y.next, current := y.current, sealedSegs := y.sealedSegs } ∧ ∀ b, y.current = some b → x.current = some b

theorem State.finishIfDone_queue (s : State) (n : Nat) : ∃ g : QueueEntry → QueueEntry, (s.finishIfDone n).writer.queue = s.writer.queue.map g
    ∧ ∀ x, g x = { x with current := (g x).current, sealedSegs := (g x).sealedSegs } ∧ ∀ b, (g x).current = some b → x.current = some b := by
  have hseal : ∃ g : QueueEntry → QueueEntry, (s.sealCurrent n true).writer.queue = s.writer.queue.map g
      ∧ ∀ x, g x = { x with current := (g x).current, sealedSegs := (g x).sealedSegs } ∧ ∀ b, (g x).current = some b → x.current = some b := by
    have hsame : ∃ g : QueueEntry → QueueEntry, s.writer.queue = s.writer.queue.map g
        ∧ ∀ x, g x = { x with current := (g x).current, sealedSegs := (g x).sealedSegs } ∧ ∀ b, (g x).current = some b → x.current = some b :=
      ⟨id, by simp, fun x => ⟨rfl, fun _ h => h⟩⟩
    unfold sealCurrent
    repeat' split
    iterate 3 exact hsame
    refine ⟨fun x => if x.index = n then x.afterSeal else x, by simp [askNew, ask, modifyEntry, setQueue, setBuffer]; exact fun a _ => rfl, fun x => ?_⟩
    dsimp only
    split
    · exact ⟨rfl, fun b h => by simp [QueueEntry.afterSeal] at h⟩
    · exact ⟨rfl, fun _ h => h⟩
  unfold finishIfDone
  split
  · split
    · rcases (s.sealCurrent n true).askFinalIfDue_cases n with ⟨-, h⟩ | ⟨-, h⟩
      · rw [h]
        simpa using hseal
      · rw [h]
        exact hseal
    · exact ⟨id, by simp, fun x => ⟨rfl, fun _ h => h⟩⟩
  · exact ⟨id, by simp, fun x => ⟨rfl, fun _ h => h⟩⟩

theorem State.chargeTake_queue (limit : Nat) (s : State) (n : Nat) : ∃ g : QueueEntry → QueueEntry,
    (State.chargeTake limit s n).writer.queue = s.writer.queue.map g ∧ ∀ x : QueueEntry, x.MayEnd (g x) := by
  unfold chargeTake
  split
  · split
    · dsimp only
      rename_i r e _ _ _
      generalize (if r.state = .opened then limit else min limit (r.stop.getD 0)) = upTo
      obtain ⟨g, hg, hends⟩ := State.finishIfDone_queue ((s.modifyRecord n (·.charge (e.next - r.start) (upTo - e.next))).modifyEntry n
        (QueueEntry.movedTo upTo)) n
      refine ⟨g ∘ fun x => if x.index = n then x.movedTo upTo else x, hg.trans ?_, fun x => ?_⟩
      · simp [modifyEntry, setQueue]
      · dsimp only [Function.comp_apply]
        obtain ⟨h1, h2⟩ := hends (if x.index = n then x.movedTo upTo else x)
        refine ⟨h1.trans ?_, fun b hb => ?_⟩
        · rw [h1]
          split <;> rfl
        · have := h2 b hb
          split at this <;> exact this
    · exact ⟨id, by simp, fun x => ⟨rfl, fun _ h => h⟩⟩
  · exact ⟨id, by simp, fun x => ⟨rfl, fun _ h => h⟩⟩

theorem State.chargeAll_indices (l : List Nat) (s : State) (limit : Nat) :
    (l.foldl (fun s n => State.chargeTake limit s n) s).writer.queue.map (·.index) = s.writer.queue.map (·.index) := by
  induction l generalizing s with
  | nil => rfl
  | cons n l ih =>
    obtain ⟨g, hg, hends⟩ := State.chargeTake_queue limit s n
    refine (ih (State.chargeTake limit s n)).trans ?_
    rw [hg, List.map_map]
    refine List.map_congr_left fun x _ => ?_
    rw [Function.comp_apply, (hends x).1]

theorem State.ownBuffer_chargeTake {b m : Nat} (h : s.OwnBuffer m b) (limit : Nat) : (State.chargeTake limit s n).OwnBuffer m b := by
  obtain ⟨g, hg, hends⟩ := State.chargeTake_queue limit s n
  intro y hy hc
  rw [hg] at hy
  obtain ⟨x, hx, rfl⟩ := List.mem_map.1 hy
  rw [(hends x).1]
  exact h x hx ((hends x).2 b hc)

/-- The end of drawing of a take stands while the steps of other takes go on. -/
theorem State.EndsDrawing.keeps {w : Nat} {r' : Record} (h : s.EndsDrawing e r w t r') (hkeeps : t.KeepsTake e.index u)
    (hown : ∀ b, s.OwnBuffer e.index b → t.OwnBuffer e.index b) : s.EndsDrawing e r w u r' := by
  obtain ⟨hcurrent, hidle⟩ := h
  refine ⟨fun b phase seg hc hb htake hall => ?_, fun hc => ?_⟩
  · obtain ⟨⟨⟨ph, seg', hseg, hrest⟩, hasked⟩, hentry, hblocks⟩ := hcurrent b phase seg hc hb htake hall
    rw [← hkeeps.buffer b (hown b hall)] at hseg
    rw [← hkeeps.entry] at hentry
    exact ⟨⟨⟨ph, seg', hseg, hrest⟩, hkeeps.asked _ _ hasked⟩, hentry, hblocks⟩
  · obtain ⟨hsame, hentry, hfinal⟩ := hidle hc
    rw [← hkeeps.entry] at hentry
    refine ⟨hsame, hentry, fun hdone sl hsl hheld => ?_⟩
    obtain ⟨sl', hsl', hflight, hasked⟩ := hfinal hdone sl hsl hheld
    exact ⟨sl', hkeeps.slot.trans hsl', hflight, fun hclear => hkeeps.asked _ _ (hasked hclear)⟩

/-! ### Every take charged -/

/-- A take is charged at its turn, after some takes and before the others. -/
theorem State.chargeAll_at (hnodup : (s.writer.queue.map (·.index)).Nodup) (he : s.entryOf k = some e) (limit : Nat) :
    ∃ s1, s.KeepsTake k s1 ∧ (State.chargeTake limit s1 k).KeepsTake k (s.chargeAll limit)
      ∧ (s.port.Offers (· ≠ .journalWrite k) → s1.port.Offers (· ≠ .journalWrite k))
      ∧ ((State.chargeTake limit s1 k).port.Offers (· ≠ .journalWrite k) → (s.chargeAll limit).port.Offers (· ≠ .journalWrite k)) := by
  have hmem : k ∈ s.writer.queue.map (·.index) := index_of_entryOf he ▸ List.mem_map_of_mem (List.mem_of_find?_eq_some he)
  obtain ⟨a, b, hl⟩ := List.append_of_mem hmem
  rw [hl] at hnodup
  obtain ⟨-, hb, hdisjoint⟩ := List.nodup_append'.1 hnodup
  have hka : k ∉ a := fun h => hdisjoint h List.mem_cons_self
  have hkb : k ∉ b := (List.nodup_cons.1 hb).1
  unfold chargeAll
  rw [hl, List.foldl_append, List.foldl_cons]
  exact ⟨_, keepsTake_chargeAll s hka limit, keepsTake_chargeAll _ hkb limit, fun h => offers_chargeAll h hka limit, fun h => offers_chargeAll h hkb limit⟩

/-- A take that needs no frame below the limit is spared by all charges (R15). -/
theorem State.chargeAll_of_spared (hnodup : (s.writer.queue.map (·.index)).Nodup) (he : s.entryOf k = some e) (hr : s.recordAt k = some r)
    {limit : Nat} (h : limit ≤ e.next ∨ s.needsFrames e = false) :
    (s.chargeAll limit).entryOf k = some e ∧ (s.chargeAll limit).recordAt k = some r
      ∧ (s.port.Offers (· ≠ .journalWrite k) → (s.chargeAll limit).port.Offers (· ≠ .journalWrite k)) := by
  obtain ⟨s1, hbefore, hafter, hoffers, hoffers'⟩ := chargeAll_at hnodup he limit
  have he1 : s1.entryOf k = some e := hbefore.entry.trans he
  have hr1 : s1.recordAt k = some r := hbefore.record.trans hr
  have hneeds : s1.needsFrames e = s.needsFrames e := by
    simp only [needsFrames, index_of_entryOf he, hr, hr1]
  have hsame := chargeTake_of_spared hr1 he1 (hneeds ▸ h)
  rw [hsame] at hafter hoffers'
  exact ⟨hafter.entry.trans he1, hafter.record.trans hr1, hoffers' ∘ hoffers⟩

theorem State.needsFrames_iff (hr : s.recordAt e.index = some r) : s.needsFrames e = true ↔
    r.state = .opened ∨ (r.state = .closing ∧ e.next < r.stop.getD 0) := by
  simp [needsFrames, hr]

/-- A take that has fallen behind is charged up to the limit or its stop (R15, R16, R125). -/
theorem State.chargeAll_of_behind (hnodup : (s.writer.queue.map (·.index)).Nodup) (he : s.entryOf k = some e) (hr : s.recordAt k = some r)
    {limit upTo : Nat} (hlt : e.next < limit) (hcase : r.state = .opened ∧ upTo = limit
      ∨ ∃ stop, r.state = .closing ∧ r.stop = some stop ∧ e.next < stop ∧ upTo = min limit stop) :
    ∃ e' r', (s.chargeAll limit).entryOf k = some e' ∧ (s.chargeAll limit).recordAt k = some r'
      ∧ e' = { e with next := upTo, current := e'.current, sealedSegs := e'.sealedSegs }
      ∧ r' = { r.charge (e.next - r.start) (upTo - e.next) with extents := r'.extents }
      ∧ (r.state = .opened ∨ r.stop ≠ some upTo → r' = r.charge (e.next - r.start) (upTo - e.next) ∧ e' = { e with next := upTo }
        ∧ (s.port.Offers (· ≠ .journalWrite k) → (s.chargeAll limit).port.Offers (· ≠ .journalWrite k)))
      ∧ (r.state = .closing → r.stop = some upTo → s.EndsDrawing e r upTo (s.chargeAll limit) r') := by
  obtain rfl := index_of_entryOf he
  obtain ⟨s1, hbefore, hafter, hoffers, hoffers'⟩ := chargeAll_at hnodup he limit
  have he1 : s1.entryOf e.index = some e := hbefore.entry.trans he
  have hr1 : s1.recordAt e.index = some r := hbefore.record.trans hr
  have hneeds : s1.needsFrames e = true := by
    rw [needsFrames_iff hr1]
    rcases hcase with ⟨h, -⟩ | ⟨stop, h, hstop, hbelow, -⟩
    · exact .inl h
    · exact .inr ⟨h, by rw [hstop]; exact hbelow⟩
  have hcharge := chargeTake_of_behind hr1 he1 hneeds hlt
  have hupTo : (if r.state = .opened then limit else min limit (r.stop.getD 0)) = upTo := by
    rcases hcase with ⟨h, rfl⟩ | ⟨stop, h, hstop, -, rfl⟩
    · rw [if_pos h]
    · rw [if_neg (by simp [h]), hstop]
      rfl
  rw [hupTo] at hcharge
  obtain ⟨hgoing, hdone⟩ := finishIfDone_charged hr1 he1 (upTo := upTo)
  by_cases hgo : r.state = .opened ∨ r.stop ≠ some upTo
  · have hnot : r.state ≠ .closing ∨ upTo < r.stop.getD 0 := by
      rcases hcase with ⟨h, -⟩ | ⟨stop, h, hstop, -, hmin⟩
      · exact .inl (by simp [h])
      · refine .inr ?_
        have hne : stop ≠ upTo := by
          rintro rfl
          rcases hgo with hgo | hgo
          · simp [h] at hgo
          · exact hgo hstop
        rw [hstop, Option.getD_some]
        omega
    rw [hgoing hnot] at hcharge
    rw [hcharge] at hafter hoffers'
    refine ⟨_, _, hafter.entry.trans (entryOf_charged he1 upTo), hafter.record.trans (recordAt_charged hr1 upTo), rfl, rfl,
      fun _ => ⟨rfl, rfl, fun hs => hoffers' ?_⟩, fun h hstop => ?_⟩
    · have := hoffers hs
      simpa [charged, modifyEntry, setQueue] using this
    · rcases hgo with hgo | hgo
      · simp [h] at hgo
      · exact absurd hstop hgo
  · rw [not_or, not_not] at hgo
    obtain ⟨hopen, hstop⟩ := hgo
    have hstate : r.state = .closing := by
      rcases hcase with ⟨h, -⟩ | ⟨_, h, -⟩
      · exact absurd h hopen
      · exact h
    obtain ⟨r', hr', hext, hends⟩ := hdone hstate (by rw [hstop]; exact le_rfl)
    obtain ⟨g, hg, hshape⟩ := State.finishIfDone_queue (s1.charged e.index upTo e r) e.index
    have hentry : ((s1.charged e.index upTo e r).finishIfDone e.index).entryOf e.index = some (g { e with next := upTo }) := by
      have hcharged := entryOf_charged (r := r) he1 upTo
      unfold entryOf at hcharged ⊢
      rw [hg, List.find?_map]
      have hindex : (fun x : QueueEntry => x.index == e.index) ∘ g = fun x => x.index == e.index := by
        funext x
        rw [Function.comp_apply, (hshape x).1]
      rw [hindex, hcharged]
      rfl
    have hown := fun b (h : s1.OwnBuffer e.index b) => State.ownBuffer_chargeTake (n := e.index) h limit
    rw [hcharge] at hafter hown
    refine ⟨_, r', hafter.entry.trans hentry, hafter.record.trans hr', (hshape _).1, hext, fun h => ?_, fun _ _ => ?_⟩
    · rcases h with h | h
      · exact absurd h hopen
      · exact absurd hstop h
    · have hkept := hends.keeps hafter hown
      exact hkept.of_same_buffers rfl hbefore.buffer hbefore.own (fun sl hsl => ⟨sl, hbefore.slot.trans hsl, rfl, rfl⟩) rfl

/-! ### FRAME_STORE, the charges -/

theorem State.entryOf_of_mem (hnodup : (s.writer.queue.map (·.index)).Nodup) (he : e ∈ s.writer.queue) : s.entryOf e.index = some e := by
  unfold entryOf
  generalize s.writer.queue = l at *
  induction l with
  | nil => simp at he
  | cons x l ih =>
    rw [List.map_cons, List.nodup_cons] at hnodup
    rcases List.mem_cons.1 he with rfl | hmem
    · simp
    · have hne : x.index ≠ e.index := fun heq => hnodup.1 (heq ▸ List.mem_map_of_mem hmem)
      rw [List.find?_cons_of_neg (by simpa using hne)]
      exact ih hnodup.2 hmem

/-- A store below the top of the position charges the takes that fell behind, and moves the intake on. -/
theorem State.storeFrame_of_below (s : State) (words : Vector (Option Sample) 16) (h : s.intake.position + 1 < 2 ^ 48) :
    ∃ i : Intake, i.position = s.intake.position + 1
      ∧ s.storeFrame words = { s.chargeAll (s.intake.position + 1 - 524288) with intake := i } := by
  rw [storeFrame_eq]
  unfold advancePosition
  rw [if_pos (show (s.intake.store words).position + 1 < positionLimit from h)]
  exact ⟨_, rfl, rfl⟩

/-- The classes of queued takes at a store: spared, or charged up to a frame. -/
theorem State.spared_or_behind (hr : s.recordAt e.index = some r) (limit : Nat) : (limit ≤ e.next ∨ s.needsFrames e = false)
    ∨ (e.next < limit ∧ ∃ upTo, r.state = .opened ∧ upTo = limit
        ∨ ∃ stop, r.state = .closing ∧ r.stop = some stop ∧ e.next < stop ∧ upTo = min limit stop) := by
  by_cases hnext : limit ≤ e.next
  · exact .inl (.inl hnext)
  · cases hneeds : s.needsFrames e with
    | false => exact .inl (.inr rfl)
    | true =>
      refine .inr ⟨not_le.1 hnext, ?_⟩
      rcases (needsFrames_iff hr).1 hneeds with hopen | ⟨hclosing, hbelow⟩
      · exact ⟨limit, .inl ⟨hopen, rfl⟩⟩
      · cases hstop : r.stop with
        | none => simp [hstop] at hbelow
        | some stop => exact ⟨min limit stop, .inr ⟨stop, hclosing, rfl, by simpa [hstop] using hbelow, rfl⟩⟩

/-- After the charges no take waits for a frame below the limit (R15). -/
theorem State.next_of_chargeAll (hnodup : (s.writer.queue.map (·.index)).Nodup) (he : e ∈ s.writer.queue) (hr : s.recordAt e.index = some r)
    (limit : Nat) : ∃ e' r', (s.chargeAll limit).entryOf e.index = some e' ∧ (s.chargeAll limit).recordAt e.index = some r'
      ∧ (r'.state = .opened ∨ r'.state = .closing ∧ e'.next < r'.stop.getD 0 → limit ≤ e'.next) := by
  have hentry := entryOf_of_mem hnodup he
  rcases spared_or_behind hr limit with hspared | ⟨hlt, upTo, hcase⟩
  · obtain ⟨he', hr', -⟩ := chargeAll_of_spared hnodup hentry hr hspared
    refine ⟨e, r, he', hr', fun hneeds => ?_⟩
    rcases hspared with h | h
    · exact h
    · rw [← needsFrames_iff hr, h] at hneeds
      exact absurd hneeds (by simp)
  · obtain ⟨e', r', he', hr', hent, hrec, -⟩ := chargeAll_of_behind hnodup hentry hr hlt hcase
    refine ⟨e', r', he', hr', fun hneeds => ?_⟩
    have hnext : e'.next = upTo := by rw [hent]
    have hstate : r'.state = r.state := by rw [hrec, r.charge_shape]
    have hstop : r'.stop = r.stop := by rw [hrec, r.charge_shape]
    rw [hnext, hstate, hstop] at hneeds
    rw [hnext]
    rcases hcase with ⟨-, rfl⟩ | ⟨stop, hclosing, hst, -, rfl⟩
    · exact le_rfl
    · rw [hst, hclosing] at hneeds
      simp only [reduceCtorEq, false_or, true_and, Option.getD_some] at hneeds
      omega

/-- Settles O6: each queued take is charged by its own step, which the steps of the others leave as it is. -/
theorem storeChargesEveryTakeThatFellBehind : Obligations.StoreChargesEveryTakeThatFellBehind := by
  rintro interval words s u t rfl
  generalize hu : s.settleDue = u
  intro hclock hvalid hroom hqueue hexec
  obtain ⟨hsorted, hrecords, -⟩ := hqueue
  have hnodup : (u.writer.queue.map (·.index)).Nodup := hsorted.imp ne_of_lt
  rw [exec_frameStore, hu, if_pos ⟨hclock, hvalid⟩] at hexec
  obtain rfl := Host.Outcome.next.inj hexec
  obtain ⟨i, hi, hstore⟩ := u.storeFrame_of_below words hroom
  have hindices : (u.chargeAll (u.intake.position + 1 - 524288)).writer.queue.map (·.index) = u.writer.queue.map (·.index) :=
    State.chargeAll_indices ..
  have hnumbered : u.port.Sound → (u.storeFrame words).port.Numbered := fun hport => by
    rw [hstore]
    exact (State.Moves.chargeAll .refl _).port_numbered hport.numbered
  have hentryOf : ∀ n, (u.storeFrame words).entryOf n = (u.chargeAll (u.intake.position + 1 - 524288)).entryOf n := fun n => by
    rw [hstore]
    rfl
  have hrecordAt : ∀ n, (u.storeFrame words).recordAt n = (u.chargeAll (u.intake.position + 1 - 524288)).recordAt n := fun n => by
    rw [hstore]
    rfl
  have hposition : (u.storeFrame words).grant.intake.position = u.intake.position + 1 := by
    rw [(u.storeFrame words).grantedTo_grant.frame, hstore]
    exact hi
  have hgranted := (u.storeFrame words).grantedTo_grant
  have hkept : ∀ n, (u.chargeAll (u.intake.position + 1 - 524288)).port.Offers (· ≠ .journalWrite n) →
      (u.storeFrame words).grant.recordAt n = (u.chargeAll (u.intake.position + 1 - 524288)).recordAt n := fun n h => by
    have hoffered : (u.storeFrame words).port.Offers (· ≠ .journalWrite n) := by
      rw [hstore]
      exact h
    rw [← hrecordAt n]
    unfold State.recordAt
    rw [State.slotAt_grant_other hoffered]
  refine ⟨fun e he hneeds => ?_, fun e r oldest hport he hr hold => ?_⟩
  · obtain ⟨d, hd⟩ := hgranted.queue
    rw [hd] at he
    obtain ⟨x, hx, rfl⟩ := List.mem_map.1 he
    have hx' : x ∈ (u.chargeAll (u.intake.position + 1 - 524288)).writer.queue := by
      rw [hstore] at hx
      exact hx
    obtain ⟨e0, he0, hindex⟩ := List.mem_map.1 (hindices ▸ List.mem_map_of_mem (f := QueueEntry.index) hx')
    obtain ⟨-, r, hr, -⟩ := hrecords e0 he0
    obtain ⟨e', r', he', hr', hbound⟩ := State.next_of_chargeAll hnodup he0 hr (u.intake.position + 1 - 524288)
    rw [hindex] at he' hr'
    have hsame := (State.entryOf_of_mem (hindices ▸ hnodup) hx').symm.trans he'
    obtain rfl := Option.some.inj hsame
    obtain ⟨r'', hr'', hdur, -⟩ := State.recordAt_grant (u.storeFrame words) ((hrecordAt _).trans hr')
    rw [State.needsFrames_iff (e := { x with digest := d x }) hr'', hdur] at hneeds
    rw [hposition]
    have hslots : ringSlots = 524288 := rfl
    have := hbound hneeds
    dsimp only at this ⊢
    omega
  · have hentry := State.entryOf_of_mem hnodup he
    rw [← hold] at hentryOf hrecordAt hkept hstore
    refine ⟨fun upTo hlt hcase => ?_, fun hspared => ?_⟩
    · obtain ⟨e', r', he', hr', hent, hrec, hgoes, hends⟩ := State.chargeAll_of_behind hnodup hentry hr hlt hcase
      obtain ⟨r'', hr'', hdur, -⟩ := State.recordAt_grant (u.storeFrame words) ((hrecordAt _).trans hr')
      obtain ⟨d, hd⟩ := hgranted.entryOf ((hentryOf _).trans he')
      refine ⟨_, r'', hd, hr'', by rw [hent], by rw [hdur, hrec], fun hgo => ?_, fun hclosing hstop => ?_⟩
      · obtain ⟨hr0, he0, hoffers⟩ := hgoes hgo
        refine ⟨?_, by rw [he0], by rw [he0]⟩
        exact Option.some.inj (hr''.symm.trans ((hkept e.index (hoffers (hport.offers _))).trans (hr'.trans (congrArg some hr0))))
      · refine State.EndsDrawing.grant ?_ (hnumbered hport) (by rw [hdur])
        rw [hstore]
        exact hends hclosing hstop
    · have hspared' : oldest ≤ e.next ∨ u.needsFrames e = false := by
        refine hspared.imp_right fun ⟨hclosing, hstop⟩ => ?_
        rw [Bool.eq_false_iff, ne_eq, State.needsFrames_iff hr, hclosing]
        cases hst : r.stop with
        | none => simp
        | some stop => simpa using hstop stop hst
      obtain ⟨he', hr', hoffers⟩ := State.chargeAll_of_spared hnodup hentry hr hspared'
      obtain ⟨d, hd⟩ := hgranted.entryOf ((hentryOf _).trans he')
      exact ⟨d, hd, (hkept e.index (hoffers (hport.offers _))).trans hr'⟩

end Sys2Proof.Machine

/-! LENGTH_SPLIT: a take continued in another, or cut, at its maximum length (R53, R55, R56). -/

namespace Sys2Proof.Machine

variable {s t u : State} {n x : Nat} {r : Record} {e : QueueEntry}

/-! ### An accepted split (R55) -/

/-- What a split makes of the record of its old take (R55, R78). -/
def Record.splitOff (x : Nat) (r : Record) : Record :=
  { r with state := .closing, stop := some x, markers := r.markers.filter fun m => decide (r.start + m.frame < x) }

/-- An accepted split, before the old take may be at its end. -/
def State.splitAside (s : State) (n x : Nat) (r : Record) : State :=
  let v := (s.modifyRecord n (Record.splitOff x)).addTake ((s.modifyRecord n (Record.splitOff x)).continuation r x (movedMarkers r x)) x
  let v := { v with engine := { v.engine with openTake := some s.journal.nextIndex } }
  if (movedMarkers r x).isEmpty then v else (v.changeRecord n).changeRecord s.journal.nextIndex

theorem State.doSplit_eq (hr : s.recordAt n = some r) : s.doSplit n x = (s.splitAside n x r).finishIfDone n := by
  unfold doSplit
  rw [hr]
  rfl

/-- The slot of a continuation once the write of its record was asked. -/
def MirrorSlot.ofContinuation (c : Record) (held : Bool) (amend : Bool) : MirrorSlot :=
  { entry := .record c, inFlight := !held, amend := amend, firstDone := false, held := held, keptBytes := none }

theorem State.continuation_modifyRecord (s : State) (n : Nat) (g : Record → Record) (old : Record) (m : List Marker) :
    (s.modifyRecord n g).continuation old x m = s.continuation old x m := by
  simp [continuation, labelAt]

/-- What an accepted split leaves beside a sound port, before the old take may be at its end. -/
structure State.SplitAside (s : State) (n x : Nat) (r : Record) (v : State) : Prop where
  frame : v = { s with engine := { s.engine with openTake := some s.journal.nextIndex }, journal := v.journal, port := v.port
                       writer := { s.writer with queue := s.writer.queue ++ [QueueEntry.joining s.journal.nextIndex x] } }
  next : v.journal.nextIndex = s.journal.nextIndex + 1
  record : v.recordAt n = some (r.splitOff x)
  flags : ∀ sl, s.slotAt n = some sl → ∃ sl', v.slotAt n = some sl' ∧ sl'.held = sl.held ∧ sl'.inFlight = sl.inFlight
  others : ∀ k, k ≠ n → k ≠ s.journal.nextIndex → v.slotAt k = s.slotAt k
  numbered : v.port.Numbered
  offers : v.port.Offers fun k => k = .journalWrite n ∨ k = .journalWrite s.journal.nextIndex
  continuation : ∃ a, v.slotAt s.journal.nextIndex = some (.ofContinuation (s.continuation r x (movedMarkers r x))
      (s.provisionalHeld s.journal.nextIndex) a)
    ∧ ((∀ o ∈ s.port.waiting ++ s.port.outstanding, o.kind ≠ .journalWrite s.journal.nextIndex) → a = false)
  asked : s.provisionalHeld s.journal.nextIndex = false → v.Asked (.journalWrite s.journal.nextIndex) 1

/-- A write newly asked is not yet composed (R85). -/
theorem State.composedWrite_askWrite (s : State) (n k : Nat) : (s.askWrite n).composedWrite k = s.composedWrite k := by
  unfold askWrite
  split
  · rfl
  · split
    · rfl
    · split
      · split
        · simp [composedWrite]
        · rfl
      · simp [composedWrite, askNew, ask]

theorem State.composedWrite_eq_none (h : ∀ o ∈ s.port.waiting ++ s.port.outstanding, o.kind ≠ .journalWrite n) : s.composedWrite n = none := by
  refine List.find?_eq_none.2 fun o ho => ?_
  have := h o (by simp only [List.mem_append] at ho ⊢; exact ho.symm)
  simp [this]

/-- The old take CLOSING and the continuation appended are what an accepted split leaves (R55, R84). -/
theorem State.splitAside_appended (hport : s.port.Sound) (hr : s.recordAt n = some r)
    (hnext : s.journal.mirror.length + 1 = s.journal.nextIndex) (hn : n ≠ s.journal.nextIndex)
    (hv : t = { (s.modifyRecord n (Record.splitOff x)).addTake (s.continuation r x (movedMarkers r x)) x with
      engine := { s.engine with openTake := some s.journal.nextIndex } }) :
    s.SplitAside n x r t ∧ t.slotAt s.journal.nextIndex = some (.ofContinuation (s.continuation r x (movedMarkers r x))
        (s.provisionalHeld s.journal.nextIndex) false)
      ∧ t.composedWrite s.journal.nextIndex = s.composedWrite s.journal.nextIndex := by
  obtain ⟨j, hj⟩ : ∃ j, s.modifyRecord n (Record.splitOff x) = { s with journal := j } := ⟨_, s.modifyRecord_frame_eq n _⟩
  have hslots := s.slotAt_modifyRecord n (Record.splitOff x)
  generalize hu : s.modifyRecord n (Record.splitOff x) = u at *
  have hun : u.journal.nextIndex = s.journal.nextIndex := by rw [← hu]; simp
  have hulen : u.journal.mirror.length + 1 = u.journal.nextIndex := by
    rw [hun, ← hnext, ← hu]
    unfold modifyRecord modifySlot
    split <;> simp
  have huport : u.port = s.port := by rw [hj]
  have hheld : u.provisionalHeld s.journal.nextIndex = s.provisionalHeld s.journal.nextIndex := by
    have hbelow := hslots (s.journal.nextIndex - 1)
    unfold provisionalHeld
    by_cases hk : s.journal.nextIndex - 1 = n
    · rw [hbelow, if_pos hk, hk]
      cases s.slotAt n <;> rfl
    · rw [hbelow, if_neg hk]
  obtain ⟨hoffers, hnum, hnextIndex, haddslots, hasked, hqueue, hframe⟩ := State.addTake_spec (s := u) (huport ▸ hport) hulen
    (r := s.continuation r x (movedMarkers r x)) (by rw [hun]; rfl) x
  rw [hun] at hoffers hnextIndex haddslots hasked hqueue
  rw [hheld] at haddslots hasked
  have hcomposed : (u.addTake (s.continuation r x (movedMarkers r x)) x).composedWrite s.journal.nextIndex = s.composedWrite s.journal.nextIndex := by
    unfold addTake
    rw [composedWrite_askWrite, composedWrite, composedWrite]
    rw [huport]
  generalize u.addTake (s.continuation r x (movedMarkers r x)) x = a at *
  have hslot (k : Nat) : t.slotAt k = a.slotAt k := by rw [hv]; rfl
  have hown := (hslot _).trans ((haddslots _).trans (if_pos rfl))
  refine ⟨⟨?_, ?_, ?_, fun sl hsl => ?_, fun k hk hk' => ?_, ?_, ?_, ⟨_, hown, fun _ => rfl⟩, fun h => ?_⟩, hown, ?_⟩
  · rw [hv, hframe, hj]
    dsimp only
    rw [hqueue, hj]
  · rw [hv]
    exact hnextIndex
  · obtain ⟨sl, hsl, hentry⟩ := recordAt_eq_some.1 hr
    refine recordAt_eq_some.2 ⟨{ sl with entry := sl.entry.mapRecord (Record.splitOff x) }, ?_, by rw [hentry]; rfl⟩
    rw [hslot, haddslots, if_neg hn, hslots, if_pos rfl, hsl]
    rfl
  · refine ⟨{ sl with entry := sl.entry.mapRecord (Record.splitOff x) }, ?_, rfl, rfl⟩
    rw [hslot, haddslots, if_neg hn, hslots, if_pos rfl, hsl]
    rfl
  · rw [hslot, haddslots, if_neg hk', hslots, if_neg hk]
  · rw [hv]
    exact hnum
  · rw [hv]
    exact hoffers.mono fun k hk => .inr hk
  · rw [hv]
    exact hasked h
  · rw [hv]
    exact hcomposed

/-- Handing the old take on leaves what an accepted split leaves (R73, R87). -/
theorem State.SplitAside.changeOld (h : s.SplitAside n x r t) (hcan : s.canWriteJournal = true) (hn : n ≠ s.journal.nextIndex) :
    s.SplitAside n x r (t.changeRecord n) ∧ (t.changeRecord n).slotAt s.journal.nextIndex = t.slotAt s.journal.nextIndex
      ∧ (t.changeRecord n).port = t.port := by
  have hcan' : t.canWriteJournal = true := by
    rw [canWriteJournal_congr (s := s) (by rw [h.frame]) (by rw [h.frame])]
    exact hcan
  have hothers := t.otherSlotsKept_changeRecord n
  have hown := hothers.1 _ (Ne.symm hn)
  have hframe := t.changeRecord_frame_eq n
  have hrecord := t.recordAt_changeRecord n n
  rw [if_neg (by simp [hcan'])] at hrecord
  have hportEq : (t.changeRecord n).port = t.port := by
    rw [changeRecord_of_closing h.record hcan' rfl]
    split <;> simp
  have hslot : ∀ sl, t.slotAt n = some sl → ∃ sl', (t.changeRecord n).slotAt n = some sl' ∧ sl'.held = sl.held ∧ sl'.inFlight = sl.inFlight := by
    rw [changeRecord_of_closing h.record hcan' rfl]
    intro sl hsl
    split
    · exact ⟨{ sl with amend := true }, by rw [slotAt_modifySlot, if_pos rfl, hsl]; rfl, rfl, rfl⟩
    · exact ⟨sl, hsl, rfl, rfl⟩
  refine ⟨⟨?_, hothers.2.trans h.next, hrecord.trans h.record, fun sl hsl => ?_, fun k hk hk' => (hothers.1 k hk).trans (h.others k hk hk'),
    hportEq ▸ h.numbered, hportEq ▸ h.offers, by rw [hown]; exact h.continuation, fun hheld => ?_⟩, hown, hportEq⟩
  · conv_lhs => rw [hframe]
    rw [h.frame]
  · obtain ⟨sl1, hsl1, hheld1, hflight1⟩ := h.flags sl hsl
    obtain ⟨sl2, hsl2, hheld2, hflight2⟩ := hslot sl1 hsl1
    exact ⟨sl2, hsl2, hheld2.trans hheld1, hflight2.trans hflight1⟩
  · obtain ⟨op, hop, hkind⟩ := h.asked hheld
    exact ⟨op, hportEq ▸ hop, hkind⟩

/-- Handing the continuation on, whose first write is asked or held back, at most notes an amendment (R86, R87, R88). -/
theorem State.SplitAside.changeNew (h : s.SplitAside n x r t) (hcan : s.canWriteJournal = true) (hn : n ≠ s.journal.nextIndex)
    (hslot : t.slotAt s.journal.nextIndex = some (.ofContinuation (s.continuation r x (movedMarkers r x)) (s.provisionalHeld s.journal.nextIndex) false))
    (hcomposed : t.composedWrite s.journal.nextIndex = s.composedWrite s.journal.nextIndex) :
    s.SplitAside n x r (t.changeRecord s.journal.nextIndex) := by
  have hcan' : t.canWriteJournal = true := by
    rw [canWriteJournal_congr (s := s) (by rw [h.frame]) (by rw [h.frame])]
    exact hcan
  have hr := recordAt_eq_some.2 ⟨_, hslot, rfl⟩
  rw [changeRecord_of_open hr hcan' (show RecordState.opened ≠ .closing by simp)]
  cases hheld : s.provisionalHeld s.journal.nextIndex with
  | true =>
    rw [askWrite_of_held hslot hheld]
    exact h
  | false =>
    rw [askWrite_of_inFlight hslot rfl hheld (by simp [MirrorSlot.ofContinuation, hheld])]
    split
    · next hsome =>
      rw [hcomposed] at hsome
      have hothers := t.otherSlotsKept_modifySlot s.journal.nextIndex fun sl => { sl with amend := true }
      refine ⟨?_, hothers.2.trans h.next, ?_, ?_, fun k hk hk' => (hothers.1 k hk').trans (h.others k hk hk'), by simpa using h.numbered,
        by simpa using h.offers, ⟨true, ?_, fun hnone => ?_⟩, fun hheld' => ?_⟩
      · obtain ⟨j, hj⟩ : ∃ j, t.modifySlot s.journal.nextIndex (fun sl => { sl with amend := true }) = { t with journal := j } :=
          ⟨_, t.modifySlot_frame_eq _ _⟩
        rw [hj]
        rw [h.frame]
      · exact (recordAt_modifySlot t s.journal.nextIndex n (fun sl => { sl with amend := true }) fun _ => rfl).trans h.record
      · intro sl hsl
        rw [hothers.1 n hn]
        exact h.flags sl hsl
      · rw [slotAt_modifySlot, if_pos rfl, hslot, hheld]
        rfl
      · rw [composedWrite_eq_none hnone] at hsome
        simp at hsome
      · obtain ⟨op, hop, hkind⟩ := h.asked hheld'
        exact ⟨op, by simpa using hop, hkind⟩
    · exact h

theorem State.splitAside_spec (hport : s.port.Sound) (hcan : s.canWriteJournal = true) (hr : s.recordAt n = some r)
    (hnext : s.journal.mirror.length + 1 = s.journal.nextIndex) (hn : n ≠ s.journal.nextIndex) : s.SplitAside n x r (s.splitAside n x r) := by
  have hengine : ((s.modifyRecord n (Record.splitOff x)).addTake (s.continuation r x (movedMarkers r x)) x).engine = s.engine := by simp
  unfold splitAside
  rw [continuation_modifyRecord]
  dsimp only
  rw [hengine]
  generalize hv : ({ (s.modifyRecord n (Record.splitOff x)).addTake (s.continuation r x (movedMarkers r x)) x with
    engine := { s.engine with openTake := some s.journal.nextIndex } } : State) = v
  obtain ⟨h, hslot, hcomposed⟩ := splitAside_appended hport hr hnext hn hv.symm
  split
  · exact h
  · obtain ⟨h', hslot', hport'⟩ := h.changeOld hcan hn
    exact h'.changeNew hcan hn (hslot'.trans hslot) (by rw [composedWrite, hport', ← composedWrite]; exact hcomposed)

/-! ### The old take, the continuation, and the grants -/

/-- The queue entries of an accepted split: every old one, and that of the continuation (R55, R123). -/
theorem State.SplitAside.entryOf (h : s.SplitAside n x r t) (hfree : ∀ e ∈ s.writer.queue, e.index ≠ s.journal.nextIndex) (k : Nat) :
    t.entryOf k = if k = s.journal.nextIndex then some (QueueEntry.joining s.journal.nextIndex x) else s.entryOf k := by
  have hqueue : t.writer.queue = s.writer.queue ++ [QueueEntry.joining s.journal.nextIndex x] := by rw [h.frame]
  unfold State.entryOf
  rw [hqueue, List.find?_append]
  split
  · next hk =>
    rw [hk, List.find?_eq_none.2 fun e he => by simpa using hfree e he]
    simp [QueueEntry.joining]
  · next hk =>
    have : ([QueueEntry.joining s.journal.nextIndex x].find? fun e => e.index == k) = none := by
      simpa [QueueEntry.joining] using Ne.symm hk
    rw [this, Option.or_none]

theorem Record.splitOff_closedAt {r' : Record} (h : r' = { r.splitOff x with extents := r'.extents, durable := r'.durable }) :
    r.ClosedAt x r' := by
  have hflags : r'.flags = r.flags := by rw [h]; rfl
  refine ⟨?_, fun f hf => hflags ▸ hf⟩
  have hmarkers : (r.markers.filter fun m => decide (m.frame + r.start < x)) = r.markers.filter fun m => decide (r.start + m.frame < x) :=
    List.filter_congr fun m _ => by rw [add_comm]
  rw [hmarkers]
  conv_lhs => rw [h]
  rw [Record.splitOff, hflags]

/-- The old take of an accepted split has its stop fixed, seen from before the split (R46, R55, R125). -/
theorem State.SplitAside.closesAt (h : s.SplitAside n x r t) (he : s.entryOf n = some e) (hn : n ≠ s.journal.nextIndex)
    (hfree : ∀ e ∈ s.writer.queue, e.index ≠ s.journal.nextIndex) : s.ClosesAt e r x (t.finishIfDone n) := by
  obtain rfl := index_of_entryOf he
  have he1 : t.entryOf e.index = some e := (h.entryOf hfree e.index).trans ((if_neg hn).trans he)
  have hwriter : t.writer = { s.writer with queue := s.writer.queue ++ [QueueEntry.joining s.journal.nextIndex x] } := by rw [h.frame]
  rcases lt_or_ge e.next x with hlt | hge
  · rw [finishIfDone_of_going h.record he1 (.inr hlt)]
    exact ⟨_, h.record, Record.splitOff_closedAt rfl, fun _ => ⟨rfl, e.digest, he1⟩, fun hge => absurd hlt (not_lt.2 hge)⟩
  · obtain ⟨r', hr', hext, hends⟩ := endsDrawing_finishIfDone h.record he1 rfl hge
    refine ⟨r', hr', Record.splitOff_closedAt ?_, fun hlt => absurd hlt (not_lt.2 hge), fun _ => ?_⟩
    · have hdurable : r'.durable = (r.splitOff x).durable := by rw [hext]
      rw [hdurable]
      exact hext
    · refine hends.of_same_buffers rfl (fun c _ => ?_) (fun b hb y hy hc => ?_) h.flags rfl
      · rw [State.buffer, hwriter]
        rfl
      · rw [hwriter] at hy
        rcases List.mem_append.1 hy with hy | hy
        · exact hb y hy hc
        · obtain rfl := List.mem_singleton.1 hy
          simp [QueueEntry.joining] at hc

/-- An accepted split, with the grants of its step (R55, R84, R88, R123). -/
theorem State.splitGranted_spec (hport : s.port.Sound) (hcan : s.canWriteJournal = true) (hr : s.recordAt n = some r)
    (he : s.entryOf n = some e) (hnext : s.journal.mirror.length + 1 = s.journal.nextIndex) (hn : n ≠ s.journal.nextIndex)
    (hfree : ∀ e ∈ s.writer.queue, e.index ≠ s.journal.nextIndex) (ht : t = (s.doSplit n x).grant) :
    s.ClosesAt e r x t ∧ t.recordAt s.journal.nextIndex = some (s.continuation r x (movedMarkers r x))
      ∧ (∃ a d, t.slotAt s.journal.nextIndex = some (.ofContinuation (s.continuation r x (movedMarkers r x))
            (s.provisionalHeld s.journal.nextIndex) a)
          ∧ ((∀ o ∈ s.port.waiting ++ s.port.outstanding, o.kind ≠ .journalWrite s.journal.nextIndex) → a = false)
          ∧ t.entryOf s.journal.nextIndex = some { QueueEntry.joining s.journal.nextIndex x with digest := d })
      ∧ (s.provisionalHeld s.journal.nextIndex = false → t.Asked (.journalWrite s.journal.nextIndex) 1)
      ∧ t.journal.nextIndex = s.journal.nextIndex + 1
      ∧ t.writer.queue.map (·.index) = s.writer.queue.map (·.index) ++ [s.journal.nextIndex]
      ∧ t = { s with engine := { s.engine with openTake := some s.journal.nextIndex }, journal := t.journal, port := t.port, writer := t.writer } := by
  have haside := splitAside_spec (x := x) hport hcan hr hnext hn
  have hcloses := haside.closesAt he hn hfree
  have hentry := (haside.entryOf hfree s.journal.nextIndex).trans (if_pos rfl)
  have hkeeps := State.KeepsTake.finishIfDone (s.splitAside n x r) (Ne.symm hn)
  have hindices : ((s.splitAside n x r).finishIfDone n).writer.queue.map (·.index) = s.writer.queue.map (·.index) ++ [s.journal.nextIndex] := by
    obtain ⟨g, hg, hshape⟩ := (s.splitAside n x r).finishIfDone_queue n
    have hqueue : (s.splitAside n x r).writer.queue = s.writer.queue ++ [QueueEntry.joining s.journal.nextIndex x] := by
      conv_lhs => rw [haside.frame]
    have hsame : (·.index) ∘ g = QueueEntry.index := by
      funext y
      rw [Function.comp_apply, (hshape y).1]
    rw [hg, List.map_map, hsame, hqueue, List.map_append]
    rfl
  have hoffers : ((s.splitAside n x r).finishIfDone n).port.Offers (·.isVerifyRead = false) := by
    refine offers_finishIfDone (haside.offers.mono fun k hk => ?_) fun k hk => ?_
    · rcases hk with rfl | rfl <;> rfl
    · rcases hk with rfl | ⟨b, i, rfl⟩ <;> rfl
  have hnum : ((s.splitAside n x r).finishIfDone n).port.Numbered := (State.Moves.finishIfDone .refl n).port_numbered haside.numbered
  have hnextIndex := ((s.splitAside n x r).otherSlotsKept_finishIfDone n).2.trans haside.next
  have hframe := (s.splitAside n x r).finishIfDone_frame_eq n
  rw [doSplit_eq hr] at ht
  obtain ⟨a, hslot, ha⟩ := haside.continuation
  have hslot' := hkeeps.slot.trans hslot
  have hentry' := hkeeps.entry.trans hentry
  have hframe' : (s.splitAside n x r).finishIfDone n = { s with
      engine := { s.engine with openTake := some s.journal.nextIndex }, journal := ((s.splitAside n x r).finishIfDone n).journal
      port := ((s.splitAside n x r).finishIfDone n).port, writer := ((s.splitAside n x r).finishIfDone n).writer } := by
    obtain ⟨j, p, w, hw⟩ : ∃ j p w, (s.splitAside n x r).finishIfDone n = { s.splitAside n x r with journal := j, port := p, writer := w } :=
      ⟨_, _, _, hframe⟩
    rw [hw]
    rw [haside.frame]
  have hasked := fun h => hkeeps.asked _ _ (haside.asked h)
  generalize (s.splitAside n x r).finishIfDone n = u at *
  have hgranted := u.grantedTo_grant
  rw [← ht] at hgranted
  obtain ⟨rec, hrec, hsame, hdurable⟩ := u.recordAt_grant (recordAt_eq_some.2 ⟨_, hslot', rfl⟩)
  have hzero : rec.durable = 0 := by
    rw [durableBytes_of_entry _ hentry'] at hdurable
    simpa [durableFrames, continuation, QueueEntry.joining] using hdurable
  have hrec' : t.recordAt s.journal.nextIndex = some (s.continuation r x (movedMarkers r x)) := by
    rw [ht, hrec, hsame, hzero]
    rfl
  refine ⟨ht ▸ hcloses.grant hnum, hrec', ?_, fun h => ht ▸ asked_grant hnum (hasked h), ?_, ?_, ?_⟩
  · obtain ⟨sl, hsl, hsl'⟩ := hgranted.slotAt hslot'
    obtain ⟨sl2, hsl2, hentry2⟩ := recordAt_eq_some.1 hrec'
    cases hsl.symm.trans hsl2
    obtain ⟨d, hd⟩ := hgranted.entryOf hentry'
    refine ⟨a, d, ?_, ha, hd⟩
    rw [hsl, hsl', hentry2]
    rfl
  · rw [hgranted.frame]
    exact hnextIndex
  · obtain ⟨d, hd⟩ := hgranted.queue
    rw [hd, List.map_map]
    exact hindices
  · have hverify : t.verify = u.verify := ht ▸ verify_grant_other hoffers
    have hw := hgranted.frame
    rw [hverify] at hw
    have hu : ∃ j p w, u = { s with engine := { s.engine with openTake := some s.journal.nextIndex }, journal := j, port := p, writer := w } :=
      ⟨_, _, _, hframe'⟩
    obtain ⟨j, p, w, hu⟩ := hu
    have hgrant : ∃ j p w, t = { u with journal := j, port := p, writer := w } := ⟨_, _, _, hw⟩
    obtain ⟨j', p', w', ht'⟩ := hgrant
    rw [ht', hu]

/-! ### LENGTH_SPLIT (R53) -/

/-- With a take open the media is READY and no mount in progress: the next take index follows the mirror (R38, R84, R102). -/
theorem State.Coherent.next_of_open (h : s.Coherent) (hopen : s.engine.openTake = some n) :
    s.journal.mirror.length + 1 = s.journal.nextIndex ∧ (∀ e ∈ s.writer.queue, e.index ≠ s.journal.nextIndex) ∧ n ≠ s.journal.nextIndex := by
  obtain ⟨⟨hengine, -, -⟩, ⟨hmount, -, -, hmirror, -⟩, ⟨-, hqueue, hholds⟩, hstation, -⟩ := h
  have hready : s.media.state = .ready := by
    by_contra hready
    have hoffline := hstation.2 fun h => hready h.1
    have hstate := hengine.1 (by simp [hopen])
    rw [hoffline] at hstate
    rcases hstate with h | h <;> cases h
  have hnone : s.media.mount = .none := hmount.2 (by simp [hready])
  obtain ⟨e, he, rfl⟩ := hholds n hopen
  exact ⟨(hmirror (by simp [hnone, Mount.scanning])).1, fun e he => (hqueue e he).1.ne, (hqueue e he).1.ne⟩

theorem State.maxFrames_eq {p : Profile} (hp : s.media.profile = some p) : s.maxFrames = p.maxLength * 60 * s.intake.rate.hz := by
  simp only [maxFrames, hp]

theorem State.lengthDue_eq {p : Profile} (hengine : s.engine.Sound) (hopen : s.engine.openTake = some n) (hr : s.recordAt n = some r)
    (hp : s.media.profile = some p) (hx : x = r.start + p.maxLength * 60 * s.intake.rate.hz) :
    s.lengthDue = if (s.engine.takeState = .rolling ∨ ∃ stop, s.engine.pendingStop = some stop ∧ x < stop) ∧ x ≤ s.intake.position
      then some (n, x) else none := by
  obtain ⟨hopenState, hpending, -⟩ := hengine
  have hcases : (s.engine.takeState = .rolling ∧ s.engine.pendingStop = none)
      ∨ ∃ stop, s.engine.takeState = .tail ∧ s.engine.pendingStop = some stop := by
    rcases hopenState.1 (by simp [hopen]) with h | h
    · refine .inl ⟨h, ?_⟩
      by_contra hne
      have := hpending.1 (Option.isSome_iff_ne_none.2 hne)
      rw [h] at this
      cases this
    · exact .inr ((Option.isSome_iff_exists.1 (hpending.2 h)).imp fun _ hs => ⟨h, hs⟩)
  unfold lengthDue
  simp only [hopen, hr, maxFrames_eq hp, ← hx]
  rcases hcases with ⟨h1, h2⟩ | ⟨stop, h1, h2⟩
  · simp [h1, h2]
  · simp [h1, h2]

theorem exec_lengthSplit (s : State) : exec .lengthSplit s = .next s.lengthIfDue := rfl

/-- Settles O20: before the maximum length, or with a stop at or before it, nothing; a continuation (`State.splitGranted_spec`); or a cut. -/
theorem takeIsSplitAtItsMaximumLength : Obligations.TakeIsSplitAtItsMaximumLength := by
  intro s n x r p hcoherent hport hopen hr hp hx
  have hdue := State.lengthDue_eq hcoherent.1 hopen hr hp hx
  obtain ⟨hstate, hcan, hstates, e, he⟩ := hcoherent.open_record hopen hr
  refine ⟨fun hearly => ?_, fun hbound hreached => ?_⟩
  · rw [exec_lengthSplit, State.lengthIfDue, hdue, if_neg]
    rintro ⟨h, hle⟩
    rcases hearly with hearly | ⟨stop, hstop, hle'⟩
    · exact absurd hle (not_le.2 hearly)
    · rcases h with h | ⟨stop', hstop', hlt⟩
      · have := hcoherent.1.2.1.1 (by simp [hstop])
        rw [h] at this
        cases this
      · rw [hstop] at hstop'
        cases hstop'
        exact absurd hlt (not_lt.2 hle')
  · have hexec : exec .lengthSplit s = .next (s.splitLength n x) := by
      rw [exec_lengthSplit, State.lengthIfDue, hdue, if_pos ⟨hbound, hreached⟩]
    rw [hexec]
    refine ⟨fun hqueue hnext => ⟨_, rfl, ?_⟩, fun hfull => ⟨_, rfl, ?_⟩⟩
    · obtain ⟨hmirror, hfree, hn⟩ := hcoherent.next_of_open hopen
      have haccepted : s.splitAccepted = true := by
        rw [State.splitAccepted, Bool.and_eq_true, decide_eq_true_eq, decide_eq_true_eq]
        exact ⟨hqueue, hnext⟩
      have hsplit : s.splitLength n x = (s.doSplit n x).grant := by
        unfold State.splitLength State.splitAt
        rw [if_pos haccepted, State.announce_of_eq]
        obtain ⟨hintake, -, -, hmedia, -⟩ := s.doSplit_frame n x
        have hengine : (s.doSplit n x).engine = { s.engine with openTake := some s.journal.nextIndex } := by
          rw [State.doSplit_eq hr, (State.finishIfDone_frame _ n).2.2.1, (State.splitAside_spec hport hcan hr hmirror hn).frame]
        simp only [State.announced, hintake, hmedia, hengine]
      obtain ⟨hcloses, hrecord, ⟨a, d, hslot, ha, hentry⟩, hasked, hnextIndex, hindices, hframe⟩ :=
        State.splitGranted_spec hport hcan hr he hmirror hn hfree hsplit
      refine ⟨by rw [hframe], ⟨e, he, hcloses⟩, hrecord, ⟨_, hslot, rfl, rfl, rfl, rfl, ha⟩, hasked, hnextIndex, hindices, by rw [hentry]; rfl, ?_⟩
      conv_lhs => rw [hframe]
      rw [hframe]
    · have haccepted : s.splitAccepted = false := by
        rw [State.splitAccepted, Bool.and_eq_false_iff, decide_eq_false_iff_not, decide_eq_false_iff_not]
        exact hfull.imp not_lt.2 not_le.2
      have hne : s.engine.takeState ≠ .standby := by
        rcases hstates with h | h <;> simp [h]
      generalize hu : s.clearOpen.flagRecord n .splitRefused = u
      obtain ⟨j, hj⟩ : ∃ j, u = { s.clearOpen with journal := j } := ⟨_, hu.symm.trans (State.modifyRecord_frame_eq _ n _)⟩
      have hru : u.recordAt n = some (r.flag .splitRefused) := by
        rw [← hu, State.flagRecord, State.recordAt_modifyRecord, if_pos rfl]
        exact congrArg (Option.map _) hr
      have hcut : s.splitLength n x = (State.announce s (u.closeTake n x).enterStandby).grant := by
        unfold State.splitLength State.splitAt
        rw [if_neg (by simp [haccepted]), State.refuseSplit, hu]
      obtain ⟨hengine, hintake, hlink, hframe, -, hcloses, -⟩ := State.closedToStandby_spec hne (by rw [hj]; exact hport) hru x hcut
      refine ⟨by rw [hengine, hj]; rfl, by rw [hintake, hj]; rfl, ⟨e, he, ?_⟩, by rw [hlink, hj]; rfl, ?_⟩
      · have hclosed := hcloses e (by rw [hj]; exact he)
        rw [← hu] at hclosed
        exact hclosed.of_modifyRecord
      · conv_lhs => rw [hframe]
        rw [hj]
        rfl

end Sys2Proof.Machine

/-! Abandonment (R143) and the media fault (R114, R144). -/

namespace Sys2Proof.Machine

variable {s t u : State} {n k : Nat} {r : Record} {e : QueueEntry} {f : TakeFlag}

/-! ### One take abandoned (R92, R143) -/

/-- An abandoned take before its record is handed on. -/
def State.dropTake (f : TakeFlag) (n : Nat) (e : QueueEntry) (s : State) : State :=
  let s' := (s.withdraw (s.writesOf n)).dropEntry n
  let s' := { s' with writer := { s'.writer with buffers := Vector.ofFn fun i => (s'.writer.buffers[i]).abandon n } }
  s'.modifySlot n fun sl => { sl with entry := sl.entry.mapRecord (·.abandon f e.durBytes), keptBytes := some e.durBytes }

theorem State.abandonTake_of_unqueued (he : s.entryOf n = none) : State.abandonTake f s n = s := by
  simp only [abandonTake, he]

theorem State.abandonTake_of_queued (he : s.entryOf n = some e) : State.abandonTake f s n
    = if s.engine.openTake = some n then (((s.dropTake f n e).changeRecord n).clearOpen).setTake .offline
      else (s.dropTake f n e).changeRecord n := by
  simp only [abandonTake, he]
  rfl

theorem State.dropTake_frame_eq (f : TakeFlag) (n : Nat) (e : QueueEntry) (s : State) : s.dropTake f n e = { s with
    journal := (s.dropTake f n e).journal
    port := { s.port with waiting := s.port.waiting.filter fun op => !s.writesOf n op }
    writer := { queue := s.writer.queue.filter fun e => e.index != n, buffers := Vector.ofFn fun i => (s.writer.buffers[i]).abandon n } } := by
  unfold dropTake
  dsimp only
  rw [modifySlot_frame_eq]
  rfl

theorem State.entryOf_none_filter (he : s.entryOf n = none) : s.writer.queue.filter (fun e => e.index != n) = s.writer.queue := by
  refine List.filter_eq_self.2 fun x hx => ?_
  have := List.find?_eq_none.1 he x hx
  simpa using this

theorem State.slotAt_dropTake (f : TakeFlag) (n : Nat) (e : QueueEntry) (s : State) (k : Nat) : (s.dropTake f n e).slotAt k
    = if k = n then (s.slotAt n).map (fun sl => { sl with entry := sl.entry.mapRecord (·.abandon f e.durBytes), keptBytes := some e.durBytes })
      else s.slotAt k := by
  unfold dropTake
  dsimp only
  rw [slotAt_modifySlot]
  rfl

theorem State.recordAt_dropTake (f : TakeFlag) (n : Nat) (e : QueueEntry) (s : State) :
    (s.dropTake f n e).recordAt n = (s.recordAt n).map (·.abandon f e.durBytes) := by
  unfold recordAt
  rw [slotAt_dropTake, if_pos rfl]
  cases s.slotAt n with
  | none => rfl
  | some sl => cases h : sl.entry <;> simp [h, MirrorEntry.mapRecord, MirrorEntry.record?]

theorem Record.flagIf_false (r : Record) : r.flagIf false f = r := rfl

/-- What one abandonment leaves: the journal apart from one slot, the queue apart from one take, and the rest but the station. -/
theorem State.abandonTake_spec (f : TakeFlag) (s : State) (n : Nat) :
    (State.abandonTake f s n).writer.queue = s.writer.queue.filter (fun e => e.index != n)
      ∧ s.OtherSlotsKept n (State.abandonTake f s n)
      ∧ (∀ e, s.entryOf n = some e → (State.abandonTake f s n).recordAt n = (s.recordAt n).map fun r =>
          (r.abandon f e.durBytes).flagIf (!s.canWriteJournal) .unsaved)
      ∧ (State.abandonTake f s n).engine = (if s.engine.openTake = some n ∧ (s.entryOf n).isSome then
          { s.engine with openTake := none, holders := [], pendingStop := none, takeState := .offline } else s.engine)
      ∧ ∃ e j p w, (State.abandonTake f s n) = { s with engine := e, journal := j, port := p, writer := w } := by
  cases he : s.entryOf n with
  | none =>
    rw [abandonTake_of_unqueued he]
    exact ⟨(entryOf_none_filter he).symm, ⟨fun _ _ => rfl, rfl⟩, by simp, by simp, _, _, _, _, rfl⟩
  | some e =>
    have hdrop := s.dropTake_frame_eq f n e
    have hslots : s.OtherSlotsKept n (s.dropTake f n e) :=
      ⟨fun k hk => by rw [slotAt_dropTake, if_neg hk], by simp [dropTake, dropEntry, setQueue, withdraw]⟩
    have hrecord := s.recordAt_dropTake f n e
    have hcan : (s.dropTake f n e).canWriteJournal = s.canWriteJournal := canWriteJournal_congr (by rw [hdrop]) (by rw [hdrop])
    have hchange := (s.dropTake f n e).recordAt_changeRecord n n
    have hkept := (s.dropTake f n e).otherSlotsKept_changeRecord n
    have hframe := (s.dropTake f n e).changeRecord_frame_eq n
    have hrecord' : ((s.dropTake f n e).changeRecord n).recordAt n = (s.recordAt n).map fun r =>
        (r.abandon f e.durBytes).flagIf (!s.canWriteJournal) .unsaved := by
      rw [hchange, hrecord, hcan]
      cases s.canWriteJournal with
      | true =>
        simp [Record.flagIf_false]
      | false =>
        simp only [and_self, if_true, Option.map_map]
        rfl
    have hq : ((s.dropTake f n e).changeRecord n).writer.queue = s.writer.queue.filter fun e => e.index != n := by
      rw [hframe, hdrop]
    obtain ⟨j, p, hj⟩ : ∃ j p, (s.dropTake f n e).changeRecord n = { s.dropTake f n e with journal := j, port := p } := ⟨_, _, hframe⟩
    have hall : ∃ j p w, (s.dropTake f n e).changeRecord n = { s with journal := j, port := p, writer := w } := by
      rw [hj, hdrop]
      exact ⟨_, _, _, rfl⟩
    have hslots' := hslots.trans hkept
    rw [abandonTake_of_queued he]
    generalize (s.dropTake f n e).changeRecord n = v at *
    obtain ⟨j, p, w, rfl⟩ := hall
    by_cases hopen : s.engine.openTake = some n
    · rw [if_pos hopen, if_pos (by simp [hopen])]
      refine ⟨hq, hslots', ?_, rfl, _, _, _, _, rfl⟩
      rintro _ ⟨⟩
      exact hrecord'
    · rw [if_neg hopen, if_neg (by simp [hopen])]
      refine ⟨hq, hslots', ?_, rfl, _, _, _, _, rfl⟩
      rintro _ ⟨⟩
      exact hrecord'

/-! ### A card that takes no writes: what a fault leaves in its slots (R92, R114) -/

/-- Slot `n` holds a record marked UNSAVED, and no write of it is in flight. -/
def State.MarkedUnsaved (s : State) (n : Nat) : Prop :=
  ∃ sl r, s.slotAt n = some sl ∧ sl.entry = .record r ∧ sl.inFlight = false ∧ hasFlag r.flags .unsaved = true

/-- A change of flags that takes none away. -/
def Record.Flagged (r r' : Record) : Prop := r' = { r with flags := r'.flags } ∧ ∀ f : TakeFlag, hasFlag r.flags f = true → hasFlag r'.flags f = true

theorem Record.Flagged.refl (r : Record) : r.Flagged r := ⟨rfl, fun _ h => h⟩

theorem Record.Flagged.trans {r r' r'' : Record} (h : r.Flagged r') (h' : r'.Flagged r'') : r.Flagged r'' := by
  refine ⟨?_, fun f hf => h'.2 f (h.2 f hf)⟩
  rw [h'.1, h.1]

theorem Record.flagged_flag (r : Record) (f : TakeFlag) : r.Flagged (r.flag f) := ⟨rfl, fun _ hf => hasFlag_setFlag _ _ _ hf⟩

/-- On a card that takes no writes an abandoned take is marked, and any mark of another slot stays (R91, R92). -/
theorem State.MarkedUnsaved.abandonTake (h : s.MarkedUnsaved k) (hcan : s.canWriteJournal = false) (f : TakeFlag) (n : Nat) :
    (State.abandonTake f s n).MarkedUnsaved k := by
  obtain ⟨sl, r, hsl, hentry, hflight, hflag⟩ := h
  by_cases hk : k = n
  · subst hk
    cases he : s.entryOf k with
    | none =>
      rw [abandonTake_of_unqueued he]
      exact ⟨sl, r, hsl, hentry, hflight, hflag⟩
    | some e =>
      have hdrop := s.dropTake_frame_eq f k e
      have hcan' : (s.dropTake f k e).canWriteJournal = false := (canWriteJournal_congr (by rw [hdrop]) (by rw [hdrop])).trans hcan
      have hr : (s.dropTake f k e).recordAt k = some (r.abandon f e.durBytes) := by
        rw [recordAt_dropTake, recordAt_eq_some.2 ⟨sl, hsl, hentry⟩]
        rfl
      have hslot : ((s.dropTake f k e).changeRecord k).MarkedUnsaved k := by
        rw [changeRecord_of_barred hr hcan', modifyRecord, modifySlot_modifySlot]
        refine ⟨{ sl with
          entry := (sl.entry.mapRecord (·.abandon f e.durBytes)).mapRecord (·.flag .unsaved)
          amend := sl.amend || ((s.dropTake f k e).composedWrite k).isSome
          keptBytes := some e.durBytes }, (r.abandon f e.durBytes).flag .unsaved, ?_, ?_, ?_, hasFlag_setFlag_same ..⟩
        · rw [slotAt_modifySlot, if_pos rfl, slotAt_dropTake, if_pos rfl, hsl]
          rfl
        · simp [hentry, MirrorEntry.mapRecord]
        · exact hflight
      rw [abandonTake_of_queued he]
      split
      · exact hslot
      · exact hslot
  · exact ⟨sl, r, ((s.abandonTake_spec f n).2.1.1 k hk).trans hsl, hentry, hflight, hflag⟩

/-- On a card that takes no writes an abandonment only withdraws what waits (R91, R143). -/
theorem State.waiting_abandonTake (hcan : s.canWriteJournal = false) (f : TakeFlag) (n : Nat) :
    ∀ op ∈ (State.abandonTake f s n).port.waiting, op ∈ s.port.waiting := by
  cases he : s.entryOf n with
  | none =>
    rw [abandonTake_of_unqueued he]
    exact fun _ h => h
  | some e =>
    have hdrop := s.dropTake_frame_eq f n e
    have hcan' : (s.dropTake f n e).canWriteJournal = false := (canWriteJournal_congr (by rw [hdrop]) (by rw [hdrop])).trans hcan
    have hport : ((s.dropTake f n e).changeRecord n).port = (s.dropTake f n e).port := by
      unfold changeRecord
      rw [hcan']
      split
      · rfl
      · simp
    have hwaiting : ∀ op ∈ ((s.dropTake f n e).changeRecord n).port.waiting, op ∈ s.port.waiting := by
      rw [hport, hdrop]
      exact fun op hop => List.mem_of_mem_filter hop
    rw [abandonTake_of_queued he]
    split
    · exact hwaiting
    · exact hwaiting

theorem State.entryOf_abandonTake (hk : k ≠ n) (f : TakeFlag) : (State.abandonTake f s n).entryOf k = s.entryOf k := by
  unfold entryOf
  rw [(s.abandonTake_spec f n).1, List.find?_filter]
  refine congrArg (List.find? · s.writer.queue) ?_
  funext x
  by_cases hx : x.index = k
  · simp [hx, hk]
  · simp [hx]

/-- Takes abandoned one after another on a card that takes no writes (R92, R114, R143). -/
theorem State.abandonTakes_spec {l : List Nat} (hl : l.Nodup) (hcan : s.canWriteJournal = false) (f : TakeFlag)
    (ht : t = l.foldl (State.abandonTake f) s) :
    t.writer.queue = s.writer.queue.filter (fun e => decide (e.index ∉ l))
      ∧ (∀ op ∈ t.port.waiting, op ∈ s.port.waiting)
      ∧ (∀ k, k ∉ l → t.slotAt k = s.slotAt k)
      ∧ (∀ k e, k ∈ l → s.entryOf k = some e → t.recordAt k = (s.recordAt k).map fun r => (r.abandon f e.durBytes).flag .unsaved)
      ∧ (∀ k, s.MarkedUnsaved k → t.MarkedUnsaved k)
      ∧ (s.engine.openTake = none → t.engine = s.engine)
      ∧ (∀ n ∈ l, s.engine.openTake = some n → (s.entryOf n).isSome → t.engine =
          { s.engine with openTake := none, holders := [], pendingStop := none, takeState := .offline })
      ∧ ∃ e j p w, t = { s with engine := e, journal := j, port := p, writer := w } := by
  induction l generalizing s with
  | nil =>
    subst ht
    exact ⟨by simp, fun _ h => h, fun _ _ => rfl, by simp, fun _ h => h, fun _ => rfl, by simp, _, _, _, _, rfl⟩
  | cons m l ih =>
    rw [List.nodup_cons] at hl
    obtain ⟨hqueue, hslots, hrecord, hengine, e, j, p, w, hframe⟩ := s.abandonTake_spec f m
    have hcan1 : (State.abandonTake f s m).canWriteJournal = false :=
      (canWriteJournal_congr (by rw [hframe]) (by rw [hframe])).trans hcan
    obtain ⟨hqueue', hwaiting', hslots', hrecord', hmarked', hopen', hown', e', j', p', w', hframe'⟩ := ih hl.2 hcan1 ht
    refine ⟨?_, fun op hop => waiting_abandonTake hcan f m op (hwaiting' op hop), fun k hk => ?_, fun k e hk he => ?_,
      fun k hk => hmarked' k (hk.abandonTake hcan f m), fun hnone => ?_, fun n hn hopen hentry => ?_, e', j', p', w', ?_⟩
    · rw [hqueue', hqueue, List.filter_filter]
      refine List.filter_congr fun x _ => ?_
      simp only [List.mem_cons, not_or, Bool.decide_and, decide_not]
      by_cases hx : x.index = m <;> simp [hx]
    · rw [List.mem_cons, not_or] at hk
      exact (hslots' k hk.2).trans (hslots.1 k hk.1)
    · rcases eq_or_ne k m with rfl | hne
      · have hlast : (State.abandonTake f s k).recordAt k = t.recordAt k := by
          unfold recordAt
          rw [hslots' k hl.1]
        rw [← hlast, hrecord e he, hcan]
        rfl
      · have hkl : k ∈ l := (List.mem_cons.1 hk).resolve_left hne
        have hsame : (State.abandonTake f s m).recordAt k = s.recordAt k := by
          unfold recordAt
          rw [hslots.1 k hne]
        rw [hrecord' k e hkl ((entryOf_abandonTake hne f).trans he), hsame]
    · rw [hopen' (by rw [hengine, if_neg (by simp [hnone])]; exact hnone), hengine, if_neg (by simp [hnone])]
    · by_cases hm : n = m
      · subst hm
        rw [if_pos ⟨hopen, hentry⟩] at hengine
        rw [hopen' (by rw [hengine]), hengine]
      · have hnm : m ≠ n := fun h => hm h.symm
        rw [if_neg (by rw [hopen]; rintro ⟨⟨⟩, -⟩; exact hm rfl)] at hengine
        rw [hown' n ((List.mem_cons.1 hn).resolve_left hm) (by rw [hengine]; exact hopen) (by rw [entryOf_abandonTake hm f]; exact hentry), hengine]
    · rw [hframe', hframe]

/-! ### The writes discarded (R92, R114) -/

/-- A waiting write that is discarded marks its slot, and no other. -/
theorem State.discardWrite_spec (s : State) (op : Op) : (∀ k r, s.recordAt k = some r → ∃ r', (s.discardWrite op).recordAt k = some r' ∧ r.Flagged r')
    ∧ (∀ k, s.MarkedUnsaved k → (s.discardWrite op).MarkedUnsaved k)
    ∧ (∀ k r, op.kind = .journalWrite k → s.recordAt k = some r → (s.discardWrite op).MarkedUnsaved k)
    ∧ ∃ j a b, s.discardWrite op = { s with journal := j, media := { s.media with headerInFlight := a, headerPending := b } } := by
  have hsame : (∀ k r, s.recordAt k = some r → ∃ r', s.recordAt k = some r' ∧ r.Flagged r') := fun k r hr => ⟨r, hr, .refl r⟩
  unfold discardWrite
  split
  · next n hkind =>
    have hslot (k : Nat) : ((s.modifySlot n fun sl => { sl with inFlight := false, amend := false }).flagRecord n .unsaved).slotAt k
        = if k = n then (s.slotAt n).map (fun sl => { sl with inFlight := false, amend := false, entry := sl.entry.mapRecord (·.flag .unsaved) })
          else s.slotAt k := by
      rw [flagRecord, modifyRecord, modifySlot_modifySlot, slotAt_modifySlot]
      rfl
    have hown {k : Nat} {r : Record} (hk : k = n) (hr : s.recordAt k = some r) :
        ((s.modifySlot n fun sl => { sl with inFlight := false, amend := false }).flagRecord n .unsaved).MarkedUnsaved k := by
      obtain ⟨sl, hsl, hentry⟩ := recordAt_eq_some.1 hr
      refine ⟨{ sl with inFlight := false, amend := false, entry := sl.entry.mapRecord (·.flag .unsaved) }, r.flag .unsaved, ?_, ?_, rfl,
        hasFlag_setFlag_same ..⟩
      · rw [hslot, if_pos hk, ← hk, hsl]
        rfl
      · simp [hentry, MirrorEntry.mapRecord]
    refine ⟨fun k r hr => ?_, fun k hk => ?_, fun k r hk hr => ?_, ?_⟩
    · by_cases hkn : k = n
      · obtain ⟨sl, hsl, hentry⟩ := recordAt_eq_some.1 hr
        refine ⟨r.flag .unsaved, recordAt_eq_some.2 ⟨{ sl with inFlight := false, amend := false, entry := sl.entry.mapRecord (·.flag .unsaved) },
          ?_, ?_⟩, r.flagged_flag _⟩
        · rw [hslot, if_pos hkn, ← hkn, hsl]
          rfl
        · simp [hentry, MirrorEntry.mapRecord]
      · refine ⟨r, ?_, .refl r⟩
        unfold recordAt at hr ⊢
        rw [hslot, if_neg hkn]
        exact hr
    · by_cases hkn : k = n
      · obtain ⟨sl, r, hsl, hentry, -, -⟩ := hk
        exact hown hkn (recordAt_eq_some.2 ⟨sl, hsl, hentry⟩)
      · obtain ⟨sl, r, hsl, hrest⟩ := hk
        exact ⟨sl, r, by rw [hslot, if_neg hkn]; exact hsl, hrest⟩
    · rw [hkind] at hk
      cases hk
      exact hown rfl hr
    · rw [flagRecord, modifyRecord, modifySlot_modifySlot, modifySlot_frame_eq]
      exact ⟨_, _, _, rfl⟩
  all_goals
    next hkind => exact ⟨hsame, fun _ h => h, fun k r hk => by simp [hkind] at hk, _, _, _, rfl⟩

theorem State.discardAll_spec {l : List Op} (ht : t = l.foldl State.discardWrite s) :
    (∀ k r, s.recordAt k = some r → ∃ r', t.recordAt k = some r' ∧ r.Flagged r')
      ∧ (∀ k, s.MarkedUnsaved k → t.MarkedUnsaved k)
      ∧ (∀ op ∈ l, ∀ k r, op.kind = .journalWrite k → s.recordAt k = some r → t.MarkedUnsaved k)
      ∧ ∃ j a b, t = { s with journal := j, media := { s.media with headerInFlight := a, headerPending := b } } := by
  induction l generalizing s with
  | nil =>
    subst ht
    exact ⟨fun k r hr => ⟨r, hr, .refl r⟩, fun _ h => h, by simp, _, _, _, rfl⟩
  | cons op l ih =>
    obtain ⟨hrecord, hmarked, hown, j, a, b, hframe⟩ := s.discardWrite_spec op
    obtain ⟨hrecord', hmarked', hown', j', a', b', hframe'⟩ := ih ht
    refine ⟨fun k r hr => ?_, fun k hk => hmarked' k (hmarked k hk), fun x hx k r hk hr => ?_, j', a', b', by rw [hframe', hframe]⟩
    · obtain ⟨r1, hr1, h1⟩ := hrecord k r hr
      obtain ⟨r2, hr2, h2⟩ := hrecord' k r1 hr1
      exact ⟨r2, hr2, h1.trans h2⟩
    · rcases List.mem_cons.1 hx with rfl | hx
      · exact hmarked' k (hown k r hk hr)
      · obtain ⟨r1, hr1, -⟩ := hrecord k r hr
        exact hown' x hx k r1 hk hr1

/-! ### The media fault (R59, R114, R144, R147) -/

/-- A long operation that blocks the journal ends with its report (R114, R119, R147). -/
theorem State.abortPreparation_spec (s : State) :
    s.abortPreparation.verify = { s.verify with slot := if s.verify.slot.blocksJournal = true then .idle else s.verify.slot }
      ∧ s.abortPreparation.link = (match s.verify.slot with
          | .preparing who _ => s.link.enqueueReport
              { dest := who.station, tag := who.tag, kind := RequestKind.prepareMedia.code, outcome := .aborted, detail := .none
                reply := [MediaState.faulted.code] }
          | .releasing who => s.link.enqueueReport
              { dest := who.station, tag := who.tag, kind := RequestKind.releaseMedia.code, outcome := .aborted, detail := .none
                reply := [MediaState.faulted.code] }
          | .idle => s.link
          | .verifying _ _ => s.link)
      ∧ s.abortPreparation.stateContent = s.stateContent
      ∧ s.abortPreparation = { s with verify := s.abortPreparation.verify, link := s.abortPreparation.link } := by
  have hself (h : s.verify.slot.blocksJournal = false) :
      s.verify = { s.verify with slot := if s.verify.slot.blocksJournal = true then .idle else s.verify.slot } := by
    rw [h, if_neg Bool.false_ne_true]
  unfold abortPreparation abortRelease
  cases hslot : s.verify.slot with
  | idle =>
    rw [hslot] at hself
    exact ⟨hself rfl, rfl, rfl, rfl⟩
  | verifying who n =>
    rw [hslot] at hself
    exact ⟨hself rfl, rfl, rfl, rfl⟩
  | preparing who plan => exact ⟨rfl, rfl, stateContent_finalReport .., rfl⟩
  | releasing who => exact ⟨rfl, rfl, stateContent_finalReport .., rfl⟩

theorem State.refreshStation_of_unusable (h : s.usable = false) (hstate : s.engine.takeState = .offline ∨ s.engine.takeState = .standby) :
    s.refreshStation = { s with engine := { s.engine with takeState := .offline } } := by
  unfold refreshStation
  rcases hstate with hstate | hstate <;> rw [hstate] <;> simp only [h, Bool.false_eq_true, if_false]
  · rw [← hstate]
  · rfl

theorem OpKind.priority_le (k : OpKind) : k.priority ≤ 3 := by cases k <;> simp [OpKind.priority]

theorem OpKind.journalSlot_of_reads {k : OpKind} (h : k.priority = 3) : k.journalSlot = none := by
  cases k <;> simp_all [OpKind.priority, OpKind.journalSlot]

theorem OpKind.piece_of_reads {k : OpKind} (h : k.priority = 3) : k.piece = none := by
  cases k <;> simp_all [OpKind.priority, OpKind.piece]

/-- A fault found in a step that so far changed the port's outstanding operations, staging buffers and flags of records (R114). -/
theorem State.faultsMedia_of (hcoherent : s.Coherent) (hfault : s.media.state ≠ .faulted)
    (hframe : ∃ (j : Journal) (p : Port) (w : Writer), u = { s with journal := j, port := { p with waiting := s.port.waiting }, writer := { w with queue := s.writer.queue } })
    (hrecords : ∀ k r, s.recordAt k = some r → ∃ r', u.recordAt k = some r' ∧ r.Flagged r') (ht : t = u.faultMedia.grant) :
    s.FaultsMedia t := by
  obtain ⟨⟨hopenState, -, -⟩, -, ⟨hsorted, hqueued, hholds⟩, -⟩ := hcoherent
  have hnodup : (s.writer.queue.map (·.index)).Nodup := hsorted.imp ne_of_lt
  obtain ⟨ju, pu, wu, hframe⟩ := hframe
  generalize hv0 : (u.setMedia .faulted).withdraw (fun op => op.kind.priority < 3) = v0
  have hv0frame : v0 = { u with
      media := { s.media with state := .faulted }
      port := { u.port with waiting := s.port.waiting.filter fun op => !decide (op.kind.priority < 3) } } := by
    rw [← hv0, hframe]
    rfl
  generalize hv : (s.port.waiting.filter fun op => op.kind.priority < 3).foldl State.discardWrite v0 = v
  obtain ⟨hvrecords, -, hvmarked, j1, a, b, hvframe⟩ := discardAll_spec hv.symm
  have hvqueue : v.writer.queue = s.writer.queue := by rw [hvframe, hv0frame, hframe]
  have hventry (k : Nat) : v.entryOf k = s.entryOf k := by simp only [entryOf, hvqueue]
  have hcan : v.canWriteJournal = false := by
    have hmedia : v.media.state = .faulted := by rw [hvframe, hv0frame]
    simp [canWriteJournal, hmedia]
  generalize hw : (s.writer.queue.map (·.index)).foldl (State.abandonTake .mediaFault) v = w
  obtain ⟨hwqueue, hwwaiting, -, hwrecord, hwmarked, hwnone, hwown, e2, j2, p2, w2, hwframe⟩ := abandonTakes_spec hnodup hcan .mediaFault hw.symm
  have hengine : w.engine.openTake = none ∧ (w.engine.takeState = .offline ∨ w.engine.takeState = .standby) := by
    have hveng : v.engine = s.engine := by rw [hvframe, hv0frame, hframe]
    cases hopen : s.engine.openTake with
    | none =>
      rw [hwnone (by rw [hveng, hopen]), hveng]
      refine ⟨hopen, ?_⟩
      rw [hopen] at hopenState
      cases hs : s.engine.takeState <;> simp [hs] at hopenState ⊢
    | some n =>
      obtain ⟨e, he, rfl⟩ := hholds n hopen
      have hmem : e.index ∈ s.writer.queue.map (·.index) := List.mem_map_of_mem he
      have hentry : (v.entryOf e.index).isSome := by rw [hventry, entryOf_of_mem hnodup he]; rfl
      rw [hwown e.index hmem (by rw [hveng, hopen]) hentry]
      exact ⟨rfl, .inl rfl⟩
  have hwmedia : w.media = { s.media with state := .faulted, headerInFlight := a, headerPending := b } := by rw [hwframe, hvframe, hv0frame]
  have hrefresh : w.refreshStation = { w with engine := { w.engine with takeState := .offline } } :=
    refreshStation_of_unusable (by simp [usable, hwmedia]) hengine.2
  generalize hx : w.refreshStation = x at hrefresh
  have hfaulted : u.faultMedia = x.queueState.abortPreparation := by
    have humedia : u.media.state ≠ .faulted := by rw [hframe]; exact hfault
    have hwaiting : (u.setMedia .faulted).port.waiting = s.port.waiting := by rw [hframe]; rfl
    unfold faultMedia
    rw [if_neg humedia]
    dsimp only [discardWrites]
    rw [hwaiting, hv0, hv, hvqueue, hw, hx, announce_of_ne]
    intro h
    have := congrArg (·.2.1) h
    rw [hrefresh] at this
    exact humedia (this.trans (congrArg (·.state) hwmedia))
  obtain ⟨hverify, hlink, hcontent, habort⟩ := x.queueState.abortPreparation_spec
  rw [← hfaulted] at hverify hlink hcontent habort
  generalize u.faultMedia = y at *
  have hgranted := y.grantedTo_grant
  rw [← ht] at hgranted
  have hywaiting : ∀ op ∈ y.port.waiting, op.kind.priority = 3 := by
    have hyport : y.port = w.port := by
      rw [habort]
      show x.port = _
      rw [hrefresh]
    intro op hop
    rw [hyport] at hop
    have hop' := hwwaiting op hop
    rw [hvframe, hv0frame] at hop'
    have := (List.mem_filter.1 hop').2
    have hle := op.kind.priority_le
    simp only [Bool.not_eq_eq_eq_not, Bool.not_true, decide_eq_false_iff_not, not_lt] at this
    omega
  have htjournal : t.journal = w.journal := by
    rw [ht, journal_grant_other (.inr fun op hop => OpKind.journalSlot_of_reads (hywaiting op hop)), habort]
    show x.journal = _
    rw [hrefresh]
  have htwriter : t.writer = w.writer := by
    rw [ht, writer_grant_other (.inr fun op hop => OpKind.piece_of_reads (hywaiting op hop)), habort]
    show x.writer = _
    rw [hrefresh]
  have htslot (k : Nat) : t.slotAt k = w.slotAt k := by simp only [slotAt, htjournal]
  have htrecord (k : Nat) : t.recordAt k = w.recordAt k := by simp only [recordAt, htslot]
  have hrest : y.intake = s.intake ∧ y.timecode = s.timecode ∧ y.slate = s.slate ∧ y.media = w.media
      ∧ y.engine = { w.engine with takeState := .offline } ∧ x.queueState.verify = s.verify ∧ x.link = s.link := by
    rw [habort, queueState, hrefresh, hwframe, hvframe, hv0frame, hframe]
    exact ⟨rfl, rfl, rfl, rfl, rfl, rfl, rfl⟩
  obtain ⟨hi, htc, hslate, hmedia, hyengine, hxverify, hxlink⟩ := hrest
  have hrecord (e : QueueEntry) (he : e ∈ s.writer.queue) : ∃ r r0, s.recordAt e.index = some r ∧ r.Flagged r0
      ∧ t.recordAt e.index = some ((r0.abandon .mediaFault e.durBytes).flag .unsaved) := by
    obtain ⟨-, r, hr, -⟩ := hqueued e he
    obtain ⟨r1, hr1, hflag1⟩ := hrecords _ r hr
    have hv0r : v0.recordAt e.index = some r1 := by
      rw [hv0frame]
      exact hr1
    obtain ⟨r2, hr2, hflag2⟩ := hvrecords _ r1 hv0r
    refine ⟨r, r2, hr, hflag1.trans hflag2, ?_⟩
    rw [htrecord, hwrecord e.index e (List.mem_map_of_mem he) ((hventry _).trans (entryOf_of_mem hnodup he)), hr2]
    rfl
  refine ⟨?_, ?_, ?_, ?_, fun op hop => hywaiting op (hgranted.waiting.subset hop), fun e he => ?_, fun op hop k r hkind hr => ?_, ?_, ?_, ?_, ?_, ?_⟩
  · rw [hgranted.frame]
    rw [hmedia, hwmedia]
  · rw [htwriter, hwqueue, hvqueue]
    refine List.filter_eq_nil_iff.2 fun e he => ?_
    have hmem := List.mem_map_of_mem (f := QueueEntry.index) he
    rw [decide_eq_true_eq, not_not]
    exact hmem
  · rw [hgranted.frame]
    exact congrArg (·.takeState) hyengine
  · rw [hgranted.frame]
    exact (congrArg (·.openTake) hyengine).trans hengine.1
  · obtain ⟨r, r0, hr, ⟨hsame, -⟩, htr⟩ := hrecord e he
    refine ⟨r, _, hr, htr, rfl, rfl, rfl, ?_, ?_, ?_, ?_, ?_, hasFlag_setFlag_same ..⟩
    · rw [hsame]
      rfl
    · rw [hsame]
      rfl
    · rw [hsame]
      rfl
    · rw [hsame]
      rfl
    · exact hasFlag_setFlag _ _ _ (hasFlag_setFlag_same ..)
  · obtain ⟨r1, hr1, -⟩ := hrecords k r hr
    have hv0r : v0.recordAt k = some r1 := by
      rw [hv0frame]
      exact hr1
    have hmem : op ∈ s.port.waiting.filter fun op => op.kind.priority < 3 :=
      List.mem_filter.2 ⟨hop, by rw [hkind]; rfl⟩
    obtain ⟨sl, r', hsl, hentry, hflight, hflag⟩ := hwmarked k (hvmarked op hmem k r1 hkind hv0r)
    exact ⟨sl, r', (htslot k).trans hsl, hentry, hflight, hflag⟩
  · rw [hgranted.frame]
    exact (congrArg (·.slot) hverify).trans (by rw [hxverify])
  · rintro l rfl
    have hsc : t.stateContent = x.queueState.stateContent := hgranted.stateContent.trans hcontent
    have htlink : t.link = y.link := by rw [hgranted.frame]
    have hqueued : x.queueState.link = s.link.enqueueState t.stateContent := by rw [hsc, queueState_link_eq, hxlink]
    refine htlink.trans (hlink.trans ?_)
    rw [hxverify]
    cases s.verify.slot <;> simp only [hqueued]
  · rw [hgranted.frame]
    exact hi
  · rw [hgranted.frame]
    exact htc
  · rw [hgranted.frame]
    exact hslate

/-! ### The writes whose fourth failure is a fault -/

theorem State.recordAt_withPort (s : State) (p : Port) (k : Nat) : ({ s with port := p } : State).recordAt k = s.recordAt k := rfl

/-- The fourth failure of a segment's writes (R137, R144). -/
theorem State.segmentFailed_of_fourth {b i bad : Nat} {phase : BufferPhase} {seg : Segment} {p : Piece} (hb : s.buffer b = .used phase seg)
    (horphan : seg.orphan = false) (hfailures : 3 ≤ seg.failures) (hp : seg.writes[i]? = some p) :
    ∃ x, s.segmentFailed b i bad = (s.setBuffer b x).faultMedia := by
  unfold segmentFailed
  simp only [hb, hp, horphan, Bool.false_eq_true, if_false]
  rw [if_pos (show maxAttempts ≤ seg.failures + 1 by simp only [maxAttempts]; omega)]
  exact ⟨_, rfl⟩

/-- A journal write given up changes its slot alone, and of its record the flags. -/
theorem State.dropWrite_spec (s : State) (n : Nat) : (∃ j, s.dropWrite n = { s with journal := j })
    ∧ ∀ k r, s.recordAt k = some r → ∃ r', (s.dropWrite n).recordAt k = some r' ∧ r.Flagged r' := by
  have hend (k : Nat) (r : Record) (hr : s.recordAt k = some r) : (s.endWrite n).recordAt k = some r := by
    exact (recordAt_modifySlot s n k (fun sl => { sl with inFlight := false, amend := false }) fun _ => rfl).trans hr
  have hframe : s.endWrite n = { s with journal := (s.endWrite n).journal } := by
    unfold endWrite
    rw [modifySlot_frame_eq]
  unfold dropWrite
  split
  · refine ⟨⟨((s.endWrite n).flagRecord n .unsaved).journal, ?_⟩, fun k r hr => ?_⟩
    · conv_lhs => rw [flagRecord, modifyRecord_frame_eq]
      rw [hframe]
      rfl
    · by_cases hk : k = n
      · refine ⟨r.flag .unsaved, ?_, r.flagged_flag _⟩
        have hown := hend k r hr
        rw [flagRecord, recordAt_modifyRecord, if_pos hk, ← hk]
        rw [← hk] at hown
        rw [hown]
        rfl
      · exact ⟨r, by rw [flagRecord, recordAt_modifyRecord, if_neg hk]; exact hend k r hr, .refl r⟩
  · exact ⟨⟨_, hframe⟩, fun k r hr => ⟨r, hend k r hr, .refl r⟩⟩

/-- Settles O31: both writes end in the fault (`State.faultsMedia_of`). -/
theorem fourthWriteFailureFaultsTheMedia : Obligations.FourthWriteFailureFaultsTheMedia := by
  intro s id op hcoherent hfault
  refine ⟨fun b i bad phase seg p hop hkind hb horphan hfailures hp hle hlt => ⟨_, rfl, ?_⟩, fun n hop hkind hattempt => ⟨_, rfl, ?_⟩⟩
  · have hfits : s.failureFits id (some bad) = true := by
      simp only [State.failureFits, hop, hkind, State.blockInWrite, hb, hp]
      simp [hle, hlt]
    rw [if_pos hfits, s.complete_of_outstanding _ hop]
    have hended : State.segmentEnded (some bad) op (s.release id) = (s.release id).segmentFailed b i bad := by
      simp only [State.segmentEnded, hkind]
    obtain ⟨x, hx⟩ := State.segmentFailed_of_fourth (s := s.release id) (bad := bad) hb horphan hfailures hp
    exact State.faultsMedia_of (u := (s.release id).setBuffer b x) hcoherent hfault
      ⟨s.journal, (s.release id).port, ((s.release id).setBuffer b x).writer, rfl⟩ (fun k r hr => ⟨r, hr, .refl r⟩) (by rw [hended, hx])
  · rw [s.complete_of_outstanding _ hop]
    have hended : State.journalEnded false op (s.release id) = ((s.release id).dropWrite n).faultMedia := by
      simp only [State.journalEnded, hkind, Bool.false_eq_true, if_false, State.journalFailed]
      rw [if_neg (show ¬ (s.release id).media.state = .faulted from hfault), if_neg (show ¬ op.attempt < maxAttempts by
        simp only [maxAttempts]; omega)]
    obtain ⟨⟨j, hj⟩, hrecords⟩ := (s.release id).dropWrite_spec n
    refine State.faultsMedia_of hcoherent hfault ?_ hrecords (by rw [hended])
    rw [hj]
    exact ⟨j, (s.release id).port, s.writer, rfl⟩

/-! ### A preparation's writes (R118) -/

theorem State.preparingIn_eq {who : Requester} {plan : PreparePlan} (hslot : s.verify.slot = .preparing who plan) (phase : PreparePhase) :
    s.preparingIn phase = if plan.phase = phase then some (who, plan) else none := by
  simp only [preparingIn, hslot]

/-- A write of a preparation asked beside a sound port, with the grants of the step. -/
theorem State.askedPreparation_spec (hport : s.port.Numbered) {kind : OpKind} (attempt : Nat) (block : List Byte)
    (ht : t = (s.ask kind attempt (some block) false).grant) :
    ∃ o ∈ t.port.waiting ++ t.port.outstanding, o.kind = kind ∧ o.attempt = attempt ∧ o.block = some block := by
  obtain ⟨o, ho, -, hkind, hattempt, hblock⟩ := holds_grant (port_numbered_ask hport kind attempt (some block) false)
    (s.holds_ask kind attempt (some block) false)
  rw [← ht] at ho
  exact ⟨o, ho, hkind, hattempt, by rw [hblock block rfl]⟩

/-- Settles O38: the header write, the zeroing, the failures below the fourth, and the fault (`State.faultsMedia_of`). -/
theorem preparationWritesTheHeaderThenSlotOne : Obligations.PreparationWritesTheHeaderThenSlotOne := by
  intro s who plan hcoherent hport hslot
  refine ⟨fun hphase hpending => ?_, fun hphase hpending => ?_, fun id op hphase hop hkind => ?_⟩
  · refine congrArg Host.Outcome.next ?_
    rw [State.preparingIn_eq hslot, if_pos hphase]
    exact if_pos hpending
  · have hexec : exec .prepareHeaderWriteAsk s
        = .next ((s.setPhase who plan .header).ask .prepareHeader 1 (some (headerBlock plan.header)) false).grant := by
      refine congrArg Host.Outcome.next ?_
      rw [State.preparingIn_eq hslot, if_pos hphase]
      exact if_neg (by simp [hpending])
    rw [hexec]
    obtain ⟨o, ho, hokind, hoattempt, hoblock⟩ := State.askedPreparation_spec (s := s.setPhase who plan .header) hport.numbered
      (kind := .prepareHeader) 1 (headerBlock plan.header) rfl
    have hoffers : ((s.setPhase who plan .header).ask .prepareHeader 1 (some (headerBlock plan.header)) false).port.Offers (· = .prepareHeader) :=
      State.offers_ask (s := s.setPhase who plan .header) (P := (· = .prepareHeader)) (hport.offers _) rfl ..
    generalize hu : (s.setPhase who plan .header).ask .prepareHeader 1 (some (headerBlock plan.header)) false = u at *
    have hframe := u.grantedTo_grant.frame
    rw [State.journal_grant_other (hoffers.mono fun k hk => by rw [hk]; rfl), State.writer_grant_other (hoffers.mono fun k hk => by rw [hk]; rfl)] at hframe
    refine ⟨_, o, rfl, ?_, ho, hokind, hoattempt, hoblock, ?_⟩
    · rw [hframe, ← hu]
      rfl
    · conv_lhs => rw [hframe, ← hu]
      rw [hframe, ← hu]
      rfl
  · have hin : (s.release id).preparingIn .header = some (who, plan) := by
      rw [State.preparingIn_eq (s := s.release id) hslot, if_pos hphase]
    have hnum := State.numbered_release hport.numbered id
    have hcomplete (ok : Bool) : exec (.prepareHeaderWriteComplete id ok) s
        = .next ((s.release id).prepareHeaderEnded ok op).grant := congrArg Host.Outcome.next (s.complete_of_outstanding _ hop)
    have hfailed : (s.release id).prepareHeaderEnded false op = (s.release id).prepareFailed op := by
      simp only [State.prepareHeaderEnded, hin, Bool.false_eq_true, if_false]
    refine ⟨?_, fun hattempt => ?_, fun hattempt hfault => ?_⟩
    · have hdone : (s.release id).prepareHeaderEnded true op
          = ((s.release id).setPhase who plan .zero).ask .prepareZero 1 (some (List.replicate blockBytes 0)) false := by
        simp only [State.prepareHeaderEnded, hin, if_true]
      obtain ⟨o, ho, hokind, hoattempt, hoblock⟩ := State.askedPreparation_spec (s := (s.release id).setPhase who plan .zero) hnum
        (kind := .prepareZero) 1 (List.replicate blockBytes 0) rfl
      rw [hcomplete, hdone]
      have hframe := (((s.release id).setPhase who plan .zero).ask .prepareZero 1 (some (List.replicate blockBytes 0)) false).grantedTo_grant.frame
      refine ⟨_, o, rfl, ?_, ho, hokind, hoattempt, hoblock, ?_, ?_⟩
      · rw [hframe]
        rfl
      · rw [hframe]
        rfl
      · rw [hframe]
        rfl
    · have hretry : (s.release id).prepareFailed op = (s.release id).retry op := if_pos hattempt
      rw [hcomplete, hfailed, hretry]
      have hframe := ((s.release id).retry op).grantedTo_grant.frame
      refine ⟨_, rfl, ?_, ?_, ?_⟩
      · rw [hframe]
        rfl
      · rw [← hkind]
        exact State.asked_grant (State.port_numbered_ask hnum ..) (State.asked_ask ..)
      · rw [hframe]
        rfl
    · have hgone : (s.release id).prepareFailed op = (s.release id).faultMedia := if_neg (not_lt.2 hattempt)
      rw [hcomplete, hfailed, hgone]
      have hfaults : s.FaultsMedia (s.release id).faultMedia.grant := State.faultsMedia_of (u := s.release id) hcoherent hfault
        ⟨s.journal, (s.release id).port, s.writer, rfl⟩ (fun k r hr => ⟨r, hr, .refl r⟩) rfl
      refine ⟨_, rfl, hfaults, ?_⟩
      obtain ⟨-, -, -, -, -, -, -, -, hlink, -⟩ := hfaults
      rw [hlink _ rfl, hslot]
      rfl

end Sys2Proof.Machine

/-! The verify unit: the reads asked, the positions taken, and the end of a verify (R149–R154, R156). -/

namespace Sys2Proof.Machine

variable {s t u : State} {n k b i a : Nat} {r : Record} {v : Verify}

/-! ### Reads asked, and granted (R120, R150) -/

theorem grantWindow_of_ne {id op attempt : Nat} (h : op ≠ id) : grantWindow id (.waiting op attempt) = .waiting op attempt := if_neg h

theorem State.ReadAsked.grantOne (h : s.ReadAsked i k b a) (hport : s.port.Numbered) : s.grantOne.ReadAsked i k b a := by
  rcases s.grantOne_cases with ⟨heq, -⟩ | ⟨picked, -, hpick, heq⟩
  · rw [heq]
    exact h
  · obtain ⟨o, hkind, hattempt, hstands⟩ := h
    have hmem := mem_of_pickNext hpick
    rw [heq]
    by_cases hown : o.id = picked.id ∧ o ∈ s.port.waiting
    · obtain ⟨hid, ho⟩ := hown
      obtain rfl : o = picked := hport.eq_of_id (List.mem_append_left _ ho) (List.mem_append_left _ hmem) hid
      have hwindow : s.verify.window[i]? = some (.waiting o.id a) := by
        rcases hstands with ⟨-, hw⟩ | ⟨ho', -⟩
        · exact hw
        · have hnodup := hport.2.2
          rw [List.map_append, List.nodup_append'] at hnodup
          exact absurd (List.mem_map_of_mem ho') (hnodup.2.2 (List.mem_map_of_mem ho))
      refine ⟨o, hkind, hattempt, .inr ⟨?_, ?_⟩⟩
      · simp [grantOp, hkind, occupy]
      · simp [grantOp, hkind, occupy, withdraw, hwindow, grantWindow]
    · obtain ⟨op', -, -, -, -, hp⟩ := (s.withdraw fun x => x.id == picked.id).grantOp_occupies picked
      have hkeeps : ∀ x, (∀ attempt, x = .waiting picked.id attempt → False) → s.verify.window[i]? = some x →
          ((s.withdraw fun x => x.id == picked.id).grantOp picked).verify.window[i]? = some x := fun x hx hw => by
        rcases (s.withdraw fun x => x.id == picked.id).grantOp_verify picked with hv | hv
        · rw [hv]
          exact hw
        · rw [hv]
          have : grantWindow picked.id x = x := by
            cases x with
            | waiting op attempt => exact grantWindow_of_ne fun h => hx attempt (by rw [h])
            | _ => rfl
          simp [withdraw, hw, this]
      refine ⟨o, hkind, hattempt, hstands.imp (fun ⟨ho, hw⟩ => ⟨?_, ?_⟩) fun ⟨ho, hw⟩ => ⟨?_, ?_⟩⟩
      · rw [hp]
        simp only [withdraw_port, List.mem_filter]
        exact ⟨ho, by simpa using fun h => hown ⟨h, ho⟩⟩
      · exact hkeeps _ (fun attempt h => hown ⟨(WindowEntry.waiting.inj h).1, ho⟩) hw
      · rw [hp]
        simp [ho, withdraw]
      · exact hkeeps _ (fun attempt h => by cases h) hw

theorem State.ReadAsked.grant (h : s.ReadAsked i k b a) (hport : s.port.Numbered) : s.grant.ReadAsked i k b a := by
  have h1 := numbered_grantOne hport
  have h2 := numbered_grantOne h1
  have h3 := numbered_grantOne h2
  exact (((h.grantOne hport).grantOne h1).grantOne h2).grantOne h3

theorem State.ReadAsked.asked (h : s.ReadAsked i k b a) : s.Asked (.verifyRead k b) a := by
  obtain ⟨o, hkind, hattempt, hstands⟩ := h
  refine ⟨o, ?_, hkind, hattempt⟩
  rw [List.mem_append]
  exact hstands.imp (·.1) (·.1)

/-- A position that has come into the window: its read waits at the arbiter. -/
def State.ReadWaits (s : State) (i : Nat) : Prop :=
  ∃ op ∈ s.port.waiting, op.kind = .verifyRead (s.verify.cursor + i) ((orderBlock s.verify.extents (s.verify.cursor + i)).getD 0)
    ∧ op.attempt = 1 ∧ s.verify.window[i]? = some (.waiting op.id 1)

/-- The first read of the position that comes into the window next. -/
def State.nextRead (s : State) : Op :=
  { id := s.port.nextOp, attempt := 1, block := none, isFinal := false
    kind := .verifyRead (s.verify.cursor + s.verify.window.length)
      ((orderBlock s.verify.extents (s.verify.cursor + s.verify.window.length)).getD 0) }

/-- The positions that come into the window join it with their reads (R150). -/
theorem State.fillWindow_asks (fuel : Nat) (s : State) :
    s.verify.window <+: (s.fillWindow fuel).verify.window
      ∧ (∀ op ∈ s.port.waiting, op ∈ (s.fillWindow fuel).port.waiting)
      ∧ (∀ i, s.verify.window.length ≤ i → i < (s.fillWindow fuel).verify.window.length → (s.fillWindow fuel).ReadWaits i)
      ∧ (s.port.Numbered → (s.fillWindow fuel).port.Numbered)
      ∧ (∀ P : OpKind → Prop, (∀ k b, P (.verifyRead k b)) → s.port.Offers P → (s.fillWindow fuel).port.Offers P)
      ∧ s.fillWindow fuel = { s with
          verify := { s.verify with window := (s.fillWindow fuel).verify.window }, port := (s.fillWindow fuel).port } := by
  induction fuel generalizing s with
  | zero => exact ⟨List.prefix_rfl, fun _ h => h, fun i h1 h2 => absurd h2 (not_lt.2 h1), id, fun _ _ h => h, rfl⟩
  | succ fuel ih =>
    unfold fillWindow
    dsimp only
    split
    · generalize hx : s.askRead (s.verify.cursor + s.verify.window.length) = x
      have hxframe : x = { s with
          verify := { s.verify with window := s.verify.window ++ [.waiting s.port.nextOp 1] }
          port := { s.port with
            waiting := s.port.waiting ++ [s.nextRead]
            nextOp := s.port.nextOp + 1 } } := hx.symm
      obtain ⟨hprefix, hwaiting, hasks, hnum, hoffers, hframe⟩ := ih x
      have hverify : (x.fillWindow fuel).verify.cursor = x.verify.cursor ∧ (x.fillWindow fuel).verify.extents = x.verify.extents := by
        rw [hframe]
        exact ⟨rfl, rfl⟩
      refine ⟨?_, fun op hop => hwaiting op ?_, fun i hge hlt => ?_, ?_, fun P hP h => hoffers P hP ?_, ?_⟩
      · refine List.IsPrefix.trans ?_ hprefix
        rw [hxframe]
        exact List.prefix_append ..
      · rw [hxframe]
        exact List.mem_append_left _ hop
      · have hlen : x.verify.window.length = s.verify.window.length + 1 := by rw [hxframe]; simp
        rcases Nat.lt_or_ge i (s.verify.window.length + 1) with hlt' | hge'
        · obtain rfl : i = s.verify.window.length := by omega
          obtain ⟨rest, hrest⟩ := hprefix
          refine ⟨s.nextRead, hwaiting _ ?_, ?_, rfl, ?_⟩
          · rw [hxframe]
            simp
          · rw [hverify.1, hverify.2, hxframe]
            rfl
          · rw [← hrest, hxframe]
            simp [nextRead]
        · exact hasks i (by omega) hlt
      · exact fun h => hnum (hx ▸ port_numbered_ask h ..)
      · rw [hxframe]
        refine h.imp id fun hp op hop => ?_
        rcases List.mem_append.1 hop with hop | hop
        · exact hp op hop
        · rw [List.mem_singleton.1 hop]
          exact hP ..
      · rw [hframe, hxframe]
    · exact ⟨List.prefix_rfl, fun _ h => h, fun i h1 h2 => absurd h2 (not_lt.2 h1), id, fun _ _ h => h, rfl⟩

/-- A read that waits for a block of the read order is one asked. -/
theorem State.ReadWaits.readAsked (h : s.ReadWaits i) (hk : k = s.verify.cursor + i) (hb : orderBlock s.verify.extents k = some b) :
    s.ReadAsked i k b 1 := by
  obtain ⟨op, hop, hkind, hattempt, hw⟩ := h
  rw [← hk, hb] at hkind
  exact ⟨op, hkind, hattempt, .inl ⟨hop, hw⟩⟩

/-! ### Positions taken (R152) -/

theorem Verify.takePositions_of_pending (hhead : ∀ x ∈ v.window.head?, x.ended = false) (fuel : Nat) : v.takePositions fuel = v := by
  cases fuel with
  | zero => rfl
  | succ fuel =>
    unfold takePositions
    split
    · next hw => exact absurd (hhead _ (by rw [hw]; rfl)) (by simp [WindowEntry.ended])
    · next hw => exact absurd (hhead _ (by rw [hw]; rfl)) (by simp [WindowEntry.ended])
    · rfl

/-- What is digested of a position depends on the block count and the stream length alone (R149, R152). -/
theorem Verify.takingAll_congr {w : Verify} (hcount : w.blockCount = v.blockCount) (hlength : w.length = v.length) (k : Nat) (l : List WindowEntry)
    (d : Word32) : w.takingAll k l d = v.takingAll k l d := by
  induction l generalizing k d with
  | nil => rfl
  | cons x l ih =>
    have hstep : w.taking k x d = v.taking k x d := by
      unfold taking
      rw [hcount, hlength]
    rw [takingAll, takingAll, hstep]
    exact ih ..

/-- An ended position at the cursor is taken (R152). -/
theorem Verify.takePositions_step {x : WindowEntry} {rest : List WindowEntry} (hw : v.window = x :: rest) (hx : x.ended = true) (fuel : Nat) :
    ∃ bytes, v.takePositions (fuel + 1) = (v.takeBytes bytes rest).takePositions fuel
      ∧ crc32Feed (v.digest.getD crc32Init) bytes = v.taking v.cursor x (v.digest.getD crc32Init) := by
  cases x with
  | held attempt block => exact ⟨block.take (v.dataBytes v.cursor), by rw [takePositions, hw], rfl⟩
  | givenUp attempt => exact ⟨List.replicate (v.dataBytes v.cursor) 0, by rw [takePositions, hw], rfl⟩
  | waiting op attempt => cases hx
  | outstanding op attempt => cases hx

/-- The ended positions at the cursor are taken in order (R152). -/
theorem Verify.takePositions_of_ended {l rest : List WindowEntry} (fuel : Nat) (hw : v.window = l ++ rest) (hl : ∀ x ∈ l, x.ended = true)
    (hrest : ∀ x ∈ rest.head?, x.ended = false) (hfuel : l.length ≤ fuel) (hne : l ≠ [] ∨ v.digest.isSome) :
    v.takePositions fuel = { v with
      cursor := v.cursor + l.length, window := rest, digest := some (v.takingAll v.cursor l (v.digest.getD crc32Init)) } := by
  induction l generalizing v fuel with
  | nil =>
    obtain ⟨d, hd⟩ := Option.isSome_iff_exists.1 (hne.resolve_left fun h => h rfl)
    rw [takePositions_of_pending (by rw [hw]; exact hrest)]
    simp only [List.nil_append] at hw
    rw [← hw, List.length_nil, Nat.add_zero, takingAll, hd, Option.getD_some, ← hd]
  | cons x l ih =>
    obtain ⟨fuel, rfl⟩ : ∃ m, fuel = m + 1 := ⟨fuel - 1, by simp at hfuel; omega⟩
    obtain ⟨bytes, hbytes, hfeed⟩ := takePositions_step (show v.window = x :: (l ++ rest) from hw) (hl x List.mem_cons_self) fuel
    rw [hbytes, ih (v := v.takeBytes bytes (l ++ rest)) fuel rfl (fun y hy => hl y (List.mem_cons_of_mem _ hy)) (by simpa using hfuel)
      (.inr rfl), takingAll_congr (v := v) (w := v.takeBytes bytes (l ++ rest)) rfl rfl]
    simp only [takeBytes, List.length_cons, takingAll, Option.getD_some, hfeed]
    congr 1
    omega

/-! ### The end of a verify (R153, R154) -/

/-- What a verify's end leaves once its outcome is handed on, with the grants of the step (R153, R154, R192). -/
theorem State.endVerify_spec {who : Requester} (hr : s.recordAt n = some r) (hslot : s.verify.slot.blocksJournal = false) (ht : t = (s.endVerify who n).grant) :
    ∃ r', t.recordAt n = some r'
      ∧ r' = { r with state := (s.verify.outcome r.digest).1, flags := r'.flags, durable := r'.durable }
      ∧ r'.flags = (if s.canWriteJournal = true then r.flags else setFlag .unsaved r.flags)
      ∧ (s.canWriteJournal = true → s.port.Numbered → s.HandsOn n t)
      ∧ t.verify = s.verify.released
      ∧ t.link = s.link.enqueueReport (who.report .verifyTake .done (s.verify.outcome r.digest).2
          (s.verify.finalPayload n (s.verify.outcome r.digest).1))
      ∧ t = { s with verify := t.verify, journal := t.journal, port := t.port, writer := t.writer, link := t.link } := by
  generalize hout : s.verify.outcome r.digest = out
  generalize hs1 : s.setVerify s.verify.released = s1
  generalize hg : (fun x : Record => { x with state := out.1 }) = g
  have hr1 : (s1.modifyRecord n g).recordAt n = some { r with state := out.1 } := by
    rw [recordAt_modifyRecord, if_pos rfl, ← hs1, ← hg]
    exact congrArg (Option.map _) hr
  have hcan : (s1.modifyRecord n g).canWriteJournal = s.canWriteJournal := by
    have hmedia : (s1.modifyRecord n g).media = s.media := by rw [modifyRecord_frame_eq, ← hs1]; rfl
    have hverify : (s1.modifyRecord n g).verify = s.verify.released := by rw [modifyRecord_frame_eq, ← hs1]; rfl
    rw [canWriteJournal, canWriteJournal, hmedia, hverify, hslot]
    rfl
  have hstate : out.1 ≠ .closing := by
    rw [← hout, Verify.outcome]
    (repeat' split) <;> simp
  have hchanged := (s1.modifyRecord n g).recordAt_changeRecord n n
  rw [hr1, hcan] at hchanged
  have hrecord : ((s1.modifyRecord n g).changeRecord n).recordAt n = some { r with
      state := out.1, flags := if s.canWriteJournal = true then r.flags else setFlag .unsaved r.flags } := by
    rw [hchanged]
    cases s.canWriteJournal <;> simp [Record.flag]
  obtain ⟨j, p, hframe⟩ : ∃ j p, (s1.modifyRecord n g).changeRecord n = { s1 with journal := j, port := p } := by
    rw [changeRecord_frame_eq, modifyRecord_frame_eq]
    exact ⟨_, _, rfl⟩
  have hhands : s.canWriteJournal = true → s1.HandsOn n ((s1.modifyRecord n g).changeRecord n) := fun h =>
    (handsOn_changeRecord hr1 (hcan.trans h) hstate).modifyRecord
  have hnumbered : s.port.Numbered → ((s1.modifyRecord n g).changeRecord n).port.Numbered := fun h =>
    numbered_changeRecord (by rw [modifyRecord_frame_eq, ← hs1]; exact h) n
  have hend : s.endVerify who n = ((s1.modifyRecord n g).changeRecord n).finalReport who .verifyTake .done out.2 (s.verify.finalPayload n out.1) := by
    unfold endVerify
    rw [hr, Option.bind_some, hout, hs1]
    dsimp only
    rw [hg]
  generalize (s1.modifyRecord n g).changeRecord n = u at *
  rw [hend] at ht
  generalize hv : u.finalReport who .verifyTake .done out.2 (s.verify.finalPayload n out.1) = v at ht
  have hvframe : v = { u with link := v.link } := by rw [← hv]; rfl
  have hvlink : v.link = s.link.enqueueReport (who.report .verifyTake .done out.2 (s.verify.finalPayload n out.1)) := by
    rw [← hv, hframe, ← hs1]
    rfl
  have hgranted := v.grantedTo_grant
  rw [← ht] at hgranted
  have hvrecord : v.recordAt n = some { r with
      state := out.1, flags := if s.canWriteJournal = true then r.flags else setFlag .unsaved r.flags } := by
    rw [hvframe]
    exact hrecord
  obtain ⟨r', hr', hsame⟩ := hgranted.recordAt hvrecord
  refine ⟨r', hr', ?_, ?_, fun hcanw hnum => ?_, ?_, ?_, ?_⟩
  · have hflags : r'.flags = if s.canWriteJournal = true then r.flags else setFlag .unsaved r.flags := by rw [hsame]
    rw [hflags]
    exact hsame
  · rw [hsame]
  · have hvhands : s.HandsOn n v := by
      rw [hvframe]
      have := hhands hcanw
      rw [← hs1] at this
      exact this
    rw [ht]
    exact hvhands.grant (by rw [hvframe]; exact hnumbered hnum)
  · obtain ⟨g', -, hw⟩ := hgranted.window
    have hvverify : v.verify = s.verify.released := by
      rw [hvframe, hframe, ← hs1]
      rfl
    have hwindow : t.verify.window = [] := by rw [hw, hvverify]; rfl
    rw [hgranted.frame]
    dsimp only
    rw [hwindow, hvverify]
    rfl
  · rw [hgranted.frame]
    exact hvlink
  · have hall : ∃ j p w v l, t = { s with journal := j, port := p, writer := w, verify := v, link := l } := by
      rw [hgranted.frame, hvframe, hframe, ← hs1]
      exact ⟨_, _, _, _, _, rfl⟩
    obtain ⟨_, _, _, _, _, hall⟩ := hall
    rw [hall]

end Sys2Proof.Machine

/-! VERIFY_READ_COMPLETE and VERIFY_TAKE: the window moved, the outcome, and the start. -/

namespace Sys2Proof.Machine

variable {s t u : State} {n k b i a id : Nat} {r : Record} {v : Verify} {who : Requester} {op : Op} {block : Option (List Byte)}

/-! ### A read of the window ends (R151) -/

theorem State.outstandingOp_spec {p : OpKind → Bool} (h : s.outstandingOp id p = some op) :
    op ∈ s.port.outstanding ∧ op.id = id ∧ p op.kind = true := by
  have hmem := List.mem_of_find?_eq_some h
  have := List.find?_some h
  simp only [Bool.and_eq_true, beq_iff_eq] at this
  exact ⟨hmem, this.1, this.2⟩

/-- The verify unit once a read was digested, or given up (R151). -/
def Verify.readEnded (v : Verify) (op : Op) (block : Option (List Byte)) : Verify := { v with
  window := v.window.map fun e => if e.reads op.id then WindowEntry.after op.attempt block else e
  readOk := v.readOk + (if block = none then 0 else 1)
  badBlocks := v.badBlocks + (if block = none then 1 else 0) }

theorem State.windowReadEnded_of_over (hover : block ≠ none ∨ 4 ≤ op.attempt) :
    s.windowReadEnded who n block op = (s.setVerify (s.verify.readEnded op block)).advanceVerify who n := by
  cases block with
  | some bytes => rfl
  | none =>
    have : ¬ op.attempt < maxAttempts := not_lt.2 (hover.resolve_left fun h => h rfl)
    simp only [windowReadEnded, this, if_false]
    rfl

/-- The completion of a read that a window entry names (R151). -/
theorem exec_verifyReadComplete_of_window (hslot : s.verify.slot = .verifying who n) (hop : s.outstandingOp id OpKind.isVerifyRead = some op)
    (hread : ∃ x ∈ s.verify.window, x.reads id = true) :
    exec (.verifyReadComplete id block) s = .next ((s.release id).windowReadEnded who n block op).grant := by
  refine congrArg Host.Outcome.next ((s.complete_of_outstanding _ hop).trans (congrArg State.grant ?_))
  have hslot' : (s.release id).verify.slot = .verifying who n := hslot
  obtain ⟨-, rfl, -⟩ := State.outstandingOp_spec hop
  unfold State.verifyReadEnded
  rw [hslot']
  exact if_pos (List.any_eq_true.2 hread)

theorem WindowEntry.reads_of_ended {x : WindowEntry} (h : x.ended = true) (id : Nat) : x.reads id = false := by
  cases x <;> simp_all [WindowEntry.ended, WindowEntry.reads]

/-- One entry of the window reads: it alone changes. -/
theorem window_map_reads {before rest : List WindowEntry} (h : ∀ x ∈ before ++ rest, x.reads id = false) (y : WindowEntry) :
    (before ++ .outstanding id a :: rest).map (fun e => if e.reads id then y else e) = before ++ y :: rest := by
  have hsame (l : List WindowEntry) (hl : ∀ x ∈ l, x.reads id = false) : l.map (fun e => if e.reads id then y else e) = l :=
    (List.map_congr_left fun x hx => if_neg (by simp [hl x hx])).trans (List.map_id' l)
  rw [List.map_append, List.map_cons, hsame before fun x hx => h x (List.mem_append_left _ hx),
    hsame rest fun x hx => h x (List.mem_append_right _ hx)]
  simp [WindowEntry.reads]

theorem WindowEntry.ended_after (attempt : Nat) (block : Option (List Byte)) : (WindowEntry.after attempt block).ended = true := by
  cases block <;> rfl

/-- What is handed on after a read's slot was freed is handed on. -/
theorem State.HandsOn.of_release (h : u.HandsOn n t) (hnum : s.port.Numbered) (hop : s.outstandingOp id OpKind.isVerifyRead = some op)
    (hport : u.port = (s.release id).port) (hslot : ∀ k, u.slotAt k = s.slotAt k) : s.HandsOn n t := by
  obtain ⟨hmem, hid, hkind⟩ := outstandingOp_spec hop
  have hany : ((u.port.outstanding ++ u.port.waiting).any fun op => op.kind == .journalWrite n && op.block.isSome)
      = ((s.port.outstanding ++ s.port.waiting).any fun op => op.kind == .journalWrite n && op.block.isSome) := by
    rw [hport, List.any_append, List.any_append]
    refine congrArg (· || _) ?_
    rw [Bool.eq_iff_iff, List.any_eq_true, List.any_eq_true]
    refine ⟨fun ⟨x, hx, hp⟩ => ⟨x, List.mem_of_mem_filter hx, hp⟩, fun ⟨x, hx, hp⟩ => ⟨x, List.mem_filter.2 ⟨hx, ?_⟩, hp⟩⟩
    simp only [bne_iff_ne, ne_eq]
    intro hxid
    obtain rfl : x = op := hnum.eq_of_id (List.mem_append_right _ hx) (List.mem_append_right _ hmem) (hxid.trans hid.symm)
    simp only [Bool.and_eq_true, beq_iff_eq] at hp
    rw [hp.1] at hkind
    cases hkind
  intro sl hsl
  obtain ⟨sl', hsl', h1, h2, h3, h4, h5⟩ := h sl ((hslot n).trans hsl)
  exact ⟨sl', hsl', h1, h2, h3, h4, fun hheld => ⟨(h5 hheld).1, (h5 hheld).2.1, fun hflight => hany ▸ (h5 hheld).2.2 hflight⟩⟩

/-- The outcome of R153. -/
theorem Verify.outcome_eq (v : Verify) (digest : Option Word32) (ok : Bool)
    (hok : ok = (decide (v.badBlocks = 0) && !v.shortfall && decide (digest = some v.computed))) :
    v.outcome digest = (if ok then .verified else .damaged, if 0 < v.badBlocks then .readErrors else if ok then .none else .digestMismatch) := by
  unfold outcome
  by_cases hbad : 0 < v.badBlocks
  · have : ¬ v.badBlocks = 0 := by omega
    simp [hok, hbad, this]
  · have hzero : v.badBlocks = 0 := by omega
    cases hshort : v.shortfall <;> by_cases hdigest : digest = some v.computed <;> simp [hok, hzero, hshort, hdigest]

/-- Settles O41: the cursor comes to the end of the read order, and the verify ends (`State.endVerify_spec`). -/
theorem lastVerifyReadDecidesTheOutcome : Obligations.LastVerifyReadDecidesTheOutcome := by
  intro s who n id a bad good op more r block d ok hslot hop _ hwindow hended hlength hcursor hr _ _ hover hbad hgood hd hok
  obtain ⟨hmem, hid, -⟩ := State.outstandingOp_spec hop
  rw [exec_verifyReadComplete_of_window hslot hop ⟨_, by rw [hwindow]; exact List.mem_cons_self, by simp [WindowEntry.reads]⟩,
    State.windowReadEnded_of_over hover]
  generalize hv1 : (s.release id).verify.readEnded op block = v1
  have hw1 : v1.window = (WindowEntry.after op.attempt block :: more) ++ [] := by
    rw [← hv1, List.append_nil]
    show s.verify.window.map _ = _
    rw [hwindow, hid]
    exact window_map_reads (before := []) (fun x hx => WindowEntry.reads_of_ended (hended x hx) id) _
  have htaken : v1.takePositions windowSize = { v1 with
      cursor := s.verify.positions, window := [], digest := some (s.verify.takingAll s.verify.cursor (WindowEntry.after op.attempt block :: more)
        (s.verify.digest.getD crc32Init)) } := by
    have hl : ∀ x ∈ WindowEntry.after op.attempt block :: more, x.ended = true := fun x hx => by
      rcases List.mem_cons.1 hx with rfl | hx
      · exact WindowEntry.ended_after ..
      · exact hended x hx
    have hsize : (WindowEntry.after op.attempt block :: more).length ≤ windowSize := Nat.succ_le_succ hlength
    rw [Verify.takePositions_of_ended windowSize hw1 hl (by simp) hsize (.inl (by simp)),
      Verify.takingAll_congr (w := v1) (v := s.verify) (by rw [← hv1]; rfl) (by rw [← hv1]; rfl)]
    have hsame : v1.cursor = s.verify.cursor ∧ v1.digest = s.verify.digest := by
      rw [← hv1]
      exact ⟨rfl, rfl⟩
    rw [hsame.1, hsame.2, ← hcursor, List.length_cons]
    congr 1
    omega
  generalize hu : (s.release id).setVerify (v1.takePositions windowSize) = u
  have huverify : u.verify = v1.takePositions windowSize := by rw [← hu]; rfl
  have hadvance : ((s.release id).setVerify v1).advanceVerify who n = u.endVerify who n := by
    unfold State.advanceVerify
    have hset : ((s.release id).setVerify v1).setVerify (((s.release id).setVerify v1).verify.takePositions windowSize) = u := hu
    rw [hset]
    exact if_pos (by rw [huverify, htaken, ← hv1]; exact le_rfl)
  have hru : u.recordAt n = some r := by rw [← hu]; exact hr
  have hblocks : u.verify.slot.blocksJournal = false := by
    rw [huverify, htaken, ← hv1]
    show s.verify.slot.blocksJournal = false
    rw [hslot]
    rfl
  have hcomputed : u.verify.computed = d := by rw [huverify, htaken, hd]; rfl
  have hbadu : u.verify.badBlocks = bad := by rw [huverify, htaken, hbad, ← hv1]; rfl
  have hgoodu : u.verify.readOk = good := by rw [huverify, htaken, hgood, ← hv1]; rfl
  have hshort : u.verify.shortfall = s.verify.shortfall := by rw [huverify, htaken, ← hv1]; rfl
  have hcanu : u.canWriteJournal = s.canWriteJournal := by
    have hslotu : u.verify.slot.blocksJournal = s.verify.slot.blocksJournal := by
      rw [hblocks, hslot]
      rfl
    unfold State.canWriteJournal
    rw [hslotu, ← hu]
    rfl
  have hout := u.verify.outcome_eq r.digest ok (by rw [hok, hbadu, hshort, hcomputed])
  rw [hbadu] at hout
  obtain ⟨r', hr', hsame, hflags, hhands, hverify, hlink, hframe⟩ := State.endVerify_spec (who := who) hru hblocks rfl
  rw [hadvance]
  rw [hout] at hsame hlink
  rw [hcanu] at hflags hhands
  have hstate : r'.state = if ok then .verified else .damaged := by rw [hsame]
  refine ⟨_, r', _, rfl, hr', hsame, hflags, fun hcan hport => ?_, by rw [hverify]; rfl, by rw [hverify]; rfl, by rw [hverify]; rfl, rfl, ?_, ?_⟩
  · refine (hhands hcan ?_).of_release hport.numbered hop ?_ ?_
    · rw [← hu]
      exact State.numbered_release hport.numbered id
    · rw [← hu]
      rfl
    · rw [← hu]
      exact fun _ => rfl
  · rw [hlink, hstate, ← hbadu, ← hgoodu, ← hcomputed, ← hu]
    rfl
  · obtain ⟨_, _, _, _, _, hall⟩ : ∃ j p w v l, (u.endVerify who n).grant = { s with journal := j, port := p, writer := w, verify := v, link := l } := by
      rw [hframe, ← hu]
      exact ⟨_, _, _, _, _, rfl⟩
    rw [hall]

/-! ### The window filled (R150) -/

theorem State.fillWindow_length (h : s.verify.InOrder) :
    (s.fillWindow windowSize).verify.window.length = min 4 (s.verify.positions - s.verify.cursor) := by
  obtain ⟨⟨hle, hsum⟩, hfull, -⟩ := State.fillWindow_spec windowSize s h (Nat.le_add_left _ _)
  obtain ⟨-, -, -, -, -, hframe⟩ := s.fillWindow_asks windowSize
  have hcursor : (s.fillWindow windowSize).verify.cursor = s.verify.cursor ∧ (s.fillWindow windowSize).verify.positions = s.verify.positions := by
    rw [hframe]
    exact ⟨rfl, rfl⟩
  rw [hcursor.1, hcursor.2] at hsum hfull
  have hsize : windowSize = 4 := rfl
  omega

theorem OpKind.eq_of_isVerifyRead {x : OpKind} (h : x.isVerifyRead = true) : ∃ k b, x = .verifyRead k b := by
  cases x with
  | verifyRead k b => exact ⟨k, b, rfl⟩
  | _ => cases h

/-- The window filled beside a port whose waiting operations are no reads of it, with the grants of the step (R120, R150). -/
theorem State.filledWindow_spec (hin : s.verify.InOrder) (hport : s.port.Numbered) (ht : t = (s.fillWindow windowSize).grant) :
    t.verify.window.length = min 4 (s.verify.positions - s.verify.cursor)
      ∧ WindowStands s.verify.window t.verify.window
      ∧ (∀ i k b, s.verify.window.length ≤ i → i < t.verify.window.length → k = s.verify.cursor + i → orderBlock s.verify.extents k = some b →
          t.ReadAsked i k b 1 ∧ t.Asked (.verifyRead k b) 1)
      ∧ t.verify = { s.verify with window := t.verify.window }
      ∧ t = { s with verify := t.verify, port := t.port, journal := t.journal, writer := t.writer }
      ∧ (s.port.Offers (·.isVerifyRead = true) → t.journal = s.journal ∧ t.writer = s.writer) := by
  obtain ⟨hprefix, -, hasks, hnumbered, hoffers, hframe⟩ := s.fillWindow_asks windowSize
  have hlength := s.fillWindow_length hin
  have hnum := hnumbered hport
  generalize s.fillWindow windowSize = u at *
  have hgranted := u.grantedTo_grant
  obtain ⟨g, hg, hwindow⟩ := hgranted.window
  rw [← ht] at hgranted hwindow
  have hu : u.verify.cursor = s.verify.cursor ∧ u.verify.extents = s.verify.extents := by
    rw [hframe]
    exact ⟨rfl, rfl⟩
  refine ⟨by rw [hwindow, List.length_map, hlength], fun i x hx => ?_, fun i k b hge hlt hk hb => ?_, ?_, ?_, fun hoffered => ?_⟩
  · obtain ⟨rest, hrest⟩ := hprefix
    refine ⟨g x, ?_, hg x⟩
    rw [hwindow, List.getElem?_map, ← hrest, List.getElem?_append_left (List.getElem?_eq_some_iff.1 hx).1, hx]
    rfl
  · have hread : u.ReadAsked i k b 1 :=
      (hasks i hge (by rw [hwindow, List.length_map] at hlt; exact hlt)).readAsked (by rw [hu.1, hk]) (by rw [hu.2]; exact hb)
    rw [ht]
    exact ⟨hread.grant hnum, asked_grant hnum hread.asked⟩
  · conv_lhs => rw [hgranted.frame]
    rw [hframe]
  · obtain ⟨_, _, _, _, hall⟩ : ∃ j p w v, t = { s with journal := j, port := p, writer := w, verify := v } := by
      rw [hgranted.frame, hframe]
      exact ⟨_, _, _, _, rfl⟩
    rw [hall]
  · have hoffers' := hoffers (·.isVerifyRead = true) (fun _ _ => rfl) hoffered
    rw [ht]
    refine ⟨(journal_grant_other (hoffers'.mono fun k hk => ?_)).trans (by rw [hframe]), (writer_grant_other (hoffers'.mono fun k hk => ?_)).trans (by rw [hframe])⟩
    · obtain ⟨_, _, rfl⟩ := OpKind.eq_of_isVerifyRead hk
      rfl
    · obtain ⟨_, _, rfl⟩ := OpKind.eq_of_isVerifyRead hk
      rfl

/-! ### VERIFY_TAKE (R148, R149) -/

variable {w : Wire} {f : Frame} {q : Request}

theorem exec_verifyTake (hq : s.TakesRequest .verifyTake w f q) (hargs : q.args.length = 2) :
    exec (.verifyTake w) s = .next ((s.noteConflict f).askVerify q (field q.args 0 2)).grant :=
  exec_command_of_formOk (k := .verifyTake) hq (by simp [formOk, hargs])

/-- R148: the detail that refuses a verify. -/
theorem State.verifyRefusal_eq_some {d : Detail}
    (h : (s.media.state = .absent ∨ s.media.state = .mounting) ∧ d = .noMedia
      ∨ s.media.state = .unprepared ∧ d = .notPrepared
      ∨ s.media.state ∉ [.absent, .mounting, .unprepared] ∧
        ((n = 0 ∨ 4096 < n) ∧ d = .badArgument
          ∨ 1 ≤ n ∧ n ≤ 4096 ∧ (s.journal.nextIndex ≤ n ∨ s.recordAt n = none) ∧ d = .noSuchTake
          ∨ 1 ≤ n ∧ n ≤ 4096 ∧ n < s.journal.nextIndex ∧ ∃ r, s.recordAt n = some r
            ∧ ((r.state = .opened ∨ r.state = .closing) ∧ d = .takeOpen ∨ r.state = .interrupted ∧ d = .badArgument))) :
    s.verifyRefusal n = some d := by
  have hslots : journalSlots = 4096 := rfl
  unfold verifyRefusal
  rcases h with h | h | ⟨hmedia, h⟩
  · rw [MediaState.barsMirror_eq_some (.inl h)]
  · rw [MediaState.barsMirror_eq_some (.inr h)]
  · have hbars : s.media.state.barsMirror = none := MediaState.barsMirror_eq_none (by
      cases hm : s.media.state <;> simp [hm] at hmedia ⊢)
    rw [hbars]
    dsimp only
    rcases h with ⟨hrange, rfl⟩ | ⟨hlow, hhigh, hnone, rfl⟩ | ⟨hlow, hhigh, hnext, r, hr, hstate⟩
    · rw [if_pos (by omega)]
    · rw [if_neg (by omega)]
      by_cases hnext : s.journal.nextIndex ≤ n
      · rw [if_pos hnext]
      · rw [if_neg hnext, hnone.resolve_left hnext]
    · rw [if_neg (by omega), if_neg (by omega), hr]
      rcases hstate with ⟨h | h, rfl⟩ | ⟨h, rfl⟩ <;> simp only [h]

theorem State.verifyRefusal_eq_none (hmedia : s.media.state ∉ [.absent, .mounting, .unprepared]) (hlow : 1 ≤ n) (hhigh : n ≤ 4096)
    (hnext : n < s.journal.nextIndex) (hr : s.recordAt n = some r) (hstate : r.state = .closed ∨ r.state = .verified ∨ r.state = .damaged) :
    s.verifyRefusal n = none := by
  have hslots : journalSlots = 4096 := rfl
  have hbars : s.media.state.barsMirror = none := MediaState.barsMirror_eq_none (by
    cases hm : s.media.state <;> simp [hm] at hmedia ⊢)
  unfold verifyRefusal
  rw [hbars]
  dsimp only
  rw [if_neg (by omega), if_neg (by omega), hr]
  rcases hstate with h | h | h <;> simp only [h]

/-- A verify of a take with something to read goes on, and one with nothing to read ends (R149, R150, R153). -/
theorem State.startVerify_eq (q : Request) (n : Nat) (r : Record) (s : State) : s.startVerify q n r
    = if min r.blockCount (totalBlocks r.extents) = 0 then
        ({ s with verify := Verify.started q.requester n r, link := s.link.enqueueReport (q.report .accepted .none (le 2 n ++ le 4 r.blockCount)) } :
          State).endVerify q.requester n
      else ({ s with verify := Verify.started q.requester n r, link := s.link.enqueueReport (q.report .accepted .none (le 2 n ++ le 4 r.blockCount)) } :
        State).fillWindow windowSize := by
  unfold startVerify advanceVerify
  have htaken : (Verify.started q.requester n r).takePositions windowSize = Verify.started q.requester n r :=
    Verify.takePositions_of_pending (by simp [Verify.started]) _
  have hverify : ((s.setVerify (Verify.started q.requester n r)).answer q .accepted .none (le 2 n ++ le 4 r.blockCount)).verify
      = Verify.started q.requester n r := rfl
  dsimp only
  rw [hverify, htaken]
  by_cases hzero : min r.blockCount (totalBlocks r.extents) = 0
  · rw [if_pos hzero]
    exact if_pos (le_of_eq hzero)
  · rw [if_neg hzero]
    exact if_neg (by
      show ¬ min r.blockCount (totalBlocks r.extents) ≤ 0
      omega)

/-- The CRC of no bytes. -/
theorem crc32Finish_init : crc32Finish crc32Init = 0 := by decide +kernel

/-- Settles O49: the refusals, the BUSY answer, the start, and the verify with nothing to read (`State.endVerify_spec`). -/
theorem verifyTakeStartsAVerify : Obligations.VerifyTakeStartsAVerify := by
  rintro w s f q _ hq hargs rfl hport
  rw [exec_verifyTake hq hargs]
  refine ⟨fun d hd => ?_, fun r hmedia hlow hhigh hnext hr hstate => ?_⟩
  · have hrefused : (s.noteConflict f).verifyRefusal (field q.args 0 2) = some d := State.verifyRefusal_eq_some (by
      rw [State.noteConflict_recordAt]
      simpa using hd)
    have hask : (s.noteConflict f).askVerify q (field q.args 0 2) = (s.noteConflict f).refuse q d := by
      simp only [State.askVerify, hrefused]
    rw [hask, State.noteConflict_refuse, State.grant_of_portSound]
    exact hport
  · obtain ⟨l, hl⟩ := s.exists_noteConflict f
    have hnone : (s.noteConflict f).verifyRefusal (field q.args 0 2) = none := by
      rw [hl]
      exact State.verifyRefusal_eq_none (s := { s with link := l }) hmedia hlow hhigh hnext hr hstate
    have hask : (s.noteConflict f).askVerify q (field q.args 0 2) = if s.verify.slot.isIdle then
        (s.noteConflict f).startVerify q (field q.args 0 2) r else (s.noteConflict f).answer q .busy .none (s.noteConflict f).busyReply := by
      have hr' : (s.noteConflict f).recordAt (field q.args 0 2) = some r := (State.noteConflict_recordAt ..).trans hr
      have hslot : (s.noteConflict f).verify = s.verify := by rw [hl]
      simp only [State.askVerify, hnone, hr', hslot]
    refine ⟨fun hslot => ?_, fun blocks held hslot hblocks hheld hpos => ?_, fun blocks held ok hslot hblocks hheld hzero hok => ?_⟩
    · rw [hask, if_neg (by rw [LongOp.isIdle_iff]; exact hslot), State.noteConflict_answer, State.grant_of_portSound,
        State.noteConflict_busyReply]
      exact hport
    all_goals
      have hcount : r.blockCount = blocks := hblocks.symm
      have htotal : totalBlocks r.extents = held := hheld.symm
      have hstarted := State.startVerify_eq q (field q.args 0 2) r (s.noteConflict f)
      generalize hx : ({ s.noteConflict f with
        verify := Verify.started q.requester (field q.args 0 2) r
        link := (s.noteConflict f).link.enqueueReport (q.report .accepted .none (le 2 (field q.args 0 2) ++ le 4 r.blockCount)) } : State) = x at hstarted
      have hxframe : x = { s with
          verify := Verify.started q.requester (field q.args 0 2) r
          link := (s.noteConflict f).link.enqueueReport (q.report .accepted .none (le 2 (field q.args 0 2) ++ le 4 r.blockCount)) } := by
        rw [← hx]
        rw [hl]
      have hxlink : x.link = (s.noteConflict f).link.enqueueReport (q.report .accepted .none (le 2 (field q.args 0 2) ++ le 4 blocks)) := by
        rw [hxframe, hcount]
      have hxverify : x.verify = {
          slot := .verifying { station := q.sender, tag := q.tag } (field q.args 0 2), cursor := 0, blockCount := blocks
          positions := min blocks held, length := r.recorded * r.frameBytes, extents := r.extents, badBlocks := 0, readOk := 0
          shortfall := decide (held < blocks), window := [], digest := some crc32Init } := by
        rw [hxframe, ← hcount, ← htotal]
        rfl
      have hxport : x.port.Sound := by rw [hxframe]; exact hport
      rw [hask, if_pos (by rw [LongOp.isIdle_iff]; exact hslot), hstarted, hcount, htotal]
    · rw [if_neg (by omega)]
      obtain ⟨hlength, -, hreads, hverify, hframe, hothers⟩ := State.filledWindow_spec (s := x)
        (by rw [hxverify]; exact ⟨Nat.zero_le _, Nat.zero_le _⟩) hxport.numbered rfl
      obtain ⟨hjournal, hwriter⟩ := hothers (hxport.offers _)
      rw [hxverify] at hlength hreads hverify
      refine ⟨_, rfl, hverify, hlength, fun k b hk hb => ?_, ?_, ?_⟩
      · exact (hreads k k b (Nat.zero_le _) (by rw [hlength]; exact hk) (Nat.zero_add k).symm hb).2
      · rw [hframe]
        exact hxlink
      · rw [hjournal, hwriter] at hframe
        conv_lhs => rw [hframe]
        rw [hframe, hxframe]
    · rw [if_pos hzero]
      have hxr : x.recordAt (field q.args 0 2) = some r := by rw [hxframe]; exact hr
      have hcanx : x.canWriteJournal = s.canWriteJournal := by
        unfold State.canWriteJournal
        rw [hxverify, hslot, hxframe]
        rfl
      have hcomputed : x.verify.computed = 0 := by
        rw [hxverify]
        exact crc32Finish_init
      have hout := x.verify.outcome_eq r.digest ok (by
        rw [hok, hcomputed, hxverify]
        have hshort : (decide (blocks = 0)) = !(decide (held < blocks)) := by
          rw [← decide_not]
          exact decide_eq_decide.2 (by omega)
        simp [hshort])
      have hbad : ¬ 0 < x.verify.badBlocks := by rw [hxverify]; exact Nat.lt_irrefl 0
      rw [if_neg hbad] at hout
      obtain ⟨r', hr', hsame, hflags, hhands, hverify, hlink, hframe⟩ := State.endVerify_spec (who := q.requester) hxr
        (by rw [hxverify]; rfl) rfl
      rw [hout] at hsame hlink
      rw [hcanx] at hflags hhands
      have hstate' : r'.state = if ok then .verified else .damaged := by rw [hsame]
      refine ⟨_, r', rfl, hr', hsame, hflags, fun hcan => ?_, ?_, ?_, ?_⟩
      · have := hhands hcan hxport.numbered
        rw [hxframe] at this ⊢
        exact this
      · rw [hverify, hxverify, hzero]
        rfl
      · rw [hlink, hstate', hxlink, Verify.finalPayload, hcomputed, hxverify]
        simp [Requester.report, Request.report, Request.requester, hq.2.2]
      · obtain ⟨_, _, _, _, _, hall⟩ : ∃ j p w v l, (x.endVerify q.requester (field q.args 0 2)).grant
            = { s with journal := j, port := p, writer := w, verify := v, link := l } := by
          rw [hframe, hxframe]
          exact ⟨_, _, _, _, _, rfl⟩
        rw [hall]

end Sys2Proof.Machine

/-! VERIFY_READ_COMPLETE: the window moved (R150–R152, R156). -/

namespace Sys2Proof.Machine

variable {s t u : State} {n k b i a id : Nat} {r : Record} {v : Verify} {who : Requester} {op : Op} {block : Option (List Byte)}

theorem WindowStands.of_map {old new : List WindowEntry} {g : WindowEntry → WindowEntry} (hg : ∀ x : WindowEntry, x.AsStood (g x))
    (h : new = old.map g) : WindowStands old new := by
  intro i x hx
  exact ⟨g x, by rw [h, List.getElem?_map, hx]; rfl, hg x⟩

theorem WindowStands.of_split {before rest new : List WindowEntry} {y : WindowEntry} (h : WindowStands (before ++ y :: rest) new) :
    WindowStands before new ∧ WindowStands rest (new.drop (before.length + 1)) := by
  refine ⟨fun i x hx => h i x ?_, fun i x hx => ?_⟩
  · rw [List.getElem?_append_left (List.getElem?_eq_some_iff.1 hx).1, hx]
  · obtain ⟨y', hy', hstood⟩ := h (before.length + 1 + i) x (by
      rw [List.getElem?_append_right (by omega)]
      have : before.length + 1 + i - before.length = i + 1 := by omega
      rw [this, List.getElem?_cons_succ, hx])
    exact ⟨y', by rw [List.getElem?_drop]; exact hy', hstood⟩

theorem WindowStands.window_grant (s : State) : WindowStands s.verify.window s.grant.verify.window
    ∧ s.grant.verify.window.length = s.verify.window.length ∧ s.grant.verify.window.map (·.ended) = s.verify.window.map (·.ended) := by
  obtain ⟨g, hg, hwindow⟩ := s.grantedTo_grant.window
  refine ⟨.of_map hg hwindow, by rw [hwindow, List.length_map], ?_⟩
  rw [hwindow, List.map_map]
  refine List.map_congr_left fun x _ => ?_
  rcases hg x with h | ⟨o, attempt, h, h'⟩
  · exact congrArg WindowEntry.ended h
  · rw [Function.comp_apply, h', h]
    rfl

/-- A full window is left as it is (R150). -/
theorem State.fillWindow_of_full (h : s.verify.window.length = windowSize ∨ s.verify.cursor + s.verify.window.length = s.verify.positions)
    (fuel : Nat) : s.fillWindow fuel = s := by
  cases fuel with
  | zero => rfl
  | succ fuel =>
    unfold fillWindow
    exact if_neg (by omega)

/-- With more of the read order to come, the window is filled (R150, R152). -/
theorem State.advanceVerify_of_more (h : (s.verify.takePositions windowSize).cursor < (s.verify.takePositions windowSize).positions) :
    s.advanceVerify who n = (s.setVerify (s.verify.takePositions windowSize)).fillWindow windowSize := by
  unfold advanceVerify
  exact if_neg (not_le.2 h)

theorem State.outside_of_grant (hu : ∃ j p w v, u = { s with journal := j, port := p, writer := w, verify := v }) (ht : t = u.grant) :
    t = { s with verify := t.verify, port := t.port, journal := t.journal, writer := t.writer } := by
  obtain ⟨_, _, _, _, hu⟩ := hu
  obtain ⟨_, _, _, _, hall⟩ : ∃ j p w v, t = { s with journal := j, port := p, writer := w, verify := v } := by
    rw [ht, u.grantedTo_grant.frame, hu]
    exact ⟨_, _, _, _, rfl⟩
  rw [hall]

/-- A read of the position at the cursor (R150, R152). -/
theorem State.headRead_spec {more rest : List WindowEntry} (hsound : s.verify.Sound)
    (hslot : s.verify.slot = .verifying who n) (hop : s.outstandingOp id OpKind.isVerifyRead = some op)
    (hwindow : s.verify.window = .outstanding id a :: (more ++ rest)) (hended : ∀ x ∈ more, x.ended = true)
    (hothers : ∀ x ∈ rest, x.reads id = false) (hhead : ∀ x ∈ rest.head?, x.ended = false)
    (hmore : s.verify.cursor + 1 + more.length < s.verify.positions) (hover : block ≠ none ∨ 4 ≤ op.attempt) :
    ∃ u, exec (.verifyReadComplete id block) s = .next (u.fillWindow windowSize).grant
      ∧ u = { s with port := (s.release id).port, verify := { s.verify with
          cursor := s.verify.cursor + 1 + more.length, window := rest
          readOk := s.verify.readOk + (if block = none then 0 else 1)
          badBlocks := s.verify.badBlocks + (if block = none then 1 else 0)
          digest := some (s.verify.takingAll s.verify.cursor (WindowEntry.after op.attempt block :: more)
            (s.verify.digest.getD crc32Init)) } }
      ∧ u.verify.InOrder := by
  obtain ⟨-, hid, -⟩ := outstandingOp_spec hop
  rw [exec_verifyReadComplete_of_window hslot hop ⟨_, by rw [hwindow]; exact List.mem_cons_self, by simp [WindowEntry.reads]⟩,
    windowReadEnded_of_over hover]
  generalize hv1 : (s.release id).verify.readEnded op block = v1
  have hw1 : v1.window = (WindowEntry.after op.attempt block :: more) ++ rest := by
    rw [← hv1]
    show s.verify.window.map _ = _
    rw [hwindow, hid]
    refine window_map_reads (before := []) (fun x hx => ?_) _
    rw [List.nil_append] at hx
    rcases List.mem_append.1 hx with hx | hx
    · exact WindowEntry.reads_of_ended (hended x hx) id
    · exact hothers x hx
  obtain ⟨hlength, hsum, -⟩ := hsound
  rw [hwindow] at hlength hsum
  simp only [List.length_cons, List.length_append] at hlength hsum
  have hl : ∀ x ∈ WindowEntry.after op.attempt block :: more, x.ended = true := fun x hx => by
    rcases List.mem_cons.1 hx with rfl | hx
    · exact WindowEntry.ended_after ..
    · exact hended x hx
  have htaken := Verify.takePositions_of_ended windowSize hw1 hl hhead (by rw [List.length_cons]; omega) (.inl (by simp))
  rw [Verify.takingAll_congr (w := v1) (v := s.verify) (by rw [← hv1]; rfl) (by rw [← hv1]; rfl)] at htaken
  have hsame : v1.cursor = s.verify.cursor ∧ v1.digest = s.verify.digest := by
    rw [← hv1]
    exact ⟨rfl, rfl⟩
  have hcount : s.verify.cursor + (WindowEntry.after op.attempt block :: more).length = s.verify.cursor + 1 + more.length := by
    rw [List.length_cons]
    omega
  rw [hsame.1, hsame.2, hcount] at htaken
  have hadvance : ((s.release id).setVerify v1).advanceVerify who n = ((s.release id).setVerify (v1.takePositions windowSize)).fillWindow windowSize :=
    advanceVerify_of_more (s := (s.release id).setVerify v1) (by
      show (v1.takePositions windowSize).cursor < (v1.takePositions windowSize).positions
      rw [htaken, ← hv1]
      exact hmore)
  refine ⟨_, by rw [hadvance], ?_, ?_⟩
  · rw [htaken, ← hv1]
    rfl
  · show (v1.takePositions windowSize).InOrder
    rw [htaken, ← hv1]
    refine ⟨?_, ?_⟩
    · show rest.length ≤ windowSize
      omega
    · show s.verify.cursor + 1 + more.length + rest.length ≤ s.verify.positions
      omega

/-- A position ahead of the cursor is read, or given up: it waits for the cursor (R151, R152). -/
theorem State.laterRead_spec {first : WindowEntry} {before rest : List WindowEntry} (hsound : s.verify.Sound)
    (hslot : s.verify.slot = .verifying who n) (hop : s.outstandingOp id OpKind.isVerifyRead = some op)
    (hwindow : s.verify.window = first :: (before ++ .outstanding id a :: rest)) (hfirst : first.ended = false)
    (hothers : ∀ x ∈ first :: before ++ rest, x.reads id = false) (hover : block ≠ none ∨ 4 ≤ op.attempt) :
    exec (.verifyReadComplete id block) s = .next ({ s with port := (s.release id).port, verify := { s.verify with
      window := first :: (before ++ WindowEntry.after op.attempt block :: rest)
      readOk := s.verify.readOk + (if block = none then 0 else 1)
      badBlocks := s.verify.badBlocks + (if block = none then 1 else 0) } } : State).grant := by
  obtain ⟨-, hid, -⟩ := outstandingOp_spec hop
  rw [exec_verifyReadComplete_of_window hslot hop
    ⟨.outstanding id a, by rw [hwindow]; simp, by simp [WindowEntry.reads]⟩, windowReadEnded_of_over hover]
  generalize hv1 : (s.release id).verify.readEnded op block = v1
  have hw1 : v1.window = first :: (before ++ WindowEntry.after op.attempt block :: rest) := by
    rw [← hv1]
    show s.verify.window.map _ = _
    rw [hwindow, hid]
    exact window_map_reads (before := first :: before) hothers _
  have htaken : v1.takePositions windowSize = v1 := Verify.takePositions_of_pending (by rw [hw1]; simpa using hfirst) _
  obtain ⟨hlength, hsum, hfull⟩ := hsound
  rw [hslot, if_pos (show (LongOp.verifying who n).isVerifying = true from rfl)] at hfull
  have hlen : v1.window.length = s.verify.window.length := by
    rw [hw1, hwindow]
    simp
  have hsame : v1.cursor = s.verify.cursor ∧ v1.positions = s.verify.positions := by
    rw [← hv1]
    exact ⟨rfl, rfl⟩
  have hpos : 0 < s.verify.window.length := by rw [hwindow]; simp
  have hadvance : ((s.release id).setVerify v1).advanceVerify who n = (s.release id).setVerify v1 := by
    have hmore := advanceVerify_of_more (who := who) (n := n) (s := (s.release id).setVerify v1) (by
      show (v1.takePositions windowSize).cursor < (v1.takePositions windowSize).positions
      rw [htaken, hsame.1, hsame.2]
      omega)
    have hset : ((s.release id).setVerify v1).setVerify (((s.release id).setVerify v1).verify.takePositions windowSize)
        = (s.release id).setVerify v1 := congrArg (State.setVerify · (s.release id)) htaken
    rw [hmore, hset]
    refine fillWindow_of_full ?_ _
    show v1.window.length = windowSize ∨ v1.cursor + v1.window.length = v1.positions
    rw [hlen, hsame.1, hsame.2]
    exact hfull.1
  rw [hadvance]
  refine congrArg (Host.Outcome.next ∘ State.grant) ?_
  have : v1 = { s.verify with
      window := v1.window
      readOk := s.verify.readOk + (if block = none then 0 else 1)
      badBlocks := s.verify.badBlocks + (if block = none then 1 else 0) } := by
    rw [← hv1]
    rfl
  rw [this, hw1]
  rfl

/-- A failed read below the fourth is asked again, in its place in the window (R151). -/
theorem State.failedRead_spec {before rest : List WindowEntry} (hslot : s.verify.slot = .verifying who n)
    (hop : s.outstandingOp id OpKind.isVerifyRead = some op) (hwindow : s.verify.window = before ++ .outstanding id a :: rest)
    (hothers : ∀ x ∈ before ++ rest, x.reads id = false) (hattempt : op.attempt < 4) :
    exec (.verifyReadComplete id none) s = .next ({ (s.release id).retry op with verify := { s.verify with
      window := before ++ .waiting s.port.nextOp (op.attempt + 1) :: rest } } : State).grant := by
  obtain ⟨-, hid, -⟩ := outstandingOp_spec hop
  rw [exec_verifyReadComplete_of_window hslot hop ⟨.outstanding id a, by rw [hwindow]; simp, by simp [WindowEntry.reads]⟩]
  have hentry : (s.release id).verify.setEntry op.id (.waiting (s.release id).port.nextOp (op.attempt + 1)) = { s.verify with
      window := before ++ .waiting s.port.nextOp (op.attempt + 1) :: rest } := by
    unfold Verify.setEntry
    have : (s.release id).verify.window.map (fun e => if e.reads op.id then .waiting (s.release id).port.nextOp (op.attempt + 1) else e)
        = before ++ .waiting s.port.nextOp (op.attempt + 1) :: rest := by
      show s.verify.window.map _ = _
      rw [hwindow, hid]
      exact window_map_reads hothers _
    rw [this]
    rfl
  have hended : (s.release id).windowReadEnded who n none op
      = ((s.release id).retry op).setVerify ((s.release id).verify.setEntry op.id (.waiting (s.release id).port.nextOp (op.attempt + 1))) :=
    if_pos hattempt
  rw [hended, hentry]
  rfl

/-- The operations of the port after a grant are those before (R120). -/
theorem State.ids_grantOne (s : State) : ∀ o ∈ s.grantOne.port.waiting ++ s.grantOne.port.outstanding,
    ∃ p ∈ s.port.waiting ++ s.port.outstanding, p.id = o.id := by
  rcases s.grantOne_cases with ⟨heq, -⟩ | ⟨picked, -, hpick, heq⟩
  · rw [heq]
    exact fun o ho => ⟨o, ho, rfl⟩
  · obtain ⟨op', hid, -, -, -, hport⟩ := (s.withdraw fun x => x.id == picked.id).grantOp_occupies picked
    rw [heq, hport]
    intro o ho
    rcases List.mem_append.1 ho with ho | ho
    · exact ⟨o, List.mem_append_left _ (List.mem_of_mem_filter ho), rfl⟩
    · rcases List.mem_append.1 ho with ho | ho
      · exact ⟨o, List.mem_append_right _ ho, rfl⟩
      · rw [List.mem_singleton.1 ho, hid]
        exact ⟨picked, List.mem_append_left _ (mem_of_pickNext hpick), rfl⟩

theorem State.ids_grant (s : State) : ∀ o ∈ s.grant.port.waiting ++ s.grant.port.outstanding,
    ∃ p ∈ s.port.waiting ++ s.port.outstanding, p.id = o.id := by
  intro o ho
  obtain ⟨o3, h3, e3⟩ := ids_grantOne _ o ho
  obtain ⟨o2, h2, e2⟩ := ids_grantOne _ o3 h3
  obtain ⟨o1, h1, e1⟩ := ids_grantOne _ o2 h2
  obtain ⟨o0, h0, e0⟩ := ids_grantOne _ o1 h1
  exact ⟨o0, h0, e0.trans (e1.trans (e2.trans e3))⟩

/-- Settles O40: the read at the cursor, a failed read, a read ahead of the cursor, and one of no window entry. -/
theorem verifyReadMovesTheWindow : Obligations.VerifyReadMovesTheWindow := by
  refine ⟨fun s who n id a op rest hsound hport hslot hop hkind => ⟨fun more hwindow hended hothers hhead hmore block hover => ?_,
    fun before k b hwindow hothers hkind hattempt => ?_, fun first before hwindow hfirst hothers block hover => ?_⟩,
    fun s id op block hport hop hnone => ?_⟩
  · obtain ⟨u, hexec, hu, hin⟩ := State.headRead_spec hsound hslot hop hwindow hended hothers hhead hmore hover
    have hnum : u.port.Numbered := by
      rw [hu]
      exact State.numbered_release hport.numbered id
    rw [hexec]
    generalize ht : (u.fillWindow windowSize).grant = t
    obtain ⟨hlength, hstands, hreads, hverify, hframe, -⟩ := State.filledWindow_spec hin hnum ht.symm
    rw [hu] at hlength hstands hreads hverify hframe
    refine ⟨t, rfl, hverify, hlength, hstands, hreads, ?_⟩
    obtain ⟨_, _, _, _, hall⟩ : ∃ j p w v, t = { s with journal := j, port := p, writer := w, verify := v } := ⟨_, _, _, _, hframe⟩
    rw [hall]
  · rw [State.failedRead_spec hslot hop hwindow hothers hattempt]
    generalize hu : ({ (s.release id).retry op with verify := { s.verify with
      window := before ++ .waiting s.port.nextOp (op.attempt + 1) :: rest } } : State) = u
    have hnum : u.port.Numbered := by
      rw [← hu]
      exact State.port_numbered_ask (State.numbered_release hport.numbered id) ..
    obtain ⟨hstands, hlength, -⟩ := WindowStands.window_grant u
    have huwindow : u.verify.window = before ++ .waiting s.port.nextOp (op.attempt + 1) :: rest := by rw [← hu]
    have hread : u.ReadAsked before.length k b (op.attempt + 1) := by
      refine ⟨{ id := s.port.nextOp, kind := op.kind, attempt := op.attempt + 1, block := op.block, isFinal := op.isFinal }, hkind, rfl,
        .inl ⟨?_, ?_⟩⟩
      · rw [← hu]
        exact List.mem_append_right _ (List.mem_singleton_self _)
      · rw [huwindow, List.getElem?_append_right (le_refl _), Nat.sub_self]
        rfl
    rw [huwindow] at hstands hlength
    refine ⟨u.grant, rfl, ?_, ?_, hstands.of_split.1, hstands.of_split.2, hread.grant hnum, ?_, ?_⟩
    · rw [u.grantedTo_grant.frame, ← hu]
    · rw [hlength, hwindow]
      simp
    · rw [hkind]
      exact State.asked_grant hnum hread.asked
    · exact State.outside_of_grant (u := u) ⟨s.journal, u.port, s.writer, u.verify, by rw [← hu]; rfl⟩ rfl
  · rw [State.laterRead_spec hsound hslot hop hwindow hfirst hothers hover]
    generalize hu : ({ s with port := (s.release id).port, verify := { s.verify with
      window := first :: (before ++ WindowEntry.after op.attempt block :: rest)
      readOk := s.verify.readOk + (if block = none then 0 else 1)
      badBlocks := s.verify.badBlocks + (if block = none then 1 else 0) } } : State) = u
    obtain ⟨hstands, -, hended⟩ := WindowStands.window_grant u
    have huwindow : u.verify.window = first :: (before ++ WindowEntry.after op.attempt block :: rest) := by rw [← hu]
    rw [huwindow] at hstands hended
    refine ⟨u.grant, _, rfl, rfl, ?_, hended, hstands, ?_, ?_, ?_⟩
    · rw [u.grantedTo_grant.frame, ← hu]
    · obtain ⟨y, hy, hstood⟩ := hstands (before.length + 1) (WindowEntry.after op.attempt block) (by simp)
      rcases hstood with rfl | ⟨_, _, hw, -⟩
      · exact hy
      · have := WindowEntry.ended_after op.attempt block
        rw [hw] at this
        cases this
    · rw [u.grantedTo_grant.numbers, ← hu]
      rfl
    · exact State.outside_of_grant (u := u) ⟨s.journal, u.port, s.writer, u.verify, by rw [← hu]⟩ rfl
  · have hexec : exec (.verifyReadComplete id block) s = .next (s.release id).grant := by
      refine congrArg Host.Outcome.next ((s.complete_of_outstanding _ hop).trans (congrArg State.grant ?_))
      obtain ⟨-, hid, -⟩ := State.outstandingOp_spec hop
      unfold State.verifyReadEnded
      split
      · next who n hslot =>
        refine if_neg fun hany => ?_
        obtain ⟨x, hx, hreads⟩ := List.any_eq_true.1 hany
        have hslot' : s.verify.slot = .verifying who n := hslot
        rcases hnone with h | h
        · rw [hslot'] at h
          cases h
        · rw [hid, h x hx] at hreads
          cases hreads
      all_goals rfl
    rw [hexec]
    obtain ⟨hstands, hlength, -⟩ := WindowStands.window_grant (s.release id)
    obtain ⟨hmem, hid, -⟩ := State.outstandingOp_spec hop
    have hgranted := (s.release id).grantedTo_grant
    refine ⟨_, rfl, fun o ho => ?_, hgranted.numbers, fun hwaiting => ?_, ?_, hlength, hstands, ?_⟩
    · obtain ⟨p, hp, hpid⟩ := (s.release id).ids_grant o ho
      have hps : p ∈ s.port.waiting ++ s.port.outstanding ∧ p.id ≠ id := by
        rcases List.mem_append.1 hp with hp | hp
        · refine ⟨List.mem_append_left _ hp, fun h => ?_⟩
          have hnodup := hport.numbered.2.2
          rw [List.map_append, List.nodup_append'] at hnodup
          exact hnodup.2.2 (List.mem_map_of_mem (f := Op.id) hp) (by rw [h, ← hid]; exact List.mem_map_of_mem hmem)
        · obtain ⟨hp, hne⟩ := List.mem_filter.1 hp
          exact ⟨List.mem_append_right _ hp, by simpa using hne⟩
      exact ⟨hpid ▸ hps.2, p, hps.1, hpid⟩
    · have hone : (s.release id).grantOne = s.release id := State.grantOne_of_idle _ hwaiting
      simp only [State.grant, hone]
    · rw [hgranted.frame]
      rfl
    · exact State.outside_of_grant (u := s.release id) ⟨s.journal, (s.release id).port, s.writer, s.verify, rfl⟩ rfl

end Sys2Proof.Machine

/-! FRAME_DRAW: the frame accounted to its take, and its bytes placed (R12, R13, R124, R125, R130). -/

namespace Sys2Proof.Machine

variable {s t u : State} {n k b c w : Nat} {r : Record} {e : QueueEntry} {f : RingFrame} {phase : BufferPhase} {seg : Segment}

/-! ### The notes of a dropout (R13) -/

theorem DefectNote.isDropout_iff {note : DefectNote} {lane : Nat} : note.isDropout lane = true ↔ ∃ f n, note = .dropout lane f n := by
  cases note <;> simp [DefectNote.isDropout]

/-- The lane's most recent dropout ends just before the frame. -/
theorem Record.dropout_of_end {before after : List DefectNote} {x m lane : Nat} (hnotes : r.notes = before ++ .dropout lane x m :: after)
    (hafter : after.all (fun y => !y.isDropout lane) = true) :
    r.dropout (x + m) lane = { r with notes := before ++ .dropout lane x (m + 1) :: after } :=
  Record.runNote_of_runEnd_eq 1 _ hnotes hafter (DefectNote.isDropout_iff.2 ⟨x, m, rfl⟩) rfl

/-- The lane has no dropout, or its most recent one ends elsewhere. -/
theorem Record.dropout_of_no_end {q lane : Nat} (hend : ∀ before after x m, r.notes = before ++ DefectNote.dropout lane x m :: after →
    after.all (fun y => !y.isDropout lane) = true → x + m ≠ q) : r.dropout q lane = r.addNote (.dropout lane q 1) := by
  refine Record.runNote_of_runEnd_ne 1 _ fun before y after hnotes hafter hy => ?_
  obtain ⟨x, m, rfl⟩ := DefectNote.isDropout_iff.1 hy
  exact hend before after x m hnotes hafter

/-- A dropout looks at the notes and flags of a record, and changes them alone. -/
theorem Record.dropout_shape (q lane : Nat) (r : Record) : ∃ (notes : List DefectNote) (flags : TakeFlags),
    ∀ r' : Record, r'.notes = r.notes → r'.flags = r.flags → r'.dropout q lane = { r' with notes := notes, flags := flags } := by
  have hadd (note : DefectNote) : ∃ (notes : List DefectNote) (flags : TakeFlags),
      ∀ r' : Record, r'.notes = r.notes → r'.flags = r.flags → r'.addNote note = { r' with notes := notes, flags := flags } := by
    by_cases hroom : r.notes.length < maxNotes
    · refine ⟨r.notes ++ [note], r.flags, fun r' hn hf => ?_⟩
      rw [Record.addNote_of_lt note (by rw [hn]; exact hroom), ← hn, ← hf]
    · refine ⟨r.notes, setFlag .notesDropped r.flags, fun r' hn hf => ?_⟩
      rw [Record.addNote_of_full note (by rw [hn]; exact not_lt.1 hroom), ← hn, ← hf]
      rfl
  unfold Record.dropout Record.runNote
  cases hfind : r.notes.reverse.find? (DefectNote.isDropout lane) with
  | none =>
    obtain ⟨notes, flags, h⟩ := hadd (.dropout lane q 1)
    exact ⟨notes, flags, fun r' hn hf => by rw [hn, hfind]; exact h r' hn hf⟩
  | some x =>
    by_cases hend : x.runEnd = q
    · exact ⟨modifyLast (DefectNote.isDropout lane) (·.lengthen 1) r.notes, r.flags, fun r' hn hf => by simp only [hn, hfind, hend, if_true, ← hf]⟩
    · obtain ⟨notes, flags, h⟩ := hadd (.dropout lane q 1)
      exact ⟨notes, flags, fun r' hn hf => by simp only [hn, hfind, hend, if_false]; exact h r' hn hf⟩

theorem Record.dropouts_shape (q : Nat) (l : List Nat) (r : Record) : ∃ (notes : List DefectNote) (flags : TakeFlags),
    ∀ r' : Record, r'.notes = r.notes → r'.flags = r.flags → l.foldl (Record.dropout q) r' = { r' with notes := notes, flags := flags } := by
  induction l generalizing r with
  | nil => exact ⟨r.notes, r.flags, fun r' hn hf => by rw [← hn, ← hf]; rfl⟩
  | cons lane l ih =>
    obtain ⟨notes, flags, h⟩ := dropout_shape q lane r
    obtain ⟨notes', flags', h'⟩ := ih { r with notes := notes, flags := flags }
    exact ⟨notes', flags', fun r' hn hf => by rw [List.foldl_cons, h r' hn hf, h' { r' with notes := notes, flags := flags } rfl rfl]⟩

/-! ### The frame accounted (R12, R13, R125) -/

theorem recordedFrame_eq (r : Record) (f : RingFrame) : recordedFrame r f = r.trackBytes f := rfl

theorem lanesOf_and (m k : Word16) : lanesOf (m &&& k) = (List.finRange 16).filter fun (i : Fin 16) => m.getLsbD i && k.getLsbD i := by
  unfold lanesOf
  refine List.filter_congr fun i _ => ?_
  rw [BitVec.getLsbD_and]

/-- The frame is accounted to the record (R12, R13, R125), whose extents it leaves. -/
theorem Record.accounts_account (f : RingFrame) (w : Nat) (r : Record) : r.Accounts f w (r.account f w)
    ∧ (r.account f w).extents = r.extents
    ∧ (r.armed &&& f.invalid = 0 → (r.account f w).notes = r.notes ∧ (r.account f w).flags = r.flags) := by
  obtain ⟨notes, flags, h⟩ := dropouts_shape (w - r.start) ((lanesOf (r.armed &&& f.invalid)).map (·.val)) r
  have haccount : r.account f w = { r with
      recorded := r.recorded + 1
      peaks := List.zipWith max r.peaks ((trackSamples r.armed r.mixPresent f).map magnitude)
      clipCount := if r.mixPresent && f.clip then min 65535 (r.clipCount + 1) else r.clipCount
      notes := notes, flags := flags } := h _ rfl rfl
  have hself := h r rfl rfl
  rw [haccount]
  refine ⟨⟨rfl, rfl, ?_, fun noted hnoted => ?_, rfl⟩, rfl, fun hvalid => ?_⟩
  · cases r.mixPresent <;> cases f.clip <;> rfl
  · have hfold : noted = ((lanesOf (r.armed &&& f.invalid)).map (·.val)).foldl (Record.dropout (w - r.start)) r := by
      rw [List.foldl_map, lanesOf_and]
      exact hnoted
    rw [hfold, hself]
    exact ⟨rfl, rfl⟩
  · rw [hvalid] at hself
    have hnone : (lanesOf 0).map (·.val) = [] := by decide
    rw [hnone, List.foldl_nil] at hself
    exact ⟨(congrArg Record.notes hself).symm, (congrArg Record.flags hself).symm⟩

theorem Record.account_stop (f : RingFrame) (w : Nat) (r : Record) : (r.account f w).state = r.state ∧ (r.account f w).stop = r.stop := by
  have h := (accounts_account f w r).1.2.2.2.2
  rw [h]
  exact ⟨rfl, rfl⟩

/-! ### The draw itself -/

theorem State.MayDraw.drawable (h : s.MayDraw e r f) : s.drawable r e = some f := by
  obtain ⟨-, -, -, hframe, hmay⟩ := h
  have : s.mayDraw r e = true := by
    unfold mayDraw
    rcases hmay with ⟨hstate, hheld, hroll⟩ | ⟨hstate, -⟩
    · rw [hstate]
      dsimp only
      rw [Bool.and_eq_true, decide_eq_true_eq]
      refine ⟨hheld, ?_⟩
      rcases hroll with h | ⟨stop, h, hstop, hlt⟩
      · rw [h]
      · rw [h, hstop]
        exact decide_eq_true hlt
    · rw [hstate]
  unfold State.drawable
  rw [if_pos this, hframe]

/-- A take drawn from is at its end exactly when it does not go on (R125). -/
theorem State.MayDraw.ends (h : s.MayDraw e r f) (hgoes : ¬ r.GoesOn e.next) : r.state = .closing ∧ r.stop = some (e.next + 1) := by
  obtain ⟨-, -, -, -, hmay⟩ := h
  unfold Record.GoesOn at hgoes
  push Not at hgoes
  rcases hmay with ⟨hstate, -⟩ | ⟨hstate, stop, hstop, hlt⟩
  · exact absurd hstate hgoes.1
  · have := hgoes.2 stop hstop
    refine ⟨hstate, ?_⟩
    rw [hstop]
    congr 1
    omega

theorem exec_frameDraw_of_quiet (h : s.drawFrame.announced = s.announced) : exec .frameDraw s = .next s.drawFrame.grant := by
  show Host.Outcome.next _ = _
  rw [State.announce_of_eq h.symm]

/-- What a draw into a buffer with room does (R125, R130). -/
theorem State.drawFrame_of_room (h : s.MayDraw e r f) (hc : e.current = some b) (hb : s.buffer b = .used phase seg)
    (hroom : seg.data.length + r.frameBytes ≤ seg.run.count * 4096) : s.drawFrame
      = (s.setBuffer b (.used phase { seg with data := seg.data ++ r.trackBytes f })).accountDraw e.index f e.next := by
  have hdraw := h.drawable
  obtain ⟨hfilling, -, hr, -⟩ := h
  have hfits : r.frameBytes ≤ s.room e := by
    simp only [room, hc, hb, show blockBytes = 4096 from rfl]
    omega
  have hfill : s.fillBuffer b (recordedFrame r f) = s.setBuffer b (.used phase { seg with data := seg.data ++ r.trackBytes f }) := by
    simp only [fillBuffer, hb]
    rfl
  simp only [drawFrame, hfilling, hr, hdraw, hc, hfits, if_true, hfill]

/-- A draw without room opens a buffer (R128). -/
theorem State.drawFrame_of_full (h : s.MayDraw e r f) (hroom : s.room e < r.frameBytes) : s.drawFrame = s.drawOpening r e f := by
  have hdraw := h.drawable
  obtain ⟨hfilling, -, hr, -⟩ := h
  have hnot : ¬ r.frameBytes ≤ s.room e := not_le.2 hroom
  simp only [drawFrame, hfilling, hr, hdraw, hnot, if_false]
  cases e.current <;> rfl

/-! ### The frame accounted to its take, which goes on or ends (R125) -/

/-- The next-needed frame moves on. -/
def QueueEntry.drawn (e : QueueEntry) : QueueEntry := { e with next := e.next + 1 }

/-- A frame drawn, before its take may be at its end. -/
def State.drawn (s : State) (n : Nat) (f : RingFrame) (w : Nat) : State := (s.modifyRecord n (·.account f w)).modifyEntry n QueueEntry.drawn

theorem State.accountDraw_eq (n : Nat) (f : RingFrame) (w : Nat) (s : State) : s.accountDraw n f w = (s.drawn n f w).finishIfDone n := rfl

theorem State.slotAt_drawn (s : State) (n : Nat) (f : RingFrame) (w k : Nat) : (s.drawn n f w).slotAt k
    = if k = n then (s.slotAt n).map (fun sl => { sl with entry := sl.entry.mapRecord (·.account f w) }) else s.slotAt k :=
  s.slotAt_modifyRecord n (·.account f w) k

theorem State.recordAt_drawn (hr : s.recordAt n = some r) (f : RingFrame) (w : Nat) : (s.drawn n f w).recordAt n = some (r.account f w) := by
  show (s.modifyRecord n _).recordAt n = _
  rw [recordAt_modifyRecord, if_pos rfl, hr]
  rfl

theorem State.entryOf_drawn (s : State) (n : Nat) (f : RingFrame) (w k : Nat) : (s.drawn n f w).entryOf k
    = if k = n then (s.entryOf n).map QueueEntry.drawn else s.entryOf k := by
  have hentry (m : Nat) : (s.modifyRecord n (·.account f w)).entryOf m = s.entryOf m := by simp [entryOf]
  refine (entryOf_modifyEntry _ n k QueueEntry.drawn fun _ => rfl).trans ?_
  rw [hentry, hentry]

theorem State.buffer_drawn (s : State) (n : Nat) (f : RingFrame) (w c : Nat) : (s.drawn n f w).buffer c = s.buffer c := by
  show (s.modifyRecord n _).buffer c = _
  simp [buffer]

theorem State.drawn_frame_eq (s : State) (n : Nat) (f : RingFrame) (w : Nat) : s.drawn n f w = { s with
    journal := (s.drawn n f w).journal
    writer := { s.writer with queue := s.writer.queue.map fun x => if x.index = n then { x with next := x.next + 1 } else x } } := by
  unfold drawn modifyEntry
  rw [modifyRecord_frame_eq]
  rfl

/-- A take that goes on after the frame is only drawn from (R125). -/
theorem State.accountDraw_of_going (hr : s.recordAt e.index = some r) (he : s.entryOf e.index = some e) (hgoes : r.GoesOn e.next) :
    s.accountDraw e.index f e.next = s.drawn e.index f e.next := by
  have he' : (s.drawn e.index f e.next).entryOf e.index = some e.drawn := by rw [entryOf_drawn, if_pos rfl, he]; rfl
  refine finishIfDone_of_going (recordAt_drawn hr f e.next) he' ?_
  obtain ⟨hstate, hstop⟩ := r.account_stop f e.next
  rw [hstate, hstop]
  rcases hgoes with h | ⟨stop, h, hlt⟩
  · exact .inl (by simp [h])
  · exact .inr (by rw [h]; exact hlt)

/-- A CLOSING take with segments outstanding that comes to its end seals its buffer, and asks no final write yet (R90, R125, R131). -/
theorem State.finishIfDone_of_sealed (hr : s.recordAt n = some r) (he : s.entryOf n = some e) (hstate : r.state = .closing)
    (hstop : r.stop.getD 0 ≤ e.next) (hc : e.current = some b) (hb : s.buffer b = .used phase seg) (hcount : e.completed ≤ e.sealedSegs) :
    s.finishIfDone n = (s.withSealed n b true e seg).askNew (.segmentWrite b 0) := by
  rw [finishIfDone_of_done hr he hstate hstop, sealCurrent_of_current he hc hb]
  rcases ((s.withSealed n b true e seg).askNew (.segmentWrite b 0)).askFinalIfDue_cases n with ⟨hdue, -⟩ | ⟨-, h⟩
  · have hr' : ((s.withSealed n b true e seg).askNew (.segmentWrite b 0)).recordAt n = some (r.shortened seg) := by
      show (s.withSealed n b true e seg).recordAt n = _
      rw [withSealed, recordAt_modifyRecord, if_pos rfl]
      exact congrArg (Option.map _) hr
    have he' : ((s.withSealed n b true e seg).askNew (.segmentWrite b 0)).entryOf n = some { e with sealedSegs := e.sealedSegs + 1, current := none } :=
      entryOf_withSealed he true
    rw [finalDue_of_done hr' he' hstate hstop rfl, decide_eq_true_eq] at hdue
    dsimp only at hdue
    omega
  · exact h

/-! ### The grants of a take's own segment writes (R133, R134) -/

/-- The grant of a write of a take's own segment taps its bytes into that take's digest, and leaves every other take. -/
theorem State.entryOf_grant_segments (h : u.port.Offers fun x => ∃ b i phase seg, x = .segmentWrite b i ∧ u.buffer b = .used phase seg ∧ seg.take = n)
    (hk : k ≠ n) : u.grant.entryOf k = u.entryOf k := by
  refine (grant_induct (Q := fun v => v.entryOf k = u.entryOf k ∧ ∀ b phase seg, v.buffer b = .used phase seg →
    ∃ phase' seg', u.buffer b = .used phase' seg' ∧ seg'.take = seg.take) h (fun _ _ hv => hv) ?_ ⟨rfl, fun b phase seg h => ⟨phase, seg, h, rfl⟩⟩).1
  rintro v op ⟨b, i, phase, seg, hkind, hb, htake⟩ ⟨hentry, hbuffers⟩
  have hgrant : v.grantOp op = (v.occupy op).grantSegment b i := by simp only [grantOp, hkind]
  rw [hgrant]
  unfold grantSegment
  cases hvb : (v.occupy op).buffer b with
  | free => exact ⟨hentry, hbuffers⟩
  | used ph sg =>
    have hlt : b < 8 := (v.occupy op).lt_of_buffer_ne_free (by simp [hvb])
    obtain ⟨phase', seg', hb', htake'⟩ := hbuffers b ph sg hvb
    cases hb.symm.trans hb'
    have hbuffers' : ∀ c phase seg, ((v.occupy op).setBuffer b (.used .inFlight { sg with
        writes := setPiece i .outstanding sg.writes, tapped := true })).buffer c = .used phase seg →
        ∃ phase' seg', u.buffer c = .used phase' seg' ∧ seg'.take = seg.take := fun c phase seg hc => by
      rw [buffer_setBuffer _ _ _ _ hlt] at hc
      split at hc
      · next hcb =>
        cases hc
        rw [hcb]
        exact ⟨_, _, hb, htake'⟩
      · exact hbuffers c phase seg hc
    dsimp only
    split
    · exact ⟨hentry, hbuffers'⟩
    · refine ⟨?_, hbuffers'⟩
      rw [entryOf_modifyEntry]
      · rw [if_neg (by rw [← htake', htake]; exact hk)]
        exact hentry
      · exact fun _ => rfl

end Sys2Proof.Machine

/-! FRAME_DRAW into a buffer with room (R124, R125, R130–R132). -/

namespace Sys2Proof.Machine

variable {s t u : State} {n k b c w : Nat} {r : Record} {e : QueueEntry} {f : RingFrame} {phase : BufferPhase} {seg : Segment}

/-! ### The last frame of a CLOSING take (R125, R131) -/

/-- A CLOSING take whose last frame is drawn has its buffer sealed (R125, R131). -/
def State.drawnLast (s : State) (b : Nat) (f : RingFrame) (e : QueueEntry) (seg : Segment) : State :=
  ((s.drawn e.index f e.next).withSealed e.index b true e.drawn seg).askNew (.segmentWrite b 0)

theorem State.accountDraw_of_last (hr : s.recordAt e.index = some r) (he : s.entryOf e.index = some e) (hstate : r.state = .closing)
    (hstop : r.stop = some (e.next + 1)) (hc : e.current = some b) (hb : s.buffer b = .used phase seg) (hcount : e.completed ≤ e.sealedSegs) :
    s.accountDraw e.index f e.next = s.drawnLast b f e seg := by
  have he' : (s.drawn e.index f e.next).entryOf e.index = some e.drawn := by rw [entryOf_drawn, if_pos rfl, he]; rfl
  obtain ⟨hstate', hstop'⟩ := r.account_stop f e.next
  exact finishIfDone_of_sealed (recordAt_drawn hr f e.next) he' (hstate'.trans hstate) (by rw [hstop', hstop]; exact le_refl _) hc
    ((buffer_drawn ..).trans hb) hcount

/-- What a draw of the last frame leaves (R125, R131, R132). -/
structure State.DrawsLast (s : State) (b : Nat) (f : RingFrame) (e : QueueEntry) (r : Record) (seg : Segment) (t : State) : Prop where
  frame : t = { s with journal := t.journal, writer := t.writer, port := t.port }
  record : t.recordAt e.index = some ((r.account f e.next).shortened seg)
  others : s.OtherSlotsKept e.index t
  entry : ∃ d, t.entryOf e.index = some { e with next := e.next + 1, current := none, sealedSegs := e.sealedSegs + 1, digest := d }
  entries : ∀ k, k ≠ e.index → t.entryOf k = s.entryOf k
  sealing : t.Sealed b seg [] (e.sealedSegs + 1) (if e.sealedSegs = 0 then .only else .last)

theorem State.drawsLast_drawnLast (hr : s.recordAt e.index = some r) (he : s.entryOf e.index = some e) (hlt : b < 8) :
    s.DrawsLast b f e r seg (s.drawnLast b f e seg) ∧ ∀ c, (s.drawnLast b f e seg).buffer c
      = if c = b then .used .ready (seg.close true (e.sealedSegs + 1)) else s.buffer c := by
  have he' : (s.drawn e.index f e.next).entryOf e.index = some e.drawn := by rw [entryOf_drawn, if_pos rfl, he]; rfl
  have hbuffers (c : Nat) : (s.drawnLast b f e seg).buffer c = if c = b then .used .ready (seg.close true (e.sealedSegs + 1)) else s.buffer c := by
    refine (buffer_withSealed (s := s.drawn e.index f e.next) hlt true c).trans ?_
    rw [buffer_drawn]
    rfl
  have hentries (k : Nat) (hk : k ≠ e.index) : (s.drawnLast b f e seg).entryOf k = s.entryOf k := by
    have hmod (v : State) : (v.modifyRecord e.index (·.shortened seg)).entryOf k = v.entryOf k := by simp [entryOf]
    refine (hmod _).trans ((entryOf_modifyEntry _ e.index k QueueEntry.afterSeal fun _ => rfl).trans ?_)
    rw [if_neg hk]
    exact (entryOf_drawn ..).trans (if_neg hk)
  have htag : sealTag true (e.sealedSegs + 1) = if e.sealedSegs = 0 then PositionTag.only else .last := by simp [sealTag]
  refine ⟨⟨?_, ?_, ?_, ⟨e.digest, entryOf_withSealed he' true⟩, hentries, ?_⟩, hbuffers⟩
  · unfold drawnLast withSealed
    rw [modifyRecord_frame_eq, drawn_frame_eq]
    rfl
  · have hmod := (s.drawn e.index f e.next).slotAt_withSealed (n := e.index) (b := b) (e := e.drawn) (seg := seg) true e.index
    obtain ⟨sl, hsl, hentry⟩ := recordAt_eq_some.1 (recordAt_drawn hr f e.next)
    rw [if_pos rfl, hsl] at hmod
    exact recordAt_eq_some.2 ⟨_, hmod, by dsimp only; rw [hentry]; rfl⟩
  · refine ⟨fun k hk => ?_, ?_⟩
    · refine ((s.drawn e.index f e.next).slotAt_withSealed (n := e.index) (b := b) (e := e.drawn) (seg := seg) true k).trans ?_
      rw [if_neg hk, slotAt_drawn, if_neg hk]
    · simp [drawnLast, withSealed, drawn, askNew]
  · rw [← htag]
    exact sealed_of_close (phase := .ready) ((hbuffers b).trans (if_pos rfl)) (asked_ask ..)

/-- Where only writes of the take's own segments may be granted, what a draw leaves stands after the grants (R133, R134). -/
theorem State.grant_of_segments (h : u.port.Offers fun x => ∃ b i phase seg, x = .segmentWrite b i ∧ u.buffer b = .used phase seg ∧ seg.take = n) :
    u.grant = { u with port := u.grant.port, writer := u.grant.writer } ∧ ∀ k, k ≠ n → u.grant.entryOf k = u.entryOf k := by
  refine ⟨?_, fun k hk => entryOf_grant_segments h hk⟩
  have hjournal : u.grant.journal = u.journal := journal_grant_other (h.mono (by rintro _ ⟨b, i, -, -, rfl, -⟩; rfl))
  have hverify : u.grant.verify = u.verify := verify_grant_other (h.mono (by rintro _ ⟨b, i, -, -, rfl, -⟩; rfl))
  conv_lhs => rw [u.grantedTo_grant.frame]
  rw [hjournal, hverify]

theorem State.DrawsLast.grant (h : s.DrawsLast b f e r seg t) (hport : t.port.Numbered)
    (hoffers : t.port.Offers fun x => ∃ b i phase seg, x = .segmentWrite b i ∧ t.buffer b = .used phase seg ∧ seg.take = e.index) :
    s.DrawsLast b f e r seg t.grant := by
  obtain ⟨hframe, hentries⟩ := grant_of_segments hoffers
  have hjournal : t.grant.journal = t.journal := by rw [hframe]
  have hslot (k : Nat) : t.grant.slotAt k = t.slotAt k := by rw [slotAt, hjournal]; rfl
  obtain ⟨d, hd⟩ := h.entry
  obtain ⟨d', hd'⟩ := t.grantedTo_grant.entryOf hd
  refine ⟨?_, ?_, ⟨fun k hk => (hslot k).trans (h.others.1 k hk), by rw [hjournal]; exact h.others.2⟩, ⟨d', hd'⟩,
    fun k hk => (hentries k hk).trans (h.entries k hk), h.sealing.grant hport⟩
  · have hrest := h.frame
    generalize t.grant = v at hframe hjournal ⊢
    rw [hframe]
    dsimp only
    conv_lhs => rw [hrest]
  · refine Eq.trans ?_ h.record
    unfold recordAt
    rw [hslot]

theorem Record.Accounts.shortened {r' : Record} (h : r.Accounts f w r') (seg : Segment) : r.Accounts f w (r'.shortened seg) := by
  obtain ⟨hrecorded, hpeaks, hclip, hnotes, hrest⟩ := h
  refine ⟨hrecorded, hpeaks, hclip, hnotes, ?_⟩
  conv_lhs => rw [Record.shortened, hrest]
  rfl

theorem Record.shortened_extents_of_used {front : List Extent} {x : Extent} {used : Nat} (hr : r.extents = front ++ [x])
    (hused : used = (seg.data.length + 4095) / 4096) (hpos : seg.data ≠ []) (hle : seg.run.count ≤ x.count) : (r.shortened seg).extents
      = if used < seg.run.count then front ++ [{ first := x.first, count := x.count - (seg.run.count - used) }] else r.extents := by
  have hpos' : 0 < seg.data.length := List.length_pos_of_ne_nil hpos
  have hceil : ceilDiv seg.data.length blockBytes = used := hused.symm
  by_cases hlt : used < seg.run.count
  · rw [shortened_extents hr (by rw [hceil]; exact hlt), hceil, if_neg (by omega), if_pos hlt]
  · rw [if_neg hlt, shortened, hceil, if_neg hlt]

/-! ### Where nothing is drawn (R124) -/

theorem exec_frameDraw_of_still (hport : s.port.Sound) (h : s.drawFrame = s) : exec .frameDraw s = .next s := by
  rw [exec_frameDraw_of_quiet (by rw [h]), h, s.grant_of_portSound hport]

theorem State.drawFrame_of_undrawable (hfilling : s.filling = some e) (hr : s.recordAt e.index = some r) (h : s.drawable r e = none) :
    s.drawFrame = s := by
  simp only [drawFrame, hfilling, hr, h]

theorem State.drawable_of_barred (h : s.mayDraw r e = false) : s.drawable r e = none := by
  unfold drawable
  rw [h]
  rfl

theorem State.freeBuffer_eq_none (h : ∀ b, b < 8 → s.buffer b ≠ .free) : s.freeBuffer = none := by
  refine List.find?_eq_none.2 fun b hb => ?_
  simpa using h b (List.mem_range.1 hb)

theorem State.drawFrame_of_no_buffer (hfilling : s.filling = some e) (hr : s.recordAt e.index = some r) (hroom : s.room e < r.frameBytes)
    (h : ∀ b, b < 8 → s.buffer b ≠ .free) : s.drawFrame = s := by
  have hopening (f : RingFrame) : s.drawOpening r e f = s := by
    unfold drawOpening
    rw [freeBuffer_eq_none h]
  have hnot : ¬ r.frameBytes ≤ s.room e := not_le.2 hroom
  cases hdraw : s.drawable r e with
  | none => exact drawFrame_of_undrawable hfilling hr hdraw
  | some f =>
    simp only [drawFrame, hfilling, hr, hdraw, hnot, if_false, hopening]
    cases e.current <;> rfl

theorem Intake.frameAt_eq_none {i : Intake} {q : Nat} (h : i.position ≤ q ∨ q < i.oldestHeld) : i.frameAt q = none := by
  unfold frameAt
  refine if_neg fun hq => ?_
  omega

theorem SampleRate.half_eq (x : SampleRate) : x.half = x.hz / 2 := by cases x <;> rfl

/-! ### The statement -/

/-- Settles O25: the bytes of a drawn frame follow the buffer's data and the take goes on (`accountDraw_of_going`), or its last frame
seals the buffer (`drawsLast_drawnLast`); a dropout lengthens the note it follows (`dropout_of_end`) or joins the notes. -/
theorem frameDrawPlacesTheNextNeededFrame : Obligations.FrameDrawPlacesTheNextNeededFrame := by
  refine ⟨fun s e r f b phase seg hport hmay hc hb hroom => ?_, fun r q lane => ⟨?_, fun hend => ⟨fun hlt => ?_, fun hfull => ?_⟩⟩,
    fun s hport => ⟨fun hnone => ?_, fun e r hfilling hr => ⟨fun hheld => ?_, fun hstate hback => ?_, fun stop hstate htail hpending hle => ?_,
      fun hroom hbuffers => ?_⟩⟩⟩
  · have hlt : b < 8 := s.lt_of_buffer_ne_free (by simp [hb])
    have hdraw := s.drawFrame_of_room hmay hc hb hroom
    obtain ⟨-, he, hr, -⟩ := hmay
    generalize hfilled : ({ seg with data := seg.data ++ r.trackBytes f } : Segment) = filled at hdraw
    have hbuffer : ∀ c, (s.setBuffer b (.used phase filled)).buffer c = if c = b then .used phase filled else s.buffer c :=
      fun c => s.buffer_setBuffer b c _ hlt
    obtain ⟨w, hw, hqueue⟩ : ∃ w, s.setBuffer b (.used phase filled) = { s with writer := w } ∧ w.queue = s.writer.queue := ⟨_, rfl, rfl⟩
    generalize s.setBuffer b (.used phase filled) = u at *
    have hrecord : u.recordAt e.index = some r := by rw [hw]; exact hr
    have hentry (k : Nat) : u.entryOf k = s.entryOf k := by rw [hw]; exact congrArg (List.find? _) hqueue
    have hslot (k : Nat) : u.slotAt k = s.slotAt k := by rw [hw]; rfl
    have hportu : u.port.Sound := by rw [hw]; exact hport
    have hothers : s.OtherSlotsKept e.index u := ⟨fun k _ => hslot k, by rw [hw]⟩
    obtain ⟨haccounts, hextents, hvalid⟩ := r.accounts_account f e.next
    refine ⟨fun hgoes => ?_, fun front x used hstate hstop htake hcount hdata hused hext hrun => ?_⟩
    · have hgoing := hdraw.trans (State.accountDraw_of_going hrecord ((hentry _).trans he) hgoes)
      have hframe := u.drawn_frame_eq e.index f e.next
      refine ⟨u.drawn e.index f e.next, r.account f e.next, ?_, ?_, ?_, fun c hcb => ?_, ?_, hothers.trans ?_, haccounts, hextents, hvalid, ?_⟩
      · rw [exec_frameDraw_of_quiet (by rw [hgoing, hframe, hw]; rfl), hgoing, State.grant_of_portSound _ (by rw [hframe]; exact hportu)]
      · rw [hframe, hw]
        dsimp only
        rw [hqueue]
      · rw [State.buffer_drawn, hbuffer, if_pos rfl, ← hfilled]
      · rw [State.buffer_drawn, hbuffer, if_neg hcb]
      · obtain ⟨sl, hsl, hsle⟩ := State.recordAt_eq_some.1 hr
        rw [State.slotAt_drawn, if_pos rfl, hslot, hsl]
        simp [hsle, MirrorEntry.mapRecord]
      · exact State.otherSlotsKept_of (fun k hk => (State.slotAt_drawn ..).trans (if_neg hk)) (by simp [State.drawn])
      · generalize u.drawn e.index f e.next = v at hframe ⊢
        rw [hframe]
        dsimp only
        rw [hw]
    · have hlast := hdraw.trans (State.accountDraw_of_last hrecord ((hentry _).trans he) hstate hstop hc ((hbuffer b).trans (if_pos rfl)) hcount)
      obtain ⟨hspec, hbuffers⟩ := State.drawsLast_drawnLast (f := f) (seg := filled) hrecord ((hentry _).trans he) hlt
      have hasks : ∃ v : State, u.drawnLast b f e filled = v.askNew (.segmentWrite b 0) ∧ v.port = s.port :=
        ⟨_, rfl, by simp [State.withSealed, State.drawn, hw]⟩
      generalize u.drawnLast b f e filled = t at *
      obtain ⟨v, hv, hvport⟩ := hasks
      have hnumbered : t.port.Numbered := by
        rw [hv]
        exact State.port_numbered_ask (by rw [hvport]; exact hport.numbered) _ _ _ _
      have hown : t.port.Offers (· = .segmentWrite b 0) := by
        rw [hv]
        exact State.offers_ask (P := (· = .segmentWrite b 0)) (by rw [hvport]; exact hport.offers _) rfl _ _ _
      have hgrants := hspec.grant hnumbered (hown.mono fun k hk => ⟨b, 0, .ready, _, hk, (hbuffers b).trans (if_pos rfl), by
        rw [← hfilled]; exact htake⟩)
      obtain ⟨d, hd⟩ := hgrants.entry
      refine ⟨t.grant, _, d, ?_, hd, fun k hk => (hgrants.entries k hk).trans (hentry k), ?_, fun c hcb => ?_, hgrants.record,
        hothers.trans hgrants.others, haccounts.shortened filled, ?_, ?_⟩
      · rw [exec_frameDraw_of_quiet (by rw [hlast, hspec.frame, hw]; rfl), hlast]
      · have := hgrants.sealing
        rw [← hfilled] at this
        exact this.of_append
      · rw [State.buffer_grant_other (hown.mono fun k hk i hki => hcb (by rw [hk] at hki; cases hki; rfl)), hbuffers, if_neg hcb, hbuffer,
          if_neg hcb]
      · refine (Record.shortened_extents_of_used (used := used) (hextents.trans hext) ?_ ?_ ?_).trans ?_
        · rw [← hfilled]
          exact hused
        · rw [← hfilled]
          exact hdata
        · rw [← hfilled]
          exact hrun
        · rw [← hfilled, hextents]
      · conv_lhs => rw [hgrants.frame, hw]
  · rintro before after x m hnotes hafter rfl
    exact Record.dropout_of_end hnotes hafter
  · rw [Record.dropout_of_no_end hend, Record.addNote_of_lt _ hlt]
  · rw [Record.dropout_of_no_end hend, Record.addNote_of_full _ hfull]
    rfl
  · refine exec_frameDraw_of_still hport ?_
    simp only [State.drawFrame, hnone]
  · refine exec_frameDraw_of_still hport (State.drawFrame_of_undrawable hfilling hr ?_)
    unfold State.drawable
    rw [Intake.frameAt_eq_none hheld, ite_self]
  · refine exec_frameDraw_of_still hport (State.drawFrame_of_undrawable hfilling hr (State.drawable_of_barred ?_))
    unfold State.mayDraw
    rw [hstate]
    dsimp only
    rw [SampleRate.half_eq, decide_eq_false (not_lt.2 hback), Bool.false_and]
  · refine exec_frameDraw_of_still hport (State.drawFrame_of_undrawable hfilling hr (State.drawable_of_barred ?_))
    unfold State.mayDraw
    rw [hstate, htail, hpending]
    dsimp only
    rw [decide_eq_false (not_lt.2 hle), Bool.and_false]
  · exact exec_frameDraw_of_still hport (State.drawFrame_of_no_buffer hfilling hr hroom hbuffers)

end Sys2Proof.Machine

/-! FRAME_DRAW that opens a buffer (R112, R127, R128, R130). -/

namespace Sys2Proof.Machine

variable {s t u : State} {n k b c w : Nat} {r : Record} {e : QueueEntry} {f : RingFrame} {phase : BufferPhase} {seg : Segment} {run : Extent}

/-! ### The run asked for (R112, R128) -/

theorem ceilDiv_blockBytes (x : Nat) : ceilDiv x blockBytes = (x + 4095) / 4096 := by
  rw [ceilDiv, show blockBytes = 4096 from rfl, Nat.add_sub_assoc (by decide)]

theorem enterRun_eq (run : Extent) (l : List Extent) : enterRun run l = withRun run l := by
  unfold enterRun withRun mergesLast
  cases h : l.getLast? with
  | none =>
    rw [List.getLast?_eq_none_iff.1 h]
    rfl
  | some x => by_cases hx : x.first + x.count = run.first <;> simp [hx]

theorem State.allocate_some {s' : State} {m : Nat} (h : s.allocate m = some (run, s')) : run.count ≤ m
    ∧ s' = { s with media := { s.media with cursor := some (run.first + run.count) } } := by
  cases hcursor : s.media.cursor with
  | none => simp [allocate, hcursor] at h
  | some cursor =>
    cases hcapacity : s.media.capacity with
    | none => simp [allocate, hcursor, hcapacity] at h
    | some capacity =>
      rw [allocate_eq m hcursor hcapacity] at h
      split at h
      · cases h
      · cases h
        exact ⟨(s.runLength_spec ..).1, rfl⟩

theorem State.freeBuffer_spec (h : s.freeBuffer = some b) : b < 8 ∧ s.buffer b = .free := by
  have hlt := List.mem_range.1 (List.mem_of_find?_eq_some h)
  exact ⟨hlt, by simpa using List.find?_some h⟩

/-! ### The accounts beside a new extent list -/

theorem Record.account_extents (f : RingFrame) (w : Nat) (r : Record) (l : List Extent) :
    ({ r with extents := l } : Record).account f w = { r.account f w with extents := l } := by
  unfold Record.account
  dsimp only
  generalize hr1 : ({ r with
    recorded := r.recorded + 1
    peaks := List.zipWith max r.peaks ((trackSamples r.armed r.mixPresent f).map magnitude)
    clipCount := if r.mixPresent && f.clip then min 65535 (r.clipCount + 1) else r.clipCount } : Record) = r1
  obtain ⟨notes, flags, h⟩ := dropouts_shape (w - r.start) ((lanesOf (r.armed &&& f.invalid)).map (·.val)) r1
  rw [h r1 rfl rfl, h _ (by rw [← hr1]) (by rw [← hr1]), ← hr1]

theorem Record.Accounts.of_extents {r' : Record} (h : r.Accounts f w r') (l : List Extent) : r.Accounts f w { r' with extents := l } := by
  obtain ⟨hrecorded, hpeaks, hclip, hnotes, hrest⟩ := h
  refine ⟨hrecorded, hpeaks, hclip, hnotes, ?_⟩
  conv_lhs => rw [hrest]

theorem Record.shortened_of_le (h : seg.run.count ≤ (seg.data.length + 4095) / 4096) : r.shortened seg = r := by
  unfold shortened
  rw [ceilDiv_blockBytes, if_neg (not_lt.2 h)]

/-! ### The way to the opening of a buffer (R128, R129) -/

theorem State.drawFrame_of_fresh (h : s.MayDraw e r f) (hc : e.current = none) : s.drawFrame = s.drawOpening r e f := by
  have hdraw := h.drawable
  obtain ⟨hfilling, -, hr, -⟩ := h
  simp only [drawFrame, hfilling, hr, hdraw, hc]

theorem State.drawOpening_of_below (hfree : s.freeBuffer = some b) (hbelow : s.engine.openTake ≠ some e.index ∨ r.extents.length < 48) :
    s.drawOpening r e f = s.openAndDraw e.index b f := by
  have hnot : ¬ (s.engine.openTake = some e.index ∧ splitExtents ≤ r.extents.length) := by
    rintro ⟨h1, h2⟩
    exact hbelow.elim (· h1) fun h => absurd h (not_lt.2 h2)
  simp only [drawOpening, hfree, hnot, if_false]

/-- A run is entered, and the take's bytes are placed from its first block on, or beside the full buffer (R128). -/
theorem State.openAndDraw_of_run {s' : State} (hr : s.recordAt n = some r) (he : s.entryOf n = some e)
    (hrun : s.allocate (s.blocksWanted r e) = some (run, s')) (hroom : r.extents.length < 64) : s.openAndDraw n b f
      = ((({ s with media := { s.media with cursor := some (run.first + run.count) } } : State).modifyRecord n fun r =>
          { r with extents := enterRun run r.extents }).openBuffer n b run (s.nextOffset e) (s.room e) (recordedFrame r f)).accountDraw n f e.next := by
  have hnot : ¬ (maxExtents ≤ r.extents.length ∧ mergesLast run r.extents = false) := by
    rintro ⟨h, -⟩
    exact absurd hroom (not_lt.2 h)
  simp only [openAndDraw, hr, he, hrun, hnot, if_false]
  rw [(allocate_some hrun).2]

theorem State.blocksWanted_eq (s : State) (r : Record) (e : QueueEntry) : s.blocksWanted r e
    = if r.state = .opened then 32 else min 32 (((r.stop.getD 0 - e.next) * r.frameBytes - s.room e + 4095) / 4096) := by
  unfold blocksWanted
  rw [ceilDiv_blockBytes]
  rfl

/-! ### A buffer opened (R127, R128, R130) -/

/-- Take `e` has buffer `b` open with a run, before its frame is accounted: `k` of its segments are sealed. -/
structure State.Opened (s : State) (b : Nat) (e : QueueEntry) (k : Nat) (r : Record) (run : Extent) (new : Segment) (u : State) : Prop where
  frame : u = { s with journal := u.journal, writer := u.writer, port := u.port
                       media := { s.media with cursor := some (run.first + run.count) } }
  record : u.recordAt e.index = some { r with extents := withRun run r.extents }
  others : s.OtherSlotsKept e.index u
  entry : u.entryOf e.index = some { e with current := some b, sealedSegs := k }
  buffer : u.buffer b = .used .filling new
  place : b < 8

/-- The state with a run entered. -/
def State.entered (s : State) (n : Nat) (run : Extent) : State :=
  ({ s with media := { s.media with cursor := some (run.first + run.count) } } : State).modifyRecord n fun r =>
    { r with extents := enterRun run r.extents }

theorem State.entered_frame_eq (s : State) (n : Nat) (run : Extent) : s.entered n run
    = { s with journal := (s.entered n run).journal, media := { s.media with cursor := some (run.first + run.count) } } := by
  unfold entered
  rw [modifyRecord_frame_eq]

theorem State.slotAt_entered (s : State) (n : Nat) (run : Extent) (k : Nat) : (s.entered n run).slotAt k = if k = n
    then (s.slotAt n).map (fun sl => { sl with entry := sl.entry.mapRecord fun r => { r with extents := enterRun run r.extents } })
    else s.slotAt k :=
  slotAt_modifyRecord ..

theorem State.recordAt_entered (hr : s.recordAt n = some r) : (s.entered n run).recordAt n = some { r with extents := withRun run r.extents } := by
  unfold entered
  rw [recordAt_modifyRecord, if_pos rfl]
  have : ({ s with media := { s.media with cursor := some (run.first + run.count) } } : State).recordAt n = some r := hr
  rw [this, Option.map_some, enterRun_eq]

/-- The new buffer of a take. -/
def State.beginning (s : State) (n b : Nat) (new : Segment) : State :=
  (s.setBuffer b (.used .filling new)).modifyEntry n fun e => { e with current := some b }

theorem State.beginning_spec (hb : b < 8) (he : s.entryOf n = some e) (new : Segment) :
    (s.beginning n b new).entryOf n = some { e with current := some b }
      ∧ (∀ c, (s.beginning n b new).buffer c = if c = b then .used .filling new else s.buffer c)
      ∧ s.beginning n b new = { s with writer := (s.beginning n b new).writer } := by
  refine ⟨?_, fun c => s.buffer_setBuffer b c _ hb, rfl⟩
  refine (entryOf_modifyEntry _ n n (fun e => { e with current := some b }) fun _ => rfl).trans ?_
  rw [if_pos rfl]
  have : (s.setBuffer b (.used .filling new)).entryOf n = some e := he
  rw [this]
  rfl

/-- The first buffer of a take (R128). -/
theorem State.opened_first (hb : b < 8) (hr : s.recordAt e.index = some r) (he : s.entryOf e.index = some e) (hc : e.current = none)
    (bytes : List Byte) (hu : u = (s.entered e.index run).openBuffer e.index b run 0 0 bytes) :
    s.Opened b e e.sealedSegs r run (Segment.opened e.index run 0 bytes) u ∧ u.port = s.port
      ∧ ∀ c, c ≠ b → u.buffer c = s.buffer c := by
  have hframe := s.entered_frame_eq e.index run
  have hslots := s.slotAt_entered e.index run
  have hrecord := recordAt_entered (run := run) hr
  have hentry : (s.entered e.index run).entryOf e.index = some e := by rw [hframe]; exact he
  have hbuffer (c : Nat) : (s.entered e.index run).buffer c = s.buffer c := by rw [hframe]; rfl
  have hopen : u = (s.entered e.index run).beginning e.index b (Segment.opened e.index run 0 bytes) := by
    rw [hu]
    simp only [openBuffer, hentry, Option.bind_some, hc, List.drop_zero]
    rfl
  obtain ⟨hentry', hbuffers, hbegin⟩ := (s.entered e.index run).beginning_spec hb hentry (Segment.opened e.index run 0 bytes)
  rw [← hopen] at hentry' hbuffers hbegin
  have hnext : (s.entered e.index run).journal.nextIndex = s.journal.nextIndex := by simp [entered]
  generalize s.entered e.index run = v at *
  have hslot (k : Nat) : u.slotAt k = v.slotAt k := by rw [hbegin]; rfl
  have hall : ∃ w, u = { v with writer := w } := ⟨_, hbegin⟩
  refine ⟨⟨?_, ?_, ⟨fun k hk => ?_, ?_⟩, hentry'.trans rfl, ?_, hb⟩, ?_, fun c hcb => ?_⟩
  · obtain ⟨w, rfl⟩ := hall
    rw [hframe]
  · obtain ⟨w, rfl⟩ := hall
    exact hrecord
  · rw [hslot, hslots, if_neg hk]
  · rw [hbegin]
    exact hnext
  · rw [hbuffers, if_pos rfl]
  · rw [hbegin, hframe]
  · rw [hbuffers, if_neg hcb, hbuffer]

/-- The full buffer of a take, filled and sealed (R128, R131). -/
def State.sealedFull (s : State) (c : Nat) (phase : BufferPhase) (e : QueueEntry) (filled : Segment) : State :=
  ((s.setBuffer c (.used phase filled)).withSealed e.index c false e filled).askNew (.segmentWrite c 0)

theorem State.sealedFull_spec (hb : c < 8) (hr : s.recordAt e.index = some r) (he : s.entryOf e.index = some e)
    (hfull : seg.data.length = seg.run.count * 4096) (ht : t = s.sealedFull c phase e seg) :
    t.recordAt e.index = some r ∧ s.OtherSlotsKept e.index t
      ∧ t.entryOf e.index = some { e with sealedSegs := e.sealedSegs + 1, current := none }
      ∧ (∀ a, t.buffer a = if a = c then .used .ready (seg.close false (e.sealedSegs + 1)) else s.buffer a)
      ∧ t.Asked (.segmentWrite c 0) 1
      ∧ (∃ v : State, t = v.askNew (.segmentWrite c 0) ∧ v.port = s.port)
      ∧ ∃ j w p, t = { s with journal := j, writer := w, port := p } := by
  have hbuffer (a : Nat) : (s.setBuffer c (.used phase seg)).buffer a = if a = c then .used phase seg else s.buffer a := s.buffer_setBuffer c a _ hb
  obtain ⟨w, hw⟩ : ∃ w, s.setBuffer c (.used phase seg) = { s with writer := w } := ⟨_, rfl⟩
  have he' : (s.setBuffer c (.used phase seg)).entryOf e.index = some e := he
  unfold sealedFull at ht
  generalize s.setBuffer c (.used phase seg) = v at *
  have hr' : v.recordAt e.index = some r := by rw [hw]; exact hr
  refine ⟨?_, ⟨fun k hk => ?_, ?_⟩, ?_, fun a => ?_, ?_, ⟨_, ht, ?_⟩, ?_⟩
  · obtain ⟨sl, hsl, hentry⟩ := recordAt_eq_some.1 hr'
    refine recordAt_eq_some.2 ⟨{ sl with entry := sl.entry.mapRecord (·.shortened seg) }, ?_, ?_⟩
    · rw [ht]
      exact (slotAt_withSealed false e.index).trans (by rw [if_pos rfl, hsl]; rfl)
    · dsimp only
      rw [hentry]
      refine congrArg MirrorEntry.record (Record.shortened_of_le ?_)
      omega
  · rw [ht]
    exact (slotAt_withSealed false k).trans (by rw [if_neg hk, hw]; rfl)
  · rw [ht]
    simp [withSealed, hw, askNew]
  · rw [ht]
    exact entryOf_withSealed he' false
  · rw [ht]
    refine (buffer_withSealed hb false a).trans ?_
    rw [hbuffer]
    split <;> rfl
  · rw [ht]
    exact asked_ask ..
  · simp [withSealed, hw]
  · rw [ht]
    unfold withSealed
    rw [modifyRecord_frame_eq, hw]
    exact ⟨_, _, _, rfl⟩

/-- A further buffer of a take: the frame fills the room left, and the full buffer is sealed as FIRST or MIDDLE (R128, R131). -/
theorem State.opened_later {room offset : Nat} {bytes : List Byte} (hport : s.port.Sound) (hb : s.freeBuffer = some b)
    (hr : s.recordAt e.index = some r) (he : s.entryOf e.index = some e) (hc : e.current = some c) (hbuffer : s.buffer c = .used phase seg)
    (htake : seg.take = e.index) (hroom : seg.data.length + room = seg.run.count * 4096) (hlong : room ≤ bytes.length)
    (hu : u = (s.entered e.index run).openBuffer e.index b run offset room bytes) :
    s.Opened b e (e.sealedSegs + 1) r run (Segment.opened e.index run offset (bytes.drop room)) u
      ∧ u.Sealed c seg (bytes.take room) (e.sealedSegs + 1) (if e.sealedSegs = 0 then .first else .middle)
      ∧ (u.port.Offers (· = .segmentWrite c 0) ∧ u.port.Numbered)
      ∧ ∃ ph sg, u.buffer c = .used ph sg ∧ sg.take = e.index := by
  obtain ⟨hblt, hbfree⟩ := freeBuffer_spec hb
  have hclt : c < 8 := s.lt_of_buffer_ne_free (by simp [hbuffer])
  have hcb : c ≠ b := by
    rintro rfl
    rw [hbfree] at hbuffer
    cases hbuffer
  have hframe := s.entered_frame_eq e.index run
  have hslots := s.slotAt_entered e.index run
  have hrecord := recordAt_entered (run := run) hr
  have hentry : (s.entered e.index run).entryOf e.index = some e := by rw [hframe]; exact he
  have hbuffer' (a : Nat) : (s.entered e.index run).buffer a = s.buffer a := by rw [hframe]; rfl
  have hnext : (s.entered e.index run).journal.nextIndex = s.journal.nextIndex := by simp [entered]
  generalize s.entered e.index run = v at *
  generalize hfilled : ({ seg with data := seg.data ++ bytes.take room } : Segment) = filled
  have hfull : filled.data.length = filled.run.count * 4096 := by
    rw [← hfilled]
    dsimp only
    rw [List.length_append, List.length_take, min_eq_left hlong]
    exact hroom
  obtain ⟨hsrecord, hsothers, hsentry, hsbuffer, hsasked, ⟨x, hx, hxport⟩, hsframe⟩ := sealedFull_spec (phase := phase) hclt hrecord hentry hfull rfl
  have hopen : u = (v.sealedFull c phase e filled).beginning e.index b (Segment.opened e.index run offset (bytes.drop room)) := by
    rw [hu]
    have hfill : v.fillBuffer c (bytes.take room) = v.setBuffer c (.used phase filled) := by
      rw [fillBuffer, (hbuffer' c).trans hbuffer, ← hfilled]
    have hseal : (v.fillBuffer c (bytes.take room)).sealCurrent e.index false = v.sealedFull c phase e filled := by
      rw [hfill]
      exact sealCurrent_of_current (s := v.setBuffer c (.used phase filled)) hentry hc ((v.buffer_setBuffer c c _ hclt).trans (if_pos rfl)) false
    unfold openBuffer
    simp only [hentry, Option.bind_some, hc, hseal]
    rfl
  have hportv : v.port = s.port := by rw [hframe]
  generalize v.sealedFull c phase e filled = z at *
  obtain ⟨hentry', hbuffers, hbegin⟩ := z.beginning_spec hblt hsentry (Segment.opened e.index run offset (bytes.drop room))
  rw [← hopen] at hentry' hbuffers hbegin
  have hslot (k : Nat) : u.slotAt k = z.slotAt k := by rw [hbegin]; rfl
  have hportu : u.port = z.port := by rw [hbegin]
  have hall : ∃ w, u = { z with writer := w } := ⟨_, hbegin⟩
  have hbc : u.buffer c = .used .ready (filled.close false (e.sealedSegs + 1)) := by
    rw [hbuffers, if_neg hcb, hsbuffer, if_pos rfl]
  refine ⟨⟨?_, ?_, ⟨fun k hk => ?_, ?_⟩, hentry'.trans rfl, ?_, hblt⟩, ?_, ⟨?_, ?_⟩, _, _, hbc, ?_⟩
  · obtain ⟨w, rfl⟩ := hall
    obtain ⟨j, w, p, rfl⟩ := hsframe
    rw [hframe]
  · obtain ⟨w, rfl⟩ := hall
    exact hsrecord
  · rw [hslot, hsothers.1 k hk, hslots, if_neg hk]
  · rw [hbegin]
    exact hsothers.2.trans hnext
  · rw [hbuffers, if_pos rfl]
  · have htag : sealTag false (e.sealedSegs + 1) = if e.sealedSegs = 0 then PositionTag.first else .middle := by simp [sealTag]
    rw [← htag]
    refine State.Sealed.of_append ?_
    rw [hfilled]
    exact sealed_of_close hbc (by obtain ⟨w, hw⟩ := hall; rw [hw]; exact hsasked)
  · rw [hportu, hx]
    exact offers_ask (P := (· = .segmentWrite c 0)) (by rw [hxport, hportv]; exact hport.offers _) rfl _ _ _
  · rw [hportu, hx]
    exact State.port_numbered_ask (by rw [hxport, hportv]; exact hport.numbered) _ _ _ _
  · rw [← hfilled]
    exact htake

/-! ### The frame accounted to the take whose buffer was opened (R125) -/

theorem State.Opened.frame_eq {new : Segment} (h : s.Opened b e k r run new u) : ∃ j w p, u = { s with
    journal := j, writer := w, port := p, media := { s.media with cursor := some (run.first + run.count) } } :=
  ⟨_, _, _, h.frame⟩

/-- A take that goes on is drawn from into its new buffer. -/
theorem State.Opened.going {new : Segment} (h : s.Opened b e k r run new u) (hgoes : r.GoesOn e.next) :
    u.accountDraw e.index f e.next = u.drawn e.index f e.next
      ∧ (u.drawn e.index f e.next).entryOf e.index = some { e with next := e.next + 1, current := some b, sealedSegs := k }
      ∧ (∃ r', (u.drawn e.index f e.next).recordAt e.index = some r' ∧ r.Accounts f e.next r' ∧ r'.extents = withRun run r.extents)
      ∧ s.OtherSlotsKept e.index (u.drawn e.index f e.next)
      ∧ (∀ c, (u.drawn e.index f e.next).buffer c = u.buffer c)
      ∧ ∃ j w, u.drawn e.index f e.next = { u with journal := j, writer := w } := by
  refine ⟨accountDraw_of_going (e := { e with current := some b, sealedSegs := k }) h.record h.entry hgoes, ?_,
    ⟨_, recordAt_drawn h.record f e.next, ?_, ?_⟩, h.others.trans (otherSlotsKept_of (fun m hm => (slotAt_drawn ..).trans (if_neg hm)) ?_),
    fun c => buffer_drawn .., _, _, u.drawn_frame_eq ..⟩
  · rw [entryOf_drawn, if_pos rfl, h.entry]
    rfl
  · rw [Record.account_extents]
    exact (r.accounts_account f e.next).1.of_extents _
  · rw [Record.account_extents]
  · simp [drawn]

/-- The last frame of a CLOSING take has its new buffer sealed in the same step (R125, R131). -/
theorem State.Opened.last {new : Segment} (h : s.Opened b e k r run new u) (hstate : r.state = .closing) (hstop : r.stop = some (e.next + 1))
    (hcount : e.completed ≤ k) :
    u.accountDraw e.index f e.next = u.drawnLast b f { e with current := some b, sealedSegs := k } new
      ∧ u.DrawsLast b f { e with current := some b, sealedSegs := k } { r with extents := withRun run r.extents } new
          (u.drawnLast b f { e with current := some b, sealedSegs := k } new)
      ∧ (∀ c, (u.drawnLast b f { e with current := some b, sealedSegs := k } new).buffer c
          = if c = b then .used .ready (new.close true (k + 1)) else u.buffer c)
      ∧ ∃ v : State, u.drawnLast b f { e with current := some b, sealedSegs := k } new = v.askNew (.segmentWrite b 0) ∧ v.port = u.port := by
  obtain ⟨hspec, hbuffers⟩ := drawsLast_drawnLast (e := { e with current := some b, sealedSegs := k }) (f := f) (seg := new) h.record h.entry h.place
  exact ⟨accountDraw_of_last (e := { e with current := some b, sealedSegs := k }) h.record h.entry hstate hstop rfl h.buffer hcount, hspec,
    hbuffers, _, rfl, by simp [withSealed, drawn]⟩

/-- A run no longer than the frame's bytes need keeps all its blocks (R132). -/
theorem Record.accounts_opened {l : List Extent} (hle : seg.run.count ≤ (seg.data.length + 4095) / 4096) :
    r.Accounts f w ((({ r with extents := l } : Record).account f w).shortened seg)
      ∧ ((({ r with extents := l } : Record).account f w).shortened seg).extents = l := by
  rw [shortened_of_le hle, account_extents]
  exact ⟨(r.accounts_account f w).1.of_extents _, rfl⟩

end Sys2Proof.Machine

/-! FRAME_DRAW that opens a buffer: the first and the later ones (R125, R128, R131). -/

namespace Sys2Proof.Machine

variable {s s' t u : State} {n k b c w room : Nat} {r : Record} {e : QueueEntry} {f : RingFrame} {phase : BufferPhase} {seg : Segment} {run : Extent}

/-! ### The buffer that a draw opens -/

theorem State.room_of_used (hc : e.current = some c) (hb : s.buffer c = .used phase seg) (hroom : seg.data.length + room = seg.run.count * 4096) :
    s.room e = room := by
  simp only [State.room, hc, hb, show blockBytes = 4096 from rfl]
  omega

theorem State.drawFrame_of_first (h : s.MayDraw e r f) (hc : e.current = none) (hfree : s.freeBuffer = some b)
    (hbelow : s.engine.openTake ≠ some e.index ∨ r.extents.length < 48) (hlist : r.extents.length < 64)
    (hrun : s.allocate (s.blocksWanted r e) = some (run, s')) : ∃ u, s.drawFrame = u.accountDraw e.index f e.next
      ∧ s.Opened b e e.sealedSegs r run (Segment.opened e.index run 0 (r.trackBytes f)) u ∧ u.port = s.port
      ∧ ∀ c, c ≠ b → u.buffer c = s.buffer c := by
  obtain ⟨-, he, hr, -⟩ := id h
  refine ⟨_, ?_, opened_first (freeBuffer_spec hfree).1 hr he hc (r.trackBytes f) rfl⟩
  rw [drawFrame_of_fresh h hc, drawOpening_of_below hfree hbelow, openAndDraw_of_run hr he hrun hlist]
  have hroom : s.room e = 0 := by simp only [State.room, hc]
  have hoffset : s.nextOffset e = 0 := by simp only [State.nextOffset, hc]
  rw [hroom, hoffset]
  rfl

theorem State.drawFrame_of_later (hport : s.port.Sound) (h : s.MayDraw e r f) (hc : e.current = some c) (hb : s.buffer c = .used phase seg)
    (htake : seg.take = e.index) (hroom : seg.data.length + room = seg.run.count * 4096) (hlong : room < (r.trackBytes f).length)
    (hbytes : (r.trackBytes f).length = r.frameBytes) (hfree : s.freeBuffer = some b)
    (hbelow : s.engine.openTake ≠ some e.index ∨ r.extents.length < 48) (hlist : r.extents.length < 64)
    (hrun : s.allocate (s.blocksWanted r e) = some (run, s')) : ∃ u, s.drawFrame = u.accountDraw e.index f e.next
      ∧ s.Opened b e (e.sealedSegs + 1) r run (Segment.opened e.index run (seg.offset + seg.run.count * 4096) ((r.trackBytes f).drop room)) u
      ∧ u.Sealed c seg ((r.trackBytes f).take room) (e.sealedSegs + 1) (if e.sealedSegs = 0 then .first else .middle)
      ∧ (u.port.Offers (· = .segmentWrite c 0) ∧ u.port.Numbered)
      ∧ ∃ ph sg, u.buffer c = .used ph sg ∧ sg.take = e.index := by
  obtain ⟨-, he, hr, -⟩ := id h
  have hroom' := room_of_used hc hb hroom
  refine ⟨_, ?_, opened_later hport hfree hr he hc hb htake hroom hlong.le rfl⟩
  rw [drawFrame_of_full h (by rw [hroom', ← hbytes]; exact hlong), drawOpening_of_below hfree hbelow, openAndDraw_of_run hr he hrun hlist]
  have hoffset : s.nextOffset e = seg.offset + seg.run.count * 4096 := by
    simp only [State.nextOffset, hc, hb, show blockBytes = 4096 from rfl]
  rw [hroom', hoffset]
  rfl

theorem exec_frameDraw_of_beside {engine : Engine} (h : ∃ j w p m, s.drawFrame = { s with
      engine := engine, journal := j, writer := w, port := p, media := { s.media with cursor := m } })
    (hengine : engine.takeState = s.engine.takeState) : exec .frameDraw s = .next s.drawFrame.grant := by
  refine exec_frameDraw_of_quiet ?_
  obtain ⟨j, w, p, m, h⟩ := h
  rw [h, State.announced, hengine]
  rfl

/-! ### The first buffer -/

theorem State.frameDraw_first_going (hport : s.port.Sound) (h : s.MayDraw e r f) (hc : e.current = none) (hfree : s.freeBuffer = some b)
    (hbelow : s.engine.openTake ≠ some e.index ∨ r.extents.length < 48) (hlist : r.extents.length < 64)
    (hrun : s.allocate (s.blocksWanted r e) = some (run, s')) (hgoes : r.GoesOn e.next) :
    ∃ t r', exec .frameDraw s = .next t
      ∧ t.entryOf e.index = some { e with next := e.next + 1, current := some b }
      ∧ t.buffer b = .used .filling (Segment.opened e.index run 0 (r.trackBytes f))
      ∧ (∀ c, c ≠ b → t.buffer c = s.buffer c)
      ∧ t.recordAt e.index = some r' ∧ s.OtherSlotsKept e.index t ∧ r.Accounts f e.next r' ∧ r'.extents = withRun run r.extents
      ∧ t = { s with journal := t.journal, writer := t.writer, media := { s.media with cursor := some (run.first + run.count) } } := by
  obtain ⟨u, hdraw, hopened, hportu, hothers⟩ := drawFrame_of_first h hc hfree hbelow hlist hrun
  obtain ⟨hgoing, hentry, ⟨r', hr', haccounts, hextents⟩, hslots, hbuffers, hframe⟩ := hopened.going (f := f) hgoes
  rw [hgoing] at hdraw
  have hall : ∃ j w, u.drawn e.index f e.next = { s with
      journal := j, writer := w, media := { s.media with cursor := some (run.first + run.count) } } := by
    obtain ⟨j, w, hframe⟩ := hframe
    obtain ⟨j', w', p, hu⟩ := hopened.frame_eq
    refine ⟨j, w, ?_⟩
    rw [hframe]
    rw [hu] at hportu ⊢
    rw [← hportu]
  generalize u.drawn e.index f e.next = t at *
  refine ⟨t, r', ?_, hentry, (hbuffers b).trans hopened.buffer, fun c hcb => (hbuffers c).trans (hothers c hcb), hr', hslots, haccounts,
    hextents, ?_⟩
  · obtain ⟨j, w, hall⟩ := hall
    rw [exec_frameDraw_of_beside (engine := s.engine) ⟨j, w, s.port, _, hdraw.trans hall⟩ rfl, hdraw, t.grant_of_portSound (by rw [hall]; exact hport)]
  · obtain ⟨j, w, rfl⟩ := hall
    rfl

theorem State.frameDraw_first_last (hport : s.port.Sound) (h : s.MayDraw e r f) (hc : e.current = none) (hfree : s.freeBuffer = some b)
    (hbelow : s.engine.openTake ≠ some e.index ∨ r.extents.length < 48) (hlist : r.extents.length < 64)
    (hrun : s.allocate (s.blocksWanted r e) = some (run, s')) (hstate : r.state = .closing) (hstop : r.stop = some (e.next + 1))
    (hcount : e.completed ≤ e.sealedSegs) (hshort : run.count ≤ ((r.trackBytes f).length + 4095) / 4096) :
    ∃ t r' d, exec .frameDraw s = .next t
      ∧ t.entryOf e.index = some { e with next := e.next + 1, current := none, sealedSegs := e.sealedSegs + 1, digest := d }
      ∧ t.Sealed b (Segment.opened e.index run 0 (r.trackBytes f)) [] (e.sealedSegs + 1) (if e.sealedSegs = 0 then .only else .last)
      ∧ (∀ c, c ≠ b → t.buffer c = s.buffer c)
      ∧ t.recordAt e.index = some r' ∧ s.OtherSlotsKept e.index t ∧ r.Accounts f e.next r' ∧ r'.extents = withRun run r.extents
      ∧ t = { s with journal := t.journal, writer := t.writer, port := t.port
                     media := { s.media with cursor := some (run.first + run.count) } } := by
  obtain ⟨u, hdraw, hopened, hportu, hothers⟩ := drawFrame_of_first h hc hfree hbelow hlist hrun
  obtain ⟨hlast, hspec, hbuffers, v, hv, hvport⟩ := hopened.last (f := f) hstate hstop hcount
  rw [hlast] at hdraw
  generalize u.drawnLast b f { e with current := some b, sealedSegs := e.sealedSegs } (Segment.opened e.index run 0 (r.trackBytes f)) = t at *
  have hnumbered : t.port.Numbered := by
    rw [hv]
    exact State.port_numbered_ask (by rw [hvport, hportu]; exact hport.numbered) _ _ _ _
  have hown : t.port.Offers (· = .segmentWrite b 0) := by
    rw [hv]
    exact offers_ask (P := (· = .segmentWrite b 0)) (by rw [hvport, hportu]; exact hport.offers _) rfl _ _ _
  have hgrants := hspec.grant hnumbered (hown.mono fun x hx => ⟨b, 0, .ready, _, hx, (hbuffers b).trans (if_pos rfl), rfl⟩)
  obtain ⟨d, hd⟩ := hgrants.entry
  obtain ⟨haccounts, hextents⟩ := Record.accounts_opened (r := r) (f := f) (w := e.next)
    (seg := Segment.opened e.index run 0 (r.trackBytes f)) (l := withRun run r.extents) hshort
  refine ⟨t.grant, _, d, ?_, hd, hgrants.sealing, fun c hcb => ?_, hgrants.record, hopened.others.trans hgrants.others, haccounts, hextents, ?_⟩
  · obtain ⟨j', w', p, hu⟩ := hopened.frame_eq
    rw [exec_frameDraw_of_beside (engine := s.engine) ⟨t.journal, t.writer, t.port, some (run.first + run.count), ?_⟩ rfl, hdraw]
    rw [hdraw]
    conv_lhs => rw [hspec.frame, hu]
  · rw [buffer_grant_other (hown.mono fun x hx i hxi => hcb (by rw [hx] at hxi; cases hxi; rfl)), hbuffers, if_neg hcb, hothers c hcb]
  · obtain ⟨j', w', p, hu⟩ := hopened.frame_eq
    conv_lhs => rw [hgrants.frame, hu]

/-! ### A later buffer -/

theorem State.frameDraw_later_going (hport : s.port.Sound) (h : s.MayDraw e r f) (hc : e.current = some c) (hb : s.buffer c = .used phase seg)
    (htake : seg.take = e.index) (hroom : seg.data.length + room = seg.run.count * 4096) (hlong : room < (r.trackBytes f).length)
    (hbytes : (r.trackBytes f).length = r.frameBytes) (hfree : s.freeBuffer = some b)
    (hbelow : s.engine.openTake ≠ some e.index ∨ r.extents.length < 48) (hlist : r.extents.length < 64)
    (hrun : s.allocate (s.blocksWanted r e) = some (run, s')) (hgoes : r.GoesOn e.next) :
    ∃ t r' d, exec .frameDraw s = .next t
      ∧ t.entryOf e.index = some { e with next := e.next + 1, current := some b, sealedSegs := e.sealedSegs + 1, digest := d }
      ∧ t.Sealed c seg ((r.trackBytes f).take room) (e.sealedSegs + 1) (if e.sealedSegs = 0 then .first else .middle)
      ∧ t.buffer b = .used .filling (Segment.opened e.index run (seg.offset + seg.run.count * 4096) ((r.trackBytes f).drop room))
      ∧ t.recordAt e.index = some r' ∧ s.OtherSlotsKept e.index t ∧ r.Accounts f e.next r' ∧ r'.extents = withRun run r.extents
      ∧ t = { s with journal := t.journal, writer := t.writer, port := t.port
                     media := { s.media with cursor := some (run.first + run.count) } } := by
  have hcb : c ≠ b := by
    rintro rfl
    rw [(freeBuffer_spec hfree).2] at hb
    cases hb
  obtain ⟨u, hdraw, hopened, hsealed, ⟨hown, hnumbered⟩, ph, sg, hbc, hsg⟩ :=
    drawFrame_of_later hport h hc hb htake hroom hlong hbytes hfree hbelow hlist hrun
  obtain ⟨hgoing, hentry, ⟨r', hr', haccounts, hextents⟩, hslots, hbuffers, j, w, hframe⟩ := hopened.going (f := f) hgoes
  rw [hgoing] at hdraw
  have hportt : (u.drawn e.index f e.next).port = u.port := by rw [hframe]
  have hsealed' : (u.drawn e.index f e.next).Sealed c seg ((r.trackBytes f).take room) (e.sealedSegs + 1)
      (if e.sealedSegs = 0 then .first else .middle) := by
    obtain ⟨⟨p, sg, hp⟩, hasked⟩ := hsealed
    exact ⟨⟨p, sg, by rw [hbuffers]; exact hp⟩, by rw [hframe]; exact hasked⟩
  have hall : ∃ j w p, u.drawn e.index f e.next = { s with
      journal := j, writer := w, port := p, media := { s.media with cursor := some (run.first + run.count) } } := by
    obtain ⟨j', w', p, hu⟩ := hopened.frame_eq
    rw [hframe, hu]
    exact ⟨_, _, _, rfl⟩
  clear hframe
  generalize u.drawn e.index f e.next = t at *
  have hown' : t.port.Offers (· = .segmentWrite c 0) := by rw [hportt]; exact hown
  obtain ⟨hgrant, -⟩ := grant_of_segments (u := t) (n := e.index)
    (hown'.mono fun x hx => ⟨c, 0, ph, sg, hx, (hbuffers c).trans hbc, hsg⟩)
  have hjournal : t.grant.journal = t.journal := by rw [hgrant]
  obtain ⟨d, hd⟩ := t.grantedTo_grant.entryOf hentry
  refine ⟨t.grant, r', d, ?_, hd, hsealed'.grant (by rw [hportt]; exact hnumbered), ?_, ?_, ?_, haccounts, hextents, ?_⟩
  · obtain ⟨j, w, p, hall⟩ := hall
    rw [exec_frameDraw_of_beside (engine := s.engine) ⟨j, w, p, _, hdraw.trans hall⟩ rfl, hdraw]
  · rw [buffer_grant_other (hown'.mono fun x hx i hxi => hcb (by rw [hx] at hxi; cases hxi; rfl)), hbuffers, hopened.buffer]
  · rw [hgrant]
    exact hr'
  · rw [hgrant]
    exact hslots
  · obtain ⟨j, w, p, rfl⟩ := hall
    generalize State.grant _ = v at hgrant ⊢
    rw [hgrant]

theorem State.frameDraw_later_last (hport : s.port.Sound) (h : s.MayDraw e r f) (hc : e.current = some c) (hb : s.buffer c = .used phase seg)
    (htake : seg.take = e.index) (hroom : seg.data.length + room = seg.run.count * 4096) (hlong : room < (r.trackBytes f).length)
    (hbytes : (r.trackBytes f).length = r.frameBytes) (hfree : s.freeBuffer = some b)
    (hbelow : s.engine.openTake ≠ some e.index ∨ r.extents.length < 48) (hlist : r.extents.length < 64)
    (hrun : s.allocate (s.blocksWanted r e) = some (run, s')) (hstate : r.state = .closing) (hstop : r.stop = some (e.next + 1))
    (hcount : e.completed ≤ e.sealedSegs) (hshort : run.count ≤ (((r.trackBytes f).drop room).length + 4095) / 4096) :
    ∃ t r' d, exec .frameDraw s = .next t
      ∧ t.entryOf e.index = some { e with next := e.next + 1, current := none, sealedSegs := e.sealedSegs + 2, digest := d }
      ∧ t.Sealed c seg ((r.trackBytes f).take room) (e.sealedSegs + 1) (if e.sealedSegs = 0 then .first else .middle)
      ∧ t.Sealed b (Segment.opened e.index run (seg.offset + seg.run.count * 4096) ((r.trackBytes f).drop room)) [] (e.sealedSegs + 2) .last
      ∧ t.recordAt e.index = some r' ∧ s.OtherSlotsKept e.index t ∧ r.Accounts f e.next r' ∧ r'.extents = withRun run r.extents
      ∧ t = { s with journal := t.journal, writer := t.writer, port := t.port
                     media := { s.media with cursor := some (run.first + run.count) } } := by
  have hcb : c ≠ b := by
    rintro rfl
    rw [(freeBuffer_spec hfree).2] at hb
    cases hb
  obtain ⟨u, hdraw, hopened, hsealed, ⟨hownu, hnumberedu⟩, ph, sg, hbc, hsg⟩ :=
    drawFrame_of_later hport h hc hb htake hroom hlong hbytes hfree hbelow hlist hrun
  obtain ⟨hlast, hspec, hbuffers, v, hv, hvport⟩ := hopened.last (f := f) hstate hstop (by omega)
  rw [hlast] at hdraw
  obtain ⟨haccounts, hextents⟩ := Record.accounts_opened (r := r) (f := f) (w := e.next) (l := withRun run r.extents)
    (seg := Segment.opened e.index run (seg.offset + seg.run.count * 4096) ((r.trackBytes f).drop room)) hshort
  have hclosed : ∃ ph' sg', Buffer.used .ready ((Segment.opened e.index run (seg.offset + seg.run.count * 4096)
      ((r.trackBytes f).drop room)).close true (e.sealedSegs + 1 + 1)) = .used ph' sg' ∧ sg'.take = e.index := ⟨_, _, rfl, rfl⟩
  generalize u.drawnLast b f { e with current := some b, sealedSegs := e.sealedSegs + 1 } (Segment.opened e.index run
    (seg.offset + seg.run.count * 4096) ((r.trackBytes f).drop room)) = t at *
  have hbb := (hbuffers b).trans (if_pos rfl)
  have hbt : t.buffer c = u.buffer c := (hbuffers c).trans (if_neg hcb)
  have hnumbered : t.port.Numbered := by
    rw [hv]
    exact State.port_numbered_ask (by rw [hvport]; exact hnumberedu) _ _ _ _
  have hoffers : t.port.Offers fun x => ∃ b i phase seg, x = .segmentWrite b i ∧ t.buffer b = .used phase seg ∧ seg.take = e.index := by
    obtain ⟨ph', sg', hused, hsg'⟩ := hclosed
    rw [hused] at hbb
    rw [hv] at hbb hbt ⊢
    refine offers_ask ?_ ⟨b, 0, ph', sg', rfl, hbb, hsg'⟩ _ _ _
    rw [hvport]
    exact hownu.mono fun x hx => ⟨c, 0, ph, sg, hx, hbt.trans hbc, hsg⟩
  have hsealed' : t.Sealed c seg ((r.trackBytes f).take room) (e.sealedSegs + 1) (if e.sealedSegs = 0 then .first else .middle) := by
    obtain ⟨⟨p, sg, hp⟩, op, hop, hkind⟩ := hsealed
    refine ⟨⟨p, sg, by rw [hbt]; exact hp⟩, op, ?_, hkind⟩
    rw [hv]
    rw [← hvport] at hop
    simp only [askNew, ask, List.mem_append] at hop ⊢
    tauto
  have hgrants := hspec.grant hnumbered hoffers
  obtain ⟨d, hd⟩ := hgrants.entry
  refine ⟨t.grant, _, d, ?_, hd, hsealed'.grant hnumbered, ?_, hgrants.record, hopened.others.trans hgrants.others, haccounts, hextents, ?_⟩
  · obtain ⟨j', w', p, hu⟩ := hopened.frame_eq
    rw [exec_frameDraw_of_beside (engine := s.engine) ⟨t.journal, t.writer, t.port, some (run.first + run.count), ?_⟩ rfl, hdraw]
    rw [hdraw]
    conv_lhs => rw [hspec.frame, hu]
  · have := hgrants.sealing
    rwa [if_neg (Nat.succ_ne_zero _)] at this
  · obtain ⟨j', w', p, hu⟩ := hopened.frame_eq
    conv_lhs => rw [hgrants.frame, hu]

end Sys2Proof.Machine

/-! FRAME_DRAW at 48 extents: the open take is split at the frame, or cut there (R55, R56, R129). -/

namespace Sys2Proof.Machine

variable {s s' t u : State} {n k b c x : Nat} {r : Record} {e : QueueEntry} {f : RingFrame} {phase : BufferPhase} {seg : Segment} {run : Extent}

/-! ### A take that ends with segments outstanding (R90, R131) -/

theorem State.seals_finishIfDone (hr : s.recordAt n = some r) (he : s.entryOf n = some e) (hstate : r.state = .closing)
    (hstop : r.stop.getD 0 ≤ e.next) (hc : e.current = some c) (hb : s.buffer c = .used phase seg) (hcount : e.completed ≤ e.sealedSegs)
    (ht : t = s.finishIfDone n) : t.Sealed c seg [] (e.sealedSegs + 1) (if e.sealedSegs = 0 then .only else .last)
      ∧ (∀ a, a ≠ c → t.buffer a = s.buffer a) ∧ (∃ ph sg, t.buffer c = .used ph sg ∧ sg.take = seg.take)
      ∧ ∃ v : State, t = v.askNew (.segmentWrite c 0) ∧ v.port = s.port := by
  have hlt : c < 8 := s.lt_of_buffer_ne_free (by simp [hb])
  have hbuffer (a : Nat) := s.buffer_withSealed (n := n) (e := e) (seg := seg) hlt true a
  have htag : sealTag true (e.sealedSegs + 1) = if e.sealedSegs = 0 then PositionTag.only else .last := by simp [sealTag]
  rw [ht, finishIfDone_of_sealed hr he hstate hstop hc hb hcount]
  refine ⟨?_, fun a ha => (hbuffer a).trans (if_neg ha), ⟨_, _, (hbuffer c).trans (if_pos rfl), rfl⟩, _, rfl, by simp [withSealed]⟩
  rw [← htag]
  exact sealed_of_close (phase := .ready) ((hbuffer c).trans (if_pos rfl)) (asked_ask ..)

/-- What is left of a take whose stop is fixed stands while its slot, its queue entry and its buffers stand. -/
theorem State.ClosesAt.of_kept {stop : Nat} (h : s.ClosesAt e r stop t) (hslot : u.slotAt e.index = t.slotAt e.index)
    (hentry : u.entryOf e.index = t.entryOf e.index)
    (hbuffers : ∀ c phase seg, t.buffer c = .used phase seg → seg.take = e.index → u.buffer c = .used phase seg)
    (hasked : ∀ kind a, kind = .journalWrite e.index ∨ (∃ c phase seg, kind = .segmentWrite c 0 ∧ t.buffer c = .used phase seg ∧ seg.take = e.index) →
      t.Asked kind a → u.Asked kind a) : s.ClosesAt e r stop u := by
  obtain ⟨r', hr', hclosed, hgoing, hdone⟩ := h
  refine ⟨r', ?_, hclosed, fun hlt => ⟨(hgoing hlt).1, ?_⟩, fun hge => ?_⟩
  · unfold State.recordAt at hr' ⊢
    rw [hslot]
    exact hr'
  · rw [hentry]
    exact (hgoing hlt).2
  · obtain ⟨hcurrent, hidle⟩ := hdone hge
    refine ⟨fun b phase seg hc hb htake hall => ?_, fun hc => ?_⟩
    · obtain ⟨⟨⟨ph, sg, hused, hsame⟩, ha⟩, hentry', hrest⟩ := hcurrent b phase seg hc hb htake hall
      have hsg : sg.take = e.index := hsame.1.trans htake
      exact ⟨⟨⟨ph, sg, hbuffers b ph sg hused hsg, hsame⟩, hasked _ _ (.inr ⟨b, ph, sg, rfl, hused, hsg⟩) ha⟩, by rw [hentry]; exact hentry', hrest⟩
    · obtain ⟨hsame, hentry', hfinal⟩ := hidle hc
      refine ⟨hsame, by rw [hentry]; exact hentry', fun hall sl hsl hheld => ?_⟩
      obtain ⟨sl', hsl', hflight, hask⟩ := hfinal hall sl hsl hheld
      exact ⟨sl', by rw [hslot]; exact hsl', hflight, fun hclear => hasked _ _ (.inl rfl) (hask hclear)⟩

/-! ### The draw at the threshold (R129) -/

theorem State.drawOpening_of_threshold (hfree : s.freeBuffer = some b) (hopen : s.engine.openTake = some e.index) (hlist : 48 ≤ r.extents.length) :
    s.drawOpening r e f = if s.splitAccepted = true then (s.doSplit e.index e.next).openAndDraw s.journal.nextIndex b f
      else s.refuseSplit e.index e.next := by
  have hyes : s.engine.openTake = some e.index ∧ splitExtents ≤ r.extents.length := ⟨hopen, hlist⟩
  simp only [drawOpening, hfree, hyes, and_self, if_true]

theorem State.allocate_congr {m : Nat} (hmedia : t.media = s.media) (hrun : s.allocate m = some (run, s')) : ∃ t', t.allocate m = some (run, t') := by
  have hgood (c : Nat) : t.firstGood c = s.firstGood c := by simp only [firstGood, defectAt, hmedia]
  have hlength (c n capacity : Nat) : t.runLength c n capacity = s.runLength c n capacity := by simp only [runLength, defectAt, hmedia]
  cases hcursor : s.media.cursor with
  | none => simp [allocate, hcursor] at hrun
  | some cursor =>
    cases hcapacity : s.media.capacity with
    | none => simp [allocate, hcursor, hcapacity] at hrun
    | some capacity =>
      rw [allocate_eq m hcursor hcapacity] at hrun
      rw [allocate_eq m (hmedia ▸ hcursor) (hmedia ▸ hcapacity), hgood, hlength, hmedia]
      split at hrun
      · cases hrun
      · next hno =>
        cases hrun
        rw [if_neg hno]
        exact ⟨_, rfl⟩

/-- A frame drawn into the first buffer of a take, before the grants: what it leaves of the rest. -/
theorem State.openAndDraw_first (hb : b < 8) (hr : s.recordAt n = some r) (he : s.entryOf n = some e) (hc : e.current = none)
    (hlist : r.extents.length < 64) (hrun : s.allocate (s.blocksWanted r e) = some (run, s')) (hgoes : r.GoesOn e.next)
    (ht : t = s.openAndDraw n b f) :
    t.entryOf n = some { e with next := e.next + 1, current := some b }
      ∧ t.buffer b = .used .filling (Segment.opened n run 0 (r.trackBytes f)) ∧ (∀ a, a ≠ b → t.buffer a = s.buffer a)
      ∧ (∃ r', t.recordAt n = some r' ∧ r.Accounts f e.next r' ∧ r'.extents = withRun run r.extents)
      ∧ s.OtherSlotsKept n t ∧ (∀ k, k ≠ n → t.entryOf k = s.entryOf k)
      ∧ ∃ j w, t = { s with journal := j, writer := w, media := { s.media with cursor := some (run.first + run.count) } } := by
  obtain rfl := index_of_entryOf he
  have hroom : s.room e = 0 := by simp only [State.room, hc]
  have hoffset : s.nextOffset e = 0 := by simp only [State.nextOffset, hc]
  generalize hu : (s.entered e.index run).openBuffer e.index b run 0 0 (r.trackBytes f) = u
  have hdraw : s.openAndDraw e.index b f = u.accountDraw e.index f e.next := by
    rw [openAndDraw_of_run hr he hrun hlist, hroom, hoffset, ← hu]
    rfl
  have hentries (k : Nat) (hk : k ≠ e.index) : u.entryOf k = s.entryOf k := by
    have hframe := s.entered_frame_eq e.index run
    have hentry : (s.entered e.index run).entryOf e.index = some e := by rw [hframe]; exact he
    have hsame : (s.entered e.index run).entryOf k = s.entryOf k := by rw [hframe]; rfl
    rw [← hu]
    simp only [openBuffer, hentry, Option.bind_some, hc]
    refine (entryOf_modifyEntry _ e.index k (fun e => { e with current := some b }) fun _ => rfl).trans ?_
    rw [if_neg hk]
    exact hsame
  obtain ⟨hopened, hportu, hothers⟩ := opened_first hb hr he hc (r.trackBytes f) hu.symm
  obtain ⟨hgoing, hentry, ⟨r', hr', haccounts, hextents⟩, hslots, hbuffers, j, w, hframe⟩ := hopened.going (f := f) hgoes
  obtain ⟨j', w', p, hframeu⟩ := hopened.frame_eq
  rw [ht, hdraw, hgoing]
  refine ⟨hentry, (hbuffers b).trans hopened.buffer, fun a ha => (hbuffers a).trans (hothers a ha), ⟨r', hr', haccounts, hextents⟩, hslots,
    fun k hk => ?_, j, w, ?_⟩
  · rw [entryOf_drawn, if_neg hk, hentries k hk]
  · rw [hframe]
    rw [hframeu] at hportu ⊢
    rw [← hportu]

/-- The open take is split at the frame, and the frame drawn into the continuation (R55, R128, R129). -/
theorem State.frameDraw_split (hcoherent : s.Coherent) (hport : s.port.Sound) (h : s.MayDraw e r f) (hc : e.current = some c)
    (hb : s.buffer c = .used phase seg) (hroom : s.room e < r.frameBytes) (hfree : s.freeBuffer = some b)
    (hopen : s.engine.openTake = some e.index) (hlist : 48 ≤ r.extents.length) (hcount : e.completed ≤ e.sealedSegs)
    (hqueue : s.writer.queue.length < 3) (hnext : s.journal.nextIndex ≤ 4096) (hrun : s.allocate 32 = some (run, s'))
    (hk : k = s.journal.nextIndex) : ∃ t rk, exec .frameDraw s = .next t
          ∧ t.engine = { s.engine with openTake := some k }
          ∧ s.ClosesAt e r e.next t
          ∧ t.Sealed c seg [] (e.sealedSegs + 1) (if e.sealedSegs = 0 then .only else .last)
          ∧ t.journal.nextIndex = k + 1 ∧ t.recordAt k = some rk
          ∧ rk.index = k ∧ rk.key = r.key ∧ rk.continues = some r.index ∧ rk.state = .opened ∧ rk.start = e.next ∧ rk.recorded = 1
          ∧ rk.lost = 0 ∧ rk.extents = [run] ∧ rk.armed = r.armed ∧ rk.mixPresent = r.mixPresent ∧ rk.slate = r.slate
          ∧ (t.entryOf k).map (fun x => (x.next, x.current, x.sealedSegs)) = some (e.next + 1, some b, 0)
          ∧ t.buffer b = .used .filling (Segment.opened k run 0 (r.trackBytes f))
          ∧ t = { s with
              engine := t.engine, journal := t.journal, port := t.port, writer := t.writer
              media := { s.media with cursor := some (run.first + run.count) } } := by
  subst hk
  obtain ⟨-, he, hr, -⟩ := id h
  obtain ⟨hblt, hbfree⟩ := freeBuffer_spec hfree
  have hcb : b ≠ c := by
    rintro rfl
    rw [hbfree] at hb
    cases hb
  obtain ⟨-, hcan, -⟩ := hcoherent.open_record hopen hr
  obtain ⟨hmirror, hqfree, hn⟩ := hcoherent.next_of_open hopen
  have haccepted : s.splitAccepted = true := by
    rw [splitAccepted, Bool.and_eq_true, decide_eq_true_eq, decide_eq_true_eq]
    exact ⟨hqueue, hnext⟩
  have hdraw : s.drawFrame = (s.doSplit e.index e.next).openAndDraw s.journal.nextIndex b f := by
    rw [drawFrame_of_full h hroom, drawOpening_of_threshold hfree hopen hlist, if_pos haccepted]
  rw [doSplit_eq hr] at hdraw
  have haside := splitAside_spec (x := e.next) hport hcan hr hmirror hn
  have hcloses := haside.closesAt he hn hqfree
  have hkept := State.KeepsTake.finishIfDone (s.splitAside e.index e.next r) (Ne.symm hn)
  have hkeptSlots := (s.splitAside e.index e.next r).otherSlotsKept_finishIfDone e.index
  have hkeptFrame := (s.splitAside e.index e.next r).finishIfDone_frame_eq e.index
  generalize s.splitAside e.index e.next r = a at *
  have hae : a.entryOf e.index = some e := (haside.entryOf hqfree e.index).trans ((if_neg hn).trans he)
  have hab (i : Nat) : a.buffer i = s.buffer i := by rw [haside.frame]; rfl
  have hcont : a.recordAt s.journal.nextIndex = some (s.continuation r e.next (movedMarkers r e.next)) := by
    obtain ⟨_, hsl, -⟩ := haside.continuation
    exact recordAt_eq_some.2 ⟨_, hsl, rfl⟩
  obtain ⟨hsealed, hothers, ⟨ph, sg, hsg, -⟩, v, hv, hvport⟩ := seals_finishIfDone haside.record hae rfl (le_refl _) hc ((hab c).trans hb) hcount rfl
  have hentryk : (a.finishIfDone e.index).entryOf s.journal.nextIndex = some (QueueEntry.joining s.journal.nextIndex e.next) :=
    hkept.entry.trans ((haside.entryOf hqfree _).trans (if_pos rfl))
  have hrecordk := hkept.record.trans hcont
  have hnextIndex := hkeptSlots.2.trans haside.next
  have hframe : ∃ j p w, a.finishIfDone e.index = { s with engine := { s.engine with openTake := some s.journal.nextIndex }, journal := j, port := p
                                                           writer := w } := by
    obtain ⟨j, p, w, hw⟩ : ∃ j p w, a.finishIfDone e.index = { a with journal := j, port := p, writer := w } := ⟨_, _, _, hkeptFrame⟩
    rw [hw, haside.frame]
    exact ⟨_, _, _, rfl⟩
  have hnumbered : (a.finishIfDone e.index).port.Numbered := by
    rw [hv]
    exact State.port_numbered_ask (by rw [hvport]; exact haside.numbered) _ _ _ _
  have hoffers : (a.finishIfDone e.index).port.Offers fun k => k = .segmentWrite c 0 ∨ k = .journalWrite e.index ∨ k = .journalWrite s.journal.nextIndex := by
    rw [hv]
    refine offers_ask ?_ (.inl rfl) _ _ _
    rw [hvport]
    exact haside.offers.mono fun k hk => .inr hk
  clear hkeptFrame hkept hv
  generalize a.finishIfDone e.index = z at *
  have hmedia : z.media = s.media := by
    obtain ⟨j, p, w, hz⟩ := hframe
    rw [hz]
  obtain ⟨z', hz'⟩ := allocate_congr hmedia hrun
  obtain ⟨hentry, hbuffer, hbuffers, ⟨r', hr', haccounts, hextents⟩, hslots, hentries, j, w, hall⟩ :=
    openAndDraw_first (f := f) hblt hrecordk hentryk rfl (show ([] : List Extent).length < 64 by decide) hz' (.inl rfl) rfl
  rw [← hdraw] at hentry hbuffer hbuffers hr' hslots hentries hall
  have hport' : s.drawFrame.port = z.port := by rw [hall]
  have hcloses' : s.ClosesAt e r e.next s.drawFrame := by
    refine hcloses.of_kept (hslots.1 _ hn) (hentries _ hn) (fun i ph sg hi _ => (hbuffers i ?_).trans hi) fun kind at_ _ hasked => ?_
    · rintro rfl
      rw [hothers i hcb, hab, hbfree] at hi
      cases hi
    · rw [hall]
      exact hasked
  have hsealed' : s.drawFrame.Sealed c seg [] (e.sealedSegs + 1) (if e.sealedSegs = 0 then .only else .last) := by
    obtain ⟨⟨p, sg, hp⟩, hasked⟩ := hsealed
    exact ⟨⟨p, sg, by rw [hbuffers c (Ne.symm hcb)]; exact hp⟩, by rw [hall]; exact hasked⟩
  have hexec : exec .frameDraw s = .next s.drawFrame.grant := by
    obtain ⟨j', p, w', hz⟩ := hframe
    refine exec_frameDraw_of_beside (engine := { s.engine with openTake := some s.journal.nextIndex }) ⟨j, w, p, some (run.first + run.count), ?_⟩ rfl
    rw [hall, hz]
  obtain ⟨j', p, w', hz⟩ := hframe
  have hfull : s.drawFrame = { s with engine := { s.engine with openTake := some s.journal.nextIndex }, journal := j, port := p, writer := w
                                      media := { s.media with cursor := some (run.first + run.count) } } := by
    rw [hall, hz]
  clear hdraw
  generalize s.drawFrame = y at *
  have hgranted := y.grantedTo_grant
  have hverify : y.grant.verify = y.verify := verify_grant_other (hport' ▸ hoffers.mono fun k hk => by rcases hk with rfl | rfl | rfl <;> rfl)
  obtain ⟨rk, hrk, hsame⟩ := hgranted.recordAt hr'
  obtain ⟨hrecorded, -, -, -, hrest⟩ := haccounts
  obtain ⟨d, hd⟩ := hgranted.entryOf hentry
  have hgrant : y.grant = { s with
      engine := y.grant.engine, journal := y.grant.journal, port := y.grant.port, writer := y.grant.writer
      media := { s.media with cursor := some (run.first + run.count) } } := by
    have hframe' := hgranted.frame
    rw [hverify] at hframe'
    generalize y.grant = g at *
    rw [hframe', hfull]
  refine ⟨y.grant, rk, hexec, ?_, hcloses'.grant (hport' ▸ hnumbered), hsealed'.grant (hport' ▸ hnumbered), ?_, hrk, ?_⟩
  · rw [hgranted.frame, hfull]
  · rw [hgranted.frame]
    exact hslots.2.trans hnextIndex
  · have hstate : rk.recorded = 1 ∧ rk.extents = [run] := by
      rw [hsame]
      exact ⟨hrecorded, hextents⟩
    have hcontinues : rk = { s.continuation r e.next (movedMarkers r e.next) with
        recorded := rk.recorded, peaks := rk.peaks, clipCount := rk.clipCount, notes := rk.notes, flags := rk.flags, extents := rk.extents
        durable := rk.durable } := by
      rw [hsame]
      dsimp only
      conv_lhs => rw [hrest]
    obtain ⟨hone, hext⟩ := hstate
    rw [hcontinues]
    refine ⟨rfl, rfl, rfl, rfl, rfl, hone, rfl, hext, rfl, rfl, rfl, ?_, ?_, hgrant⟩
    · rw [hd]
      rfl
    · refine (buffer_grant_other (hport' ▸ hoffers.mono fun k hk i hi => ?_)).trans hbuffer
      rcases hk with rfl | rfl | rfl
      · cases hi
        exact hcb rfl
      · cases hi
      · cases hi

/-- The split at the threshold is refused: the take is cut at the frame (R56, R129). -/
theorem State.frameDraw_cut (hcoherent : s.Coherent) (hport : s.port.Sound) (h : s.MayDraw e r f) (hc : e.current = some c)
    (hb : s.buffer c = .used phase seg) (hroom : s.room e < r.frameBytes) (hfree : s.freeBuffer = some b)
    (hopen : s.engine.openTake = some e.index) (hlist : 48 ≤ r.extents.length) (hcount : e.completed ≤ e.sealedSegs)
    (hfull : 3 ≤ s.writer.queue.length ∨ 4096 < s.journal.nextIndex) : ∃ t, exec .frameDraw s = .next t
          ∧ t.engine = { s.engine with takeState := .standby, openTake := none, holders := [], pendingStop := none }
          ∧ t.intake = { s.intake with armMask := s.intake.nextArm.getD s.intake.armMask, nextArm := none }
          ∧ s.ClosesAt e (r.flag .splitRefused) e.next t
          ∧ t.Sealed c seg [] (e.sealedSegs + 1) (if e.sealedSegs = 0 then .only else .last)
          ∧ (∀ a, a ≠ c → t.buffer a = s.buffer a)
          ∧ t.link = s.link.enqueueState t.stateContent
          ∧ t = { s with engine := t.engine, intake := t.intake, journal := t.journal, port := t.port, writer := t.writer
                         link := t.link } := by
  obtain ⟨-, he, hr, -⟩ := id h
  obtain ⟨-, hcan, hstates, -⟩ := hcoherent.open_record hopen hr
  have hne : s.engine.takeState ≠ .standby := by
    rcases hstates with h | h <;> simp [h]
  have haccepted : s.splitAccepted = false := by
    rw [splitAccepted, Bool.and_eq_false_iff, decide_eq_false_iff_not, decide_eq_false_iff_not]
    exact hfull.imp not_lt.2 not_le.2
  have hdraw : s.drawFrame = s.refuseSplit e.index e.next := by
    rw [drawFrame_of_full h hroom, drawOpening_of_threshold hfree hopen hlist, if_neg (by simp [haccepted])]
  generalize hu : s.clearOpen.flagRecord e.index .splitRefused = u
  obtain ⟨j, hj⟩ : ∃ j, u = { s.clearOpen with journal := j } := ⟨_, hu.symm.trans (modifyRecord_frame_eq _ e.index _)⟩
  have hru : u.recordAt e.index = some (r.flag .splitRefused) := by
    rw [← hu, flagRecord, recordAt_modifyRecord, if_pos rfl]
    exact congrArg (Option.map _) hr
  have heu : u.entryOf e.index = some e := by rw [hj]; exact he
  have hportu : u.port = s.port := by rw [hj]; rfl
  have hexec : exec .frameDraw s = .next (announce s (u.closeTake e.index e.next).enterStandby).grant := by
    show Host.Outcome.next _ = _
    rw [hdraw, refuseSplit, hu]
  obtain ⟨hengine, hintake, hlink, hframe, -, hcloses, -⟩ := closedToStandby_spec hne (hportu ▸ hport) hru e.next rfl
  obtain ⟨g, r1, hclose, hsame, hrecord1, hstops⟩ := closeTake_eq hru e.next
  have hentry1 : (u.modifySlot e.index g).entryOf e.index = some e := by simpa [entryOf] using heu
  have hbuffer1 (a : Nat) : (u.modifySlot e.index g).buffer a = s.buffer a := by
    have : (u.modifySlot e.index g).buffer a = u.buffer a := by simp [buffer]
    rw [this, hj]
    rfl
  obtain ⟨hsealed, hothers, -, v, hv, hvport⟩ := seals_finishIfDone hrecord1 hentry1 (by rw [hstops.1]) (by rw [hstops.1]; exact le_refl _) hc
    ((hbuffer1 c).trans hb) hcount rfl
  rw [← hclose] at hsealed hothers hv
  have hvport' : v.port = s.port := by
    rw [hvport, ← hportu]
    simp
  have hnumbered : (u.closeTake e.index e.next).port.Numbered := by
    rw [hv]
    exact State.port_numbered_ask (by rw [hvport']; exact hport.numbered) _ _ _ _
  have hoffers : (u.closeTake e.index e.next).port.Offers (· = .segmentWrite c 0) := by
    rw [hv]
    exact offers_ask (P := (· = .segmentWrite c 0)) (by rw [hvport']; exact hport.offers _) rfl _ _ _
  have hbeside : ∃ en i l, announce s (u.closeTake e.index e.next).enterStandby
      = { u.closeTake e.index e.next with engine := en, intake := i, link := l } := by
    unfold announce
    split
    · exact ⟨_, _, _, rfl⟩
    · exact ⟨_, _, _, rfl⟩
  generalize announce s (u.closeTake e.index e.next).enterStandby = y at *
  obtain ⟨en, i, l, hy⟩ := hbeside
  have hyport : y.port = (u.closeTake e.index e.next).port := by rw [hy]
  have hybuffer (a : Nat) : y.buffer a = (u.closeTake e.index e.next).buffer a := by rw [hy]; rfl
  refine ⟨y.grant, hexec, by rw [hengine, hj]; rfl, by rw [hintake, hj]; rfl, ?_, ?_, fun a ha => ?_, by rw [hlink, hj]; rfl, ?_⟩
  · have hclosed := hcloses e heu
    rw [← hu] at hclosed
    exact hclosed.of_modifyRecord
  · refine State.Sealed.grant ?_ (hyport ▸ hnumbered)
    obtain ⟨⟨p, sg, hp⟩, hasked⟩ := hsealed
    exact ⟨⟨p, sg, by rw [hybuffer]; exact hp⟩, by rw [hy]; exact hasked⟩
  · rw [buffer_grant_other (hyport ▸ hoffers.mono fun k hk i hki => ha (by rw [hk] at hki; cases hki; rfl)), hybuffer, hothers a ha, hbuffer1]
  · conv_lhs => rw [hframe]
    rw [hj]
    rfl

end Sys2Proof.Machine

/-! FRAME_DRAW without a run: the card is FULL (R142), or the list of a CLOSING take overflows (R141). -/

namespace Sys2Proof.Machine

variable {s s' t u : State} {n k b c x : Nat} {r : Record} {e : QueueEntry} {f : RingFrame} {phase : BufferPhase} {seg : Segment} {run : Extent}
  {flag : TakeFlag}

/-! ### What an abandonment leaves of the other takes (R143) -/

theorem State.buffer_abandonTake (hb : s.buffer c = .used phase seg) (hk : seg.take ≠ n) : (State.abandonTake flag s n).buffer c = .used phase seg := by
  cases he : s.entryOf n with
  | none => rwa [abandonTake_of_unqueued he]
  | some e =>
    have hdrop : (s.dropTake flag n e).buffer c = .used phase seg := by
      have hlt : c < 8 := s.lt_of_buffer_ne_free (by simp [hb])
      rw [dropTake_frame_eq]
      unfold buffer at hb ⊢
      simp only [Vector.getElem?_ofFn, hlt, dif_pos, Option.getD_some]
      rw [Vector.getElem?_eq_getElem hlt, Option.getD_some] at hb
      have hget : s.writer.buffers[(⟨c, hlt⟩ : Fin 8)] = .used phase seg := hb
      rw [hget, Buffer.abandon, if_neg fun h => hk h.1]
    have hchange : ((s.dropTake flag n e).changeRecord n).buffer c = .used phase seg := by
      rw [buffer, changeRecord_frame_eq]
      exact hdrop
    rw [abandonTake_of_queued he]
    split
    · exact hchange
    · exact hchange

theorem State.Asked.changeRecord {kind : OpKind} {a : Nat} (h : s.Asked kind a) (n : Nat) : (s.changeRecord n).Asked kind a := by
  have hsame (t : State) (ht : t.port = s.port) : t.Asked kind a := by
    obtain ⟨op, hop, hkind⟩ := h
    exact ⟨op, by rw [ht]; exact hop, hkind⟩
  unfold State.changeRecord
  repeat' split
  iterate 4 exact hsame _ (by simp)
  exact h.askWrite n

theorem State.asked_abandonTake {kind : OpKind} {a : Nat} (h : s.Asked kind a)
    (hkind : (∃ m, kind = .journalWrite m) ∨ ∃ c phase seg, kind = .segmentWrite c 0 ∧ s.buffer c = .used phase seg ∧ seg.take ≠ n) :
    (State.abandonTake flag s n).Asked kind a := by
  cases he : s.entryOf n with
  | none => rwa [abandonTake_of_unqueued he]
  | some e =>
    have hdrop : (s.dropTake flag n e).Asked kind a := by
      obtain ⟨op, hop, rfl, hattempt⟩ := h
      have hkeep : s.writesOf n op = false := by
        unfold writesOf
        rcases hkind with ⟨m, hm⟩ | ⟨c, phase, seg, hm, hb, htake⟩
        · rw [hm]
        · rw [hm]
          simp [hb, Buffer.ofTake, htake]
      refine ⟨op, ?_, rfl, hattempt⟩
      rw [dropTake_frame_eq]
      simp only [List.mem_append, List.mem_filter] at hop ⊢
      exact hop.imp_left fun h => ⟨h, by simp [hkeep]⟩
    have hchange := hdrop.changeRecord n
    rw [abandonTake_of_queued he]
    split
    · exact hchange
    · exact hchange

theorem State.entryOf_abandonTake_same (flag : TakeFlag) (s : State) (n : Nat) : (State.abandonTake flag s n).entryOf n = none := by
  unfold entryOf
  rw [(s.abandonTake_spec flag n).1]
  refine List.find?_eq_none.2 fun x hx => ?_
  have := (List.mem_filter.1 hx).2
  simpa using this

/-- The slots, queue entries, buffers and asked writes of takes that are not abandoned, and the records of those that are (R142, R143). -/
theorem State.abandonAll_spec {l : List Nat} (hl : l.Nodup) (ht : t = l.foldl (State.abandonTake flag) s) :
    (∀ k, k ∉ l → t.slotAt k = s.slotAt k ∧ t.entryOf k = s.entryOf k)
      ∧ (∀ k e, k ∈ l → s.entryOf k = some e → t.entryOf k = none
          ∧ ∃ c, t.recordAt k = (s.recordAt k).map fun r => (r.abandon flag e.durBytes).flagIf c .unsaved)
      ∧ (∀ c phase seg, s.buffer c = .used phase seg → seg.take ∉ l → t.buffer c = .used phase seg)
      ∧ (∀ kind a, (∃ m, kind = .journalWrite m) ∨ (∃ c phase seg, kind = .segmentWrite c 0 ∧ s.buffer c = .used phase seg ∧ seg.take ∉ l) →
          s.Asked kind a → t.Asked kind a)
      ∧ (s.engine.openTake = none → t.engine = s.engine)
      ∧ (∀ m ∈ l, s.engine.openTake = some m → (s.entryOf m).isSome → t.engine =
          { s.engine with openTake := none, holders := [], pendingStop := none, takeState := .offline })
      ∧ ∃ e j p w, t = { s with engine := e, journal := j, port := p, writer := w } := by
  induction l generalizing s with
  | nil =>
    subst ht
    exact ⟨fun _ _ => ⟨rfl, rfl⟩, by simp, fun _ _ _ h _ => h, fun _ _ _ h => h, fun _ => rfl, by simp, _, _, _, _, rfl⟩
  | cons m l ih =>
    rw [List.nodup_cons] at hl
    obtain ⟨-, hslots, hrecord, hengine, e, j, p, w, hframe⟩ := s.abandonTake_spec flag m
    have hbuffer {c : Nat} {phase : BufferPhase} {seg : Segment} (hb : s.buffer c = .used phase seg) (hk : seg.take ≠ m) :=
      buffer_abandonTake (flag := flag) hb hk
    have hasked {kind : OpKind} {a : Nat} (h : s.Asked kind a) := asked_abandonTake (flag := flag) (n := m) h
    have hentry {k : Nat} (hk : k ≠ m) := entryOf_abandonTake (s := s) hk flag
    have hgone := s.entryOf_abandonTake_same flag m
    obtain ⟨hkept, hrecords, hbuffers, hasks, hclosed, hcleared, e', j', p', w', hframe'⟩ := ih hl.2 ht
    refine ⟨fun k hk => ?_, fun k e hk he => ?_, fun c phase seg hb hk => ?_, fun kind a hkind ha => ?_, fun hnone => ?_,
      fun n hn hopen hsome => ?_, e', j', p', w', by rw [hframe', hframe]⟩
    · rw [List.mem_cons, not_or] at hk
      exact ⟨(hkept k hk.2).1.trans (hslots.1 k hk.1), (hkept k hk.2).2.trans (hentry hk.1)⟩
    · by_cases hkm : k = m
      · subst hkm
        refine ⟨(hkept k hl.1).2.trans hgone, !s.canWriteJournal, ?_⟩
        have hsame : t.recordAt k = (State.abandonTake flag s k).recordAt k := by
          unfold recordAt
          rw [(hkept k hl.1).1]
        rw [hsame, hrecord e he]
      · have hkl : k ∈ l := (List.mem_cons.1 hk).resolve_left hkm
        have hsame : (State.abandonTake flag s m).recordAt k = s.recordAt k := by
          unfold recordAt
          rw [hslots.1 k hkm]
        have := hrecords k e hkl ((hentry hkm).trans he)
        rwa [hsame] at this
    · rw [List.mem_cons, not_or] at hk
      exact hbuffers c phase seg (hbuffer hb hk.1) hk.2
    · refine hasks kind a ?_ (hasked ha (hkind.imp_right ?_))
      · refine hkind.imp_right ?_
        rintro ⟨c, phase, seg, hm, hb, hk⟩
        rw [List.mem_cons, not_or] at hk
        exact ⟨c, phase, seg, hm, hbuffer hb hk.1, hk.2⟩
      · rintro ⟨c, phase, seg, hm, hb, hk⟩
        rw [List.mem_cons, not_or] at hk
        exact ⟨c, phase, seg, hm, hb, hk.1⟩
    · rw [hclosed (by rw [hengine, if_neg (by simp [hnone])]; exact hnone), hengine, if_neg (by simp [hnone])]
    · by_cases hm : n = m
      · subst hm
        rw [if_pos ⟨hopen, hsome⟩] at hengine
        rw [hclosed (by rw [hengine]), hengine]
      · rw [if_neg (by rw [hopen]; rintro ⟨⟨⟩, -⟩; exact hm rfl)] at hengine
        rw [hcleared n ((List.mem_cons.1 hn).resolve_left hm) (by rw [hengine]; exact hopen) (by rw [hentry hm]; exact hsome), hengine]

theorem Record.abandon_flagIf (flag : TakeFlag) (bytes : Nat) (c : Bool) (r : Record) :
    ((r.abandon flag bytes).flagIf c .unsaved).state = .interrupted ∧ ((r.abandon flag bytes).flagIf c .unsaved).stop = none
      ∧ hasFlag ((r.abandon flag bytes).flagIf c .unsaved).flags flag = true
      ∧ ((r.abandon flag bytes).flagIf c .unsaved).extents = r.extents
      ∧ ((r.abandon flag bytes).flagIf c .unsaved).recorded = bytes / r.frameBytes
      ∧ ((r.abandon flag bytes).flagIf c .unsaved).lost = r.lost + (r.recorded - bytes / r.frameBytes) := by
  refine ⟨rfl, rfl, ?_, rfl, rfl, rfl⟩
  have hflag : hasFlag (r.abandon flag bytes).flags flag = true := hasFlag_setFlag_same ..
  cases c with
  | false => exact hflag
  | true => exact hasFlag_setFlag _ _ _ hflag

/-! ### The takes behind the one being filled (R142) -/

theorem State.behind_of_filling (h : s.filling = some e) (hsorted : (s.writer.queue.map (·.index)).Pairwise (· < ·)) :
    ∃ pre post, s.writer.queue = pre ++ e :: post ∧ (∀ y ∈ pre, s.needsFrames y = false) ∧ s.behind e.index = post.map (·.index)
      ∧ (∀ y ∈ pre, y.index < e.index) ∧ (∀ y ∈ post, e.index < y.index) := by
  obtain ⟨-, pre, post, hqueue, hpre⟩ := List.find?_eq_some_iff_append.1 h
  rw [hqueue, List.map_append, List.map_cons, List.pairwise_append] at hsorted
  obtain ⟨-, hpost, hbetween⟩ := hsorted
  have hlt (y : QueueEntry) (hy : y ∈ pre) : y.index < e.index := hbetween _ (List.mem_map_of_mem hy) _ List.mem_cons_self
  have hdrop : (pre ++ e :: post).dropWhile (fun y => y.index != e.index) = e :: post := by
    rw [List.dropWhile_append_of_pos fun y hy => by simpa using (hlt y hy).ne, List.dropWhile_cons_of_neg (by simp)]
  refine ⟨pre, post, hqueue, fun y hy => by simpa using hpre y hy, ?_, hlt, fun y hy => (List.pairwise_cons.1 hpost).1 _ (List.mem_map_of_mem hy)⟩
  rw [behind, hqueue, hdrop]
  rfl

/-! ### The take being filled is cut (R60, R142) -/

theorem State.cutFull_spec (hr : s.recordAt n = some r) (he : s.entryOf n = some e) (ht : t = s.cutFull n) :
    s.ClosesAt e (r.flag .mediaFull) e.next t
      ∧ t.engine = (if s.engine.openTake = some n then
          { s.engine with openTake := none, holders := [], pendingStop := none, takeState := .offline } else s.engine)
      ∧ (∀ k, k ≠ n → t.slotAt k = s.slotAt k ∧ t.entryOf k = s.entryOf k)
      ∧ ∃ en j p w, t = { s with engine := en, journal := j, port := p, writer := w } := by
  generalize hv : (if s.engine.openTake = some n then s.clearOpen.setTake .offline else s) = v
  have hcut : t = (v.flagRecord n .mediaFull).closeTake n e.next := by
    rw [ht, cutFull, he]
    dsimp only
    rw [hv]
  have hvframe : v = { s with engine := v.engine } := by
    rw [← hv]
    split <;> rfl
  have hvengine : v.engine = if s.engine.openTake = some n then
      { s.engine with openTake := none, holders := [], pendingStop := none, takeState := .offline } else s.engine := by
    rw [← hv]
    split <;> rfl
  obtain ⟨j, hj⟩ : ∃ j, v.flagRecord n .mediaFull = { v with journal := j } := ⟨_, modifyRecord_frame_eq _ n _⟩
  have hru : (v.flagRecord n .mediaFull).recordAt n = some (r.flag .mediaFull) := by
    rw [flagRecord, recordAt_modifyRecord, if_pos rfl, hvframe]
    exact congrArg (Option.map _) hr
  have hslot (k : Nat) (hk : k ≠ n) : (v.flagRecord n .mediaFull).slotAt k = s.slotAt k := by
    rw [flagRecord, slotAt_modifyRecord, if_neg hk, hvframe]
    rfl
  have hentry (k : Nat) : (v.flagRecord n .mediaFull).entryOf k = s.entryOf k := by
    rw [hj, hvframe]
    rfl
  have hclosesV := closesAt_closeTake hru ((hentry n).trans he) e.next
  have hkeep := otherSlotsKept_closeTake hru e.next
  have hframe := (v.flagRecord n .mediaFull).closeTake_frame_eq n e.next
  have hentries (k : Nat) (hk : k ≠ n) : ((v.flagRecord n .mediaFull).closeTake n e.next).entryOf k = s.entryOf k := by
    obtain ⟨g, -, hclose, -⟩ := closeTake_eq hru e.next
    rw [hclose, (State.KeepsTake.finishIfDone _ hk).entry]
    refine Eq.trans ?_ (hentry k)
    simp [entryOf]
  rw [← hcut] at hclosesV hkeep hframe hentries
  refine ⟨?_, ?_, fun k hk => ⟨(hkeep.1 k hk).trans (hslot k hk), hentries k hk⟩, ?_⟩
  · refine (hclosesV.of_modifyRecord).of_before (by rw [hvframe]) fun sl hsl => ⟨sl, ?_, rfl, rfl⟩
    rw [hvframe]
    exact hsl
  · rw [hframe, ← hvengine, hj]
  · have : ∃ j p w, t = { v.flagRecord n .mediaFull with journal := j, port := p, writer := w } := ⟨_, _, _, hframe⟩
    obtain ⟨j', p, w, h⟩ := this
    rw [h, hj, hvframe]
    exact ⟨_, _, _, _, rfl⟩

/-! ### FULL (R142) -/

theorem State.drawFrame_of_no_run (h : s.MayDraw e r f) (hroom : s.room e < r.frameBytes) (hfree : s.freeBuffer = some b)
    (hbelow : s.engine.openTake ≠ some e.index ∨ r.extents.length < 48) (hrun : s.allocate (s.blocksWanted r e) = none) : s.drawFrame
      = ((s.behind e.index).foldl (State.abandonTake .mediaFull) ((s.setMedia .full).cutFull e.index)).refreshStation := by
  rw [drawFrame_of_full h hroom, drawOpening_of_below hfree hbelow]
  obtain ⟨hfilling, he, hr, -⟩ := h
  simp [openAndDraw, hr, he, hrun, runRefused, hfilling]

theorem exec_frameDraw_of_full (hstate : s.media.state = .ready) (hframe : s.drawFrame.media.state = .full) :
    exec .frameDraw s = .next s.drawFrame.queueState.grant := by
  show Host.Outcome.next _ = _
  rw [State.announce_of_ne]
  intro h
  have := congrArg (·.2.1) h
  rw [show s.announced.2.1 = _ from hstate, show s.drawFrame.announced.2.1 = _ from hframe] at this
  cases this

/-- A station whose take state is that of a coherent state is not moved (R38). -/
theorem State.refreshStation_of_sound (h : s.engine.takeState = .offline ↔ ¬ (s.media.state = .ready ∧ s.intake.clock = .running)) :
    s.refreshStation = s := by
  have husable : s.usable = true ↔ s.media.state = .ready ∧ s.intake.clock = .running := by simp [usable]
  unfold refreshStation
  cases hstate : s.engine.takeState with
  | offline => exact if_neg fun hu => h.1 hstate (husable.1 hu)
  | standby =>
    refine if_pos (husable.2 ?_)
    by_contra hno
    rw [h.2 hno] at hstate
    cases hstate
  | rolling => rfl
  | tail => rfl

theorem State.frameDraw_full (hcoherent : s.Coherent) (hport : s.port.Sound) (h : s.MayDraw e r f)
    (hroom : s.room e < r.frameBytes) (hfree : s.freeBuffer = some b)
    (hbelow : s.engine.openTake ≠ some e.index ∨ r.extents.length < 48) (hrun : s.allocate (s.blocksWanted r e) = none) :
    ∃ t, exec .frameDraw s = .next t
          ∧ t.media = { s.media with state := .full }
          ∧ t.engine.takeState = .offline ∧ t.engine.openTake = none ∧ t.engine.pendingStop = none
          ∧ (s.engine.openTake ≠ none → t.engine.holders = [])
          ∧ s.ClosesAt e (r.flag .mediaFull) e.next t
          ∧ (∀ x rx, x ∈ s.writer.queue → e.index < x.index → s.recordAt x.index = some rx →
              t.entryOf x.index = none ∧ ∃ rx', t.recordAt x.index = some rx' ∧ rx'.state = .interrupted
                ∧ hasFlag rx'.flags .mediaFull = true ∧ rx'.recorded = x.durBytes / rx.frameBytes
                ∧ rx'.lost = rx.lost + (rx.recorded - rx'.recorded))
          ∧ (s.media.state = .ready → t.link = s.link.enqueueState t.stateContent)
          ∧ (s.media.state = .full → t.engine = s.engine ∧ t.link = s.link)
          ∧ t.intake = s.intake ∧ t.slate = s.slate := by
  obtain ⟨⟨hengine, hpending, -⟩, -, ⟨hsorted, hqueued, hholds⟩, hstation, hmedia, -⟩ := hcoherent
  have hdraw := drawFrame_of_no_run h hroom hfree hbelow hrun
  have hnumbered : s.drawFrame.port.Numbered := (State.Moves.drawFrame .refl).port_numbered hport.numbered
  obtain ⟨hfilling, he, hr, -⟩ := h
  obtain ⟨pre, post, hqueue, hpre, hbehind, hprelt, hpostlt⟩ := behind_of_filling hfilling hsorted
  rw [hbehind] at hdraw
  obtain ⟨hcloses, hcutEngine, hcutOthers, en, j, p, w, hcut⟩ := cutFull_spec (s := s.setMedia .full) hr he rfl
  generalize (s.setMedia .full).cutFull e.index = v at *
  have hnodup : (post.map (·.index)).Nodup := by
    rw [hqueue, List.map_append, List.map_cons, List.pairwise_append] at hsorted
    exact (List.pairwise_cons.1 hsorted.2.1).2.imp ne_of_lt
  have hnot : e.index ∉ post.map (·.index) := by
    rintro hmem
    obtain ⟨y, hy, hye⟩ := List.mem_map.1 hmem
    exact absurd hye (hpostlt y hy).ne'
  obtain ⟨hkept, hrecords, hbuffers, hasks, hclosed, hcleared, en', j', p', w', hfold⟩ := State.abandonAll_spec (flag := .mediaFull) (s := v) hnodup rfl
  generalize (post.map (·.index)).foldl (State.abandonTake .mediaFull) v = z at *
  have hcloses' : s.ClosesAt e (r.flag .mediaFull) e.next z := by
    refine State.ClosesAt.of_kept (s := s) (t := v) ?_ (hkept _ hnot).1 (hkept _ hnot).2 (fun c ph sg hc hsg => hbuffers c ph sg hc (by rw [hsg]; exact hnot))
      fun kind a hkind => hasks kind a ?_
    · exact hcloses.of_before rfl fun sl hsl => ⟨sl, hsl, rfl, rfl⟩
    · rcases hkind with h | ⟨c, ph, sg, hk, hc, hsg⟩
      · exact .inl ⟨_, h⟩
      · exact .inr ⟨c, ph, sg, hk, hc, by rw [hsg]; exact hnot⟩
  have hentryOf (y : QueueEntry) (hy : y ∈ s.writer.queue) : s.entryOf y.index = some y := State.entryOf_of_mem (hsorted.imp ne_of_lt) hy
  have hzengine : z.engine = (if s.engine.openTake = none then s.engine else
      { s.engine with openTake := none, holders := [], pendingStop := none, takeState := .offline }) := by
    cases hopen : s.engine.openTake with
    | none =>
      rw [if_pos rfl]
      have hvengine : v.engine = s.engine := hcutEngine.trans (if_neg (by rw [show (s.setMedia .full).engine.openTake = none from hopen]; simp))
      rw [hclosed (by rw [hvengine]; exact hopen), hvengine]
    | some m =>
      rw [if_neg (by simp)]
      by_cases hme : m = e.index
      · subst hme
        rw [if_pos (show (s.setMedia .full).engine.openTake = some e.index from hopen)] at hcutEngine
        rw [hclosed (by rw [hcutEngine]), hcutEngine]
        rfl
      · have hvengine : v.engine = s.engine := hcutEngine.trans (if_neg (by
          rw [show (s.setMedia .full).engine.openTake = some m from hopen]
          simpa using hme))
        obtain ⟨y, hy, rfl⟩ := hholds m hopen
        have hypost : y ∈ post := by
          obtain ⟨-, ry, hry, hst, hiff⟩ := hqueued y hy
          rw [hqueue, List.mem_append, List.mem_cons] at hy
          rcases hy with hy | rfl | hy
          · have := hpre y hy
            rw [needsFrames, show s.recordAt y.index = some ry from hry] at this
            simp [hiff.2 hopen] at this
          · exact absurd rfl hme
          · exact hy
        rw [hcleared y.index (List.mem_map_of_mem hypost) (by rw [hvengine]; exact hopen), hvengine]
        rw [(hcutOthers _ hme).2]
        exact Option.isSome_iff_exists.2 ⟨y, hentryOf y hy⟩
  have hzmedia : z.media = { s.media with state := .full } := by rw [hfold, hcut]; rfl
  have hzrest : z.intake = s.intake ∧ z.slate = s.slate ∧ z.link = s.link := by rw [hfold, hcut]; exact ⟨rfl, rfl, rfl⟩
  have hzstate : z.engine.takeState = .offline ∨ z.engine.takeState = .standby := by
    rw [hzengine]
    split
    · next hnone =>
      cases hs : s.engine.takeState with
      | offline => exact .inl rfl
      | standby => exact .inr rfl
      | rolling => simpa [hnone] using hengine.2 (.inl hs)
      | tail => simpa [hnone] using hengine.2 (.inr hs)
    · exact .inl rfl
  have hrefresh := refreshStation_of_unusable (s := z) (by simp [usable, hzmedia]) hzstate
  rw [hrefresh] at hdraw
  have hopenNone : z.engine.openTake = none ∧ z.engine.pendingStop = none ∧ (s.engine.openTake ≠ none → z.engine.holders = []) := by
    rw [hzengine]
    split
    · next hnone =>
      refine ⟨hnone, ?_, fun h => absurd hnone h⟩
      by_contra hsome
      have := hengine.2 (.inr (hpending.1 (Option.isSome_iff_ne_none.2 hsome)))
      rw [hnone] at this
      cases this
    · exact ⟨rfl, rfl, fun _ => rfl⟩
  obtain ⟨q, hexec, hq⟩ : ∃ q, exec .frameDraw s = .next q.grant ∧ ((s.media.state = .ready ∧ q = s.drawFrame.queueState)
      ∨ (s.media.state = .full ∧ q = s.drawFrame)) := by
    by_cases hready : s.media.state = .ready
    · exact ⟨_, exec_frameDraw_of_full hready (by rw [hdraw]; exact congrArg (·.state) hzmedia), .inl ⟨hready, rfl⟩⟩
    · have hfull : s.media.state = .full := by
        by_contra hno
        have := hmedia ⟨hready, hno⟩
        rw [hqueue] at this
        simp at this
      refine ⟨_, exec_frameDraw_of_quiet ?_, .inr ⟨hfull, rfl⟩⟩
      have hoffline := hstation.2 fun h => hready h.1
      rw [hdraw]
      show (_, z.media.state, z.intake.clock) = _
      rw [hzmedia, hzrest.1, announced, hoffline, hfull]
  have hqport : q.port = s.drawFrame.port := by rcases hq with ⟨-, rfl⟩ | ⟨-, rfl⟩ <;> rfl
  have hqrest : q.media = z.media ∧ q.engine = { z.engine with takeState := .offline } ∧ q.intake = z.intake ∧ q.slate = z.slate
      ∧ q.journal = z.journal ∧ q.writer = z.writer ∧ q.port = z.port := by
    rcases hq with ⟨-, rfl⟩ | ⟨-, rfl⟩
    · rw [queueState, hdraw]
      exact ⟨rfl, rfl, rfl, rfl, rfl, rfl, rfl⟩
    · rw [hdraw]
      exact ⟨rfl, rfl, rfl, rfl, rfl, rfl, rfl⟩
  obtain ⟨hqmedia, hqengine, hqintake, hqslate, hqjournal, hqwriter, hqportz⟩ := hqrest
  have hslot (k : Nat) : q.slotAt k = z.slotAt k := by rw [slotAt, hqjournal]; rfl
  have hentry (k : Nat) : q.entryOf k = z.entryOf k := by rw [entryOf, hqwriter]; rfl
  have hgranted := q.grantedTo_grant
  refine ⟨q.grant, hexec, ?_, ?_, ?_, ?_, ?_, ?_, ?_, ?_, ?_, ?_, ?_⟩
  · rw [hgranted.frame]
    exact hqmedia.trans hzmedia
  · rw [hgranted.frame]
    exact congrArg (·.takeState) hqengine
  · rw [hgranted.frame]
    exact (congrArg (·.openTake) hqengine).trans hopenNone.1
  · rw [hgranted.frame]
    exact (congrArg (·.pendingStop) hqengine).trans hopenNone.2.1
  · intro hopen
    rw [hgranted.frame]
    exact (congrArg (·.holders) hqengine).trans (hopenNone.2.2 hopen)
  · refine State.ClosesAt.grant ?_ (hqport ▸ hnumbered)
    refine hcloses'.of_kept (hslot _) (hentry _) (fun c ph sg hc _ => ?_) fun kind a _ ha => ?_
    · rw [buffer, hqwriter]
      exact hc
    · obtain ⟨op, hop, hkind⟩ := ha
      exact ⟨op, by rw [hqportz]; exact hop, hkind⟩
  · intro y ry hy hlt hry
    have hypost : y ∈ post := by
      rw [hqueue, List.mem_append, List.mem_cons] at hy
      rcases hy with hy | rfl | hy
      · exact absurd hlt (hprelt y hy).not_gt
      · exact absurd hlt (lt_irrefl _)
      · exact hy
    have hne : y.index ≠ e.index := hlt.ne'
    have hvrecord : v.recordAt y.index = some ry := by
      unfold State.recordAt
      rw [(hcutOthers _ hne).1]
      exact hry
    obtain ⟨hgone, c, hrec⟩ := hrecords y.index y (List.mem_map_of_mem hypost) ((hcutOthers _ hne).2.trans (hentryOf y hy))
    rw [hvrecord] at hrec
    have hqrec : q.recordAt y.index = some ((ry.abandon .mediaFull y.durBytes).flagIf c .unsaved) := by
      unfold State.recordAt
      rw [hslot]
      exact hrec
    obtain ⟨rx, hrx, hsame⟩ := hgranted.recordAt hqrec
    obtain ⟨h1, -, h2, -, h3, h4⟩ := ry.abandon_flagIf .mediaFull y.durBytes c
    refine ⟨hgranted.entryOf_none ((hentry _).trans hgone), rx, hrx, ?_⟩
    rw [hsame]
    exact ⟨h1, h2, h3, h4.trans (by rw [h3])⟩
  · intro hready
    obtain ⟨-, rfl⟩ : s.media.state = .ready ∧ q = s.drawFrame.queueState := hq.resolve_right fun h => by simp [hready] at h
    rw [link_grant_queueState, hdraw]
    exact congrArg (Link.enqueueState _) hzrest.2.2
  · intro hfull
    obtain ⟨-, rfl⟩ : s.media.state = .full ∧ q = s.drawFrame := hq.resolve_left fun h => by simp [hfull] at h
    have hoffline := hstation.2 fun h => by simp [hfull] at h
    have hnone : s.engine.openTake = none := by
      by_contra hsome
      have := hengine.1 (Option.isSome_iff_ne_none.2 hsome)
      rw [hoffline] at this
      rcases this with h | h <;> cases h
    refine ⟨?_, ?_⟩
    · rw [hgranted.frame]
      refine hqengine.trans ?_
      rw [hzengine, if_pos hnone, ← hoffline]
    · rw [hgranted.frame]
      refine Eq.trans ?_ hzrest.2.2
      rw [hdraw]
  · rw [hgranted.frame]
    exact hqintake.trans hzrest.1
  · rw [hgranted.frame]
    exact hqslate.trans hzrest.2.1

/-! ### The extent list overflows (R141) -/

theorem State.frameDraw_overflow (hcoherent : s.Coherent) (h : s.MayDraw e r f)
    (hroom : s.room e < r.frameBytes) (hfree : s.freeBuffer = some b) (hstate : r.state = .closing) (hlist : 64 ≤ r.extents.length)
    (hrun : s.allocate (s.blocksWanted r e) = some (run, s')) (happend : ∀ x ∈ r.extents.getLast?, x.first + x.count ≠ run.first) :
    ∃ t r', exec .frameDraw s = .next t
          ∧ t.media = { s.media with cursor := some (run.first + run.count) }
          ∧ t.entryOf e.index = none ∧ t.recordAt e.index = some r' ∧ r'.state = .interrupted ∧ r'.stop = none
          ∧ hasFlag r'.flags .extentOverflow = true ∧ r'.extents = r.extents ∧ r'.recorded = e.durBytes / r.frameBytes
          ∧ r'.lost = r.lost + (r.recorded - r'.recorded)
          ∧ t.engine = s.engine ∧ t.link = s.link ∧ t.intake = s.intake := by
  obtain ⟨-, -, ⟨-, hqueued, -⟩, hstation, -⟩ := hcoherent
  obtain ⟨hfilling, he, hr, -⟩ := id h
  obtain ⟨-, rx, hrx, -, hopened⟩ := hqueued e (List.mem_of_find?_eq_some hfilling)
  cases hr.symm.trans hrx
  have hopen : s.engine.openTake ≠ some e.index := fun h => by simp [hopened.2 h] at hstate
  have hmerges : mergesLast run r.extents = false := by
    unfold mergesLast
    cases hlast : r.extents.getLast? with
    | none => rfl
    | some x => simpa using happend x hlast
  have hyes : maxExtents ≤ r.extents.length ∧ mergesLast run r.extents = false := ⟨hlist, hmerges⟩
  have hs' := (allocate_some hrun).2
  have hdraw : s.drawFrame = (State.abandonTake .extentOverflow s' e.index).refreshStation := by
    rw [drawFrame_of_full h hroom, drawOpening_of_below hfree (.inl hopen)]
    simp only [openAndDraw, hr, he, hrun, hyes, and_self, if_true]
  obtain ⟨-, -, hrecord, hengine, en, j, p, w, hframe⟩ := s'.abandonTake_spec .extentOverflow e.index
  have hgone := s'.entryOf_abandonTake_same .extentOverflow e.index
  have hrecord' := hrecord e (by rw [hs']; exact he)
  rw [show s'.recordAt e.index = some r by rw [hs']; exact hr] at hrecord'
  rw [if_neg (by rw [hs']; exact fun h => hopen h.1)] at hengine
  generalize State.abandonTake .extentOverflow s' e.index = v at *
  have hvengine : v.engine = s.engine := by rw [hengine, hs']
  have hvrest : v.media = { s.media with cursor := some (run.first + run.count) } ∧ v.intake = s.intake ∧ v.link = s.link := by
    rw [hframe, hs']
    exact ⟨rfl, rfl, rfl⟩
  rw [refreshStation_of_sound (by rw [hvengine, hvrest.1, hvrest.2.1]; exact hstation)] at hdraw
  have hexec : exec .frameDraw s = .next v.grant := by
    rw [exec_frameDraw_of_quiet, hdraw]
    rw [hdraw, announced, hvengine, hvrest.1, hvrest.2.1]
    rfl
  have hgranted := v.grantedTo_grant
  obtain ⟨r', hr', hsame⟩ := hgranted.recordAt hrecord'
  obtain ⟨h1, h2, h3, h4, h5, h6⟩ := r.abandon_flagIf .extentOverflow e.durBytes (!s'.canWriteJournal)
  refine ⟨v.grant, r', hexec, ?_, hgranted.entryOf_none hgone, hr', ?_⟩
  · rw [hgranted.frame]
    exact hvrest.1
  · rw [hgranted.frame, hsame]
    exact ⟨h1, h2, h3, h4, h5, h6.trans (by rw [h5]), hvengine, hvrest.2.2, hvrest.2.1⟩

/-! ### The statement -/

/-- Settles O26: the first buffer of a take, a later one, the split at 48 extents or the cut there, FULL and EXTENT OVERFLOW. -/
theorem frameDrawOpensABuffer : Obligations.FrameDrawOpensABuffer := by
  refine ⟨fun s s' e r f b want run hport hmay hc hfree hbelow hlist hwant hrun => ?_,
    fun s s' e r f b c room want run phase seg new hport hmay hc hb htake hroom hlong hbytes hfree hbelow hlist hwant hrun hnew hends => ?_,
    fun s e r f b c k phase seg hcoherent hport hmay hc hb htake hroom hfree hopen hlist hcount hk => ?_,
    fun s e r f want hcoherent hport hmay hroom hfree hwant => ?_⟩
  · have hwanted : s.blocksWanted r e = want := by
      have hzero : s.room e = 0 := by simp only [State.room, hc]
      rw [State.blocksWanted_eq, hzero, hwant]
      rfl
    rw [← hwanted] at hrun
    refine ⟨fun hgoes => State.frameDraw_first_going hport hmay hc hfree hbelow hlist hrun hgoes, fun hstate hstop hbytes _ hcount => ?_⟩
    refine State.frameDraw_first_last hport hmay hc hfree hbelow hlist hrun hstate hstop hcount ?_
    have hle := (State.allocate_some hrun).1
    rw [hwanted, hwant, if_neg (by simp [hstate]), hstop, Option.getD_some, Nat.add_sub_cancel_left, Nat.one_mul] at hle
    rw [hbytes]
    exact hle.trans (min_le_right _ _)
  · have hwanted : s.blocksWanted r e = want := by rw [State.blocksWanted_eq, State.room_of_used hc hb hroom, hwant]
    rw [← hwanted] at hrun
    subst hnew
    by_cases hgoes : r.GoesOn e.next
    · obtain ⟨t, r', d, hexec, hentry, hsealed, hbuffer, hrest⟩ :=
        State.frameDraw_later_going hport hmay hc hb htake hroom hlong hbytes hfree hbelow hlist hrun hgoes
      exact ⟨t, r', _, hexec, hentry, hsealed, fun _ => ⟨rfl, hbuffer⟩, fun h => absurd hgoes h, hrest⟩
    · obtain ⟨hstate, hstop, hcount⟩ := hends.resolve_left hgoes
      obtain ⟨t, r', d, hexec, hentry, hsealed, hlast, hrest⟩ :=
        State.frameDraw_later_last hport hmay hc hb htake hroom hlong hbytes hfree hbelow hlist hrun hstate hstop hcount (by
          have hle := (State.allocate_some hrun).1
          rw [hwanted, hwant, if_neg (by simp [hstate]), hstop, Option.getD_some, Nat.add_sub_cancel_left, Nat.one_mul] at hle
          rw [List.length_drop, hbytes]
          exact hle.trans (min_le_right _ _))
      exact ⟨t, r', _, hexec, hentry, hsealed, fun h => absurd h hgoes, fun _ => ⟨rfl, hlast⟩, hrest⟩
  · refine ⟨fun run s' hqueue hnext hrun => ?_, fun hfull => ?_⟩
    · exact State.frameDraw_split hcoherent hport hmay hc hb hroom hfree hopen hlist hcount hqueue (hk ▸ hnext) hrun hk
    · exact State.frameDraw_cut hcoherent hport hmay hc hb hroom hfree hopen hlist hcount (hk ▸ hfull)
  · obtain ⟨b, hfree⟩ := hfree
    have hwanted : s.blocksWanted r e = want := by rw [State.blocksWanted_eq, hwant]
    refine ⟨fun hbelow hrun => ?_, fun run s' hstate hlist hrun happend => ?_⟩
    · exact State.frameDraw_full hcoherent hport hmay hroom hfree hbelow (by rw [hwanted]; exact hrun)
    · exact State.frameDraw_overflow hcoherent hmay hroom hfree hstate hlist (by rw [hwanted]; exact hrun) happend

end Sys2Proof.Machine

/-! What every operation keeps of the limits of a block, said of single changes: the intake's counts, the ring, the anchor, the lists of the
records, the defect lists and the writer queue stay within their limits, and no flag of a record goes. -/

namespace Sys2Proof.Machine

variable {s t u : State} {n : Nat}

/-! ### Records (R13, R76, R82, R141) -/

/-- A record changed within its limits, with every flag kept. -/
structure Record.Within (r r' : Record) : Prop where
  fits : r.Fits → r'.Fits
  flags : ∀ f : TakeFlag, hasFlag r.flags f = true → hasFlag r'.flags f = true

theorem Record.Within.refl (r : Record) : r.Within r := ⟨id, fun _ h => h⟩

theorem Record.Within.trans {r r' r'' : Record} (h : r.Within r') (h' : r'.Within r'') : r.Within r'' :=
  ⟨h'.fits ∘ h.fits, fun f hf => h'.flags f (h.flags f hf)⟩

/-- Changes beside the lists, the slate and the flags. -/
theorem Record.Within.of_same {r r' : Record} (h : r'.markers = r.markers ∧ r'.notes = r.notes ∧ r'.joined = r.joined ∧ r'.extents = r.extents
    ∧ r'.slate = r.slate ∧ r'.flags = r.flags) : r.Within r' := by
  obtain ⟨h1, h2, h3, h4, h5, h6⟩ := h
  exact ⟨fun hr => by rw [Record.Fits, h1, h2, h3, h4, h5]; exact hr, fun f hf => by rw [h6]; exact hf⟩

theorem Record.Within.flag (r : Record) (f : TakeFlag) : r.Within (r.flag f) := ⟨id, fun _ hf => hasFlag_setFlag _ _ _ hf⟩

theorem Record.Within.flagIf (r : Record) (c : Bool) (f : TakeFlag) : r.Within (r.flagIf c f) := by
  cases c with
  | false => exact .refl r
  | true => exact .flag r f

theorem Record.Within.pointFlags (r : Record) (pt : Point) : r.Within (r.pointFlags pt) := (Within.flagIf r _ _).trans (.flagIf _ _ _)

theorem Record.Within.of_extents {r : Record} {l : List Extent} (h : r.Fits → l.length ≤ maxExtents) : r.Within { r with extents := l } := by
  refine ⟨fun hr => ?_, fun _ hf => hf⟩
  obtain ⟨h1, h2, h3, -, h5⟩ := id hr
  exact ⟨h1, h2, h3, h hr, h5⟩

theorem Record.Within.of_markers {r : Record} {l : List Marker} (h : r.Fits → l.length ≤ maxMarkers) : r.Within { r with markers := l } := by
  refine ⟨fun hr => ?_, fun _ hf => hf⟩
  obtain ⟨-, h2, h3, h4, h5⟩ := id hr
  exact ⟨h hr, h2, h3, h4, h5⟩

theorem Record.Within.of_notes {r : Record} {l : List DefectNote} (h : r.Fits → l.length ≤ maxNotes) : r.Within { r with notes := l } := by
  refine ⟨fun hr => ?_, fun _ hf => hf⟩
  obtain ⟨h1, -, h3, h4, h5⟩ := id hr
  exact ⟨h1, h hr, h3, h4, h5⟩

theorem Record.Within.of_slate {r : Record} {sl : Slate} (h : r.Fits → sl.Fits) : r.Within { r with slate := sl } := by
  refine ⟨fun hr => ?_, fun _ hf => hf⟩
  obtain ⟨h1, h2, h3, h4, -⟩ := id hr
  exact ⟨h1, h2, h3, h4, h hr⟩

theorem modifyFirst_length {α : Type} (p : α → Bool) (f : α → α) (l : List α) : (modifyFirst p f l).length = l.length := by
  induction l with
  | nil => rfl
  | cons x xs ih =>
    unfold modifyFirst
    split <;> simp [ih]

theorem Record.Within.addNote (note : DefectNote) (r : Record) : r.Within (r.addNote note) := by
  unfold Record.addNote
  split
  · next h => exact .of_notes fun _ => by rw [List.length_append]; exact h
  · exact .flag r _

theorem Record.Within.runNote (p : DefectNote → Bool) (q k : Nat) (note : DefectNote) (r : Record) : r.Within (r.runNote p q k note) := by
  unfold Record.runNote
  split
  · exact .addNote note r
  · split
    · refine .of_notes fun hr => ?_
      rw [modifyLast, List.length_reverse, modifyFirst_length, List.length_reverse]
      exact hr.2.1
    · exact .addNote note r

theorem Record.Within.charge (q k : Nat) (r : Record) : r.Within (r.charge q k) :=
  Within.trans (r' := { r with lost := r.lost + k }) (.of_same ⟨rfl, rfl, rfl, rfl, rfl, rfl⟩) (.runNote ..)

theorem Record.Within.account (f : RingFrame) (w : Nat) (r : Record) : r.Within (r.account f w) := by
  unfold Record.account
  dsimp only
  generalize hr1 : ({ r with
    recorded := r.recorded + 1
    peaks := List.zipWith max r.peaks ((trackSamples r.armed r.mixPresent f).map magnitude)
    clipCount := if r.mixPresent && f.clip then min 65535 (r.clipCount + 1) else r.clipCount } : Record) = r1
  have hbefore : r.Within r1 := hr1 ▸ .of_same ⟨rfl, rfl, rfl, rfl, rfl, rfl⟩
  refine hbefore.trans ?_
  clear hr1 hbefore
  generalize (lanesOf (r.armed &&& f.invalid)).map (·.val) = l
  induction l generalizing r1 with
  | nil => exact .refl r1
  | cons lane l ih => exact Within.trans (r' := r1.dropout (w - r.start) lane) (.runNote ..) (ih _)

theorem Record.Within.abandon (f : TakeFlag) (bytes : Nat) (r : Record) : r.Within (r.abandon f bytes) :=
  ⟨id, fun _ hf => hasFlag_setFlag _ _ _ hf⟩

theorem Record.Within.join (k : TakeKey) (r : Record) : r.Within (r.join k) := by
  unfold Record.join
  split
  · next h =>
    refine ⟨fun hr => ?_, fun _ hf => hf⟩
    obtain ⟨h1, h2, -, h4, h5⟩ := hr
    exact ⟨h1, h2, by rw [List.length_append]; exact h.1, h4, h5⟩
  · exact .refl r

theorem Record.Within.recover (r : Record) : r.Within r.recover := by
  unfold Record.recover
  split
  · exact ⟨id, fun _ hf => hasFlag_setFlag _ _ _ hf⟩
  · exact .refl r

theorem shortenLast_length (k : Nat) (l : List Extent) : (shortenLast k l).length ≤ l.length := by
  unfold shortenLast
  cases h : l.reverse with
  | nil => simp
  | cons e rest =>
    have hlen : l.length = rest.length + 1 := by rw [← List.length_reverse, h, List.length_cons]
    dsimp only
    split <;> simp <;> omega

theorem Record.Within.shortened (seg : Segment) (r : Record) : r.Within (r.shortened seg) := by
  refine .of_extents fun hr => ?_
  split
  · exact (shortenLast_length _ _).trans hr.2.2.2.1
  · exact hr.2.2.2.1

/-! ### A state within its limits -/

/-- What holds of the limits of each block before holds of them after. -/
structure State.Limits (s t : State) : Prop where
  intake : s.intake.Sound → t.intake.Sound
  ring : ringCanonical s.intake.ring → ringCanonical t.intake.ring
  anchor : s.AnchorSound → t.AnchorSound
  records : s.RecordsFit → t.RecordsFit
  defects : s.DefectsSound → t.DefectsSound
  writer : s.writer.Sound → t.writer.Sound

theorem State.Limits.refl (s : State) : s.Limits s := ⟨id, id, id, id, id, id⟩

theorem State.Limits.trans (h : s.Limits t) (h' : t.Limits u) : s.Limits u :=
  ⟨h'.intake ∘ h.intake, h'.ring ∘ h.ring, h'.anchor ∘ h.anchor, h'.records ∘ h.records, h'.defects ∘ h.defects, h'.writer ∘ h.writer⟩

/-- Every record of the mirror stands where it stood, with every flag it had; the mirror may be longer. -/
def State.FlagsGrow (s t : State) : Prop :=
  ∀ (k : Nat) (r : Record), s.recordAt k = some r → ∃ r', t.recordAt k = some r' ∧ ∀ f : TakeFlag, hasFlag r.flags f = true → hasFlag r'.flags f = true

/-- A flag once set on a record stays set, while the mirror holds the record (R82). -/
def State.FlagsKept (s t : State) : Prop :=
  ∀ (k : Nat) (r r' : Record) (f : TakeFlag), s.recordAt k = some r → t.recordAt k = some r' → hasFlag r.flags f = true → hasFlag r'.flags f = true

/-- A step within the limits of every block, that takes no record from the mirror. -/
structure State.Within (s t : State) : Prop extends s.Limits t where
  grows : s.FlagsGrow t

namespace State.Within

theorem refl (s : State) : s.Within s := ⟨.refl s, fun _ r hr => ⟨r, hr, fun _ h => h⟩⟩

theorem trans (h : s.Within t) (h' : t.Within u) : s.Within u := by
  refine ⟨h.toLimits.trans h'.toLimits, fun k r hr => ?_⟩
  obtain ⟨r1, hr1, h1⟩ := h.grows k r hr
  obtain ⟨r2, hr2, h2⟩ := h'.grows k r1 hr1
  exact ⟨r2, hr2, fun f hf => h2 f (h1 f hf)⟩

theorem kept (h : s.Within t) : s.FlagsKept t := by
  intro k r r' f hr hr' hf
  obtain ⟨r1, hr1, h1⟩ := h.grows k r hr
  cases hr1.symm.trans hr'
  exact h1 f hf

/-- A change beside the blocks with limits. -/
theorem of_beside (h : t.intake = s.intake ∧ t.timecode = s.timecode ∧ t.slate = s.slate ∧ t.journal.mirror = s.journal.mirror
    ∧ t.media.defects = s.media.defects ∧ t.writer.queue.length ≤ s.writer.queue.length ∧ ∀ plan ∈ t.verify.slot.plan, plan ∈ s.verify.slot.plan) :
    s.Within t := by
  obtain ⟨hintake, htimecode, hslate, hmirror, hdefects, hqueue, hplan⟩ := h
  refine ⟨⟨by rw [hintake]; exact id, by rw [hintake]; exact id, fun hs => by rw [AnchorSound, hintake, htimecode]; exact hs,
    fun hs => by rw [RecordsFit, hslate, hmirror]; exact hs, fun hs => ⟨by rw [hdefects]; exact hs.1, fun p hp => hs.2 p (hplan p hp)⟩, fun hs => hqueue.trans hs⟩,
    fun k r hr => ⟨r, ?_, fun _ h => h⟩⟩
  unfold recordAt slotAt at hr ⊢
  rw [hmirror]
  exact hr

theorem beside (h : s.Within t) (hu : u.intake = t.intake ∧ u.timecode = t.timecode ∧ u.slate = t.slate ∧ u.journal.mirror = t.journal.mirror
    ∧ u.media.defects = t.media.defects ∧ u.writer.queue.length ≤ t.writer.queue.length ∧ ∀ plan ∈ u.verify.slot.plan, plan ∈ t.verify.slot.plan) :
    s.Within u := h.trans (.of_beside hu)

/-- Another intake within its limits, at a position of 48 bits. -/
theorem ofIntake {i : Intake} (h : s.Within t) (hsound : t.intake.Sound → i.Sound) (hring : ringCanonical t.intake.ring → ringCanonical i.ring)
    (hposition : t.intake.position < positionLimit → i.position < positionLimit) : s.Within { t with intake := i } :=
  h.trans ⟨⟨hsound, hring, fun ht => ⟨hposition ht.1, ht.2⟩, id, id, id⟩, fun _ r hr => ⟨r, hr, fun _ h => h⟩⟩

/-- Changes of the slot of a take that leave its record within its limits. -/
theorem modifySlot (h : s.Within t) (n : Nat) {g : MirrorSlot → MirrorSlot}
    (hg : ∀ sl, t.slotAt n = some sl → ∃ f : Record → Record, (g sl).entry = sl.entry.mapRecord f ∧ ∀ r, sl.entry = .record r → r.Within (f r)) :
    s.Within (t.modifySlot n g) := by
  have hframe : t.modifySlot n g = { t with journal := (t.modifySlot n g).journal } := t.modifySlot_frame_eq n g
  have hslot (k : Nat) : (t.modifySlot n g).slotAt k = if k = n then (t.slotAt n).map g else t.slotAt k   := t.slotAt_modifySlot n k g
  have hmirror : ∀ sl ∈ (t.modifySlot n g).journal.mirror, ∃ sl0 ∈ t.journal.mirror, sl = sl0 ∨ (sl = g sl0 ∧ t.slotAt n = some sl0) := by
    intro sl hsl
    unfold State.modifySlot at hsl
    split at hsl
    · exact ⟨sl, hsl, .inl rfl⟩
    · next hn =>
      obtain ⟨i, hi, rfl⟩ := List.getElem_of_mem hsl
      rw [List.length_modify] at hi
      refine ⟨t.journal.mirror[i], List.getElem_mem hi, ?_⟩
      simp only [List.getElem_modify]
      split
      · next hin =>
        refine .inr ⟨rfl, ?_⟩
        rw [slotAt, if_neg hn, hin, List.getElem?_eq_getElem hi]
      · exact .inl rfl
  refine h.trans ⟨⟨?_, ?_, ?_, fun ht => ?_, ?_, ?_⟩, fun k r hr => ?_⟩
  iterate 3 rw [hframe]; exact id
  · obtain ⟨hslate, hnumber, hrecords⟩ := ht
    refine ⟨by rw [hframe]; exact hslate, by rw [hframe]; exact hnumber, fun sl hsl r hr => ?_⟩
    obtain ⟨sl0, hsl0, rfl | ⟨rfl, hat⟩⟩ := hmirror sl hsl
    · exact hrecords _ hsl0 r hr
    · obtain ⟨f, hentry, hf⟩ := hg sl0 hat
      rw [hentry] at hr
      cases hentry0 : sl0.entry with
      | unreadable => rw [hentry0] at hr; cases hr
      | record r0 =>
        rw [hentry0] at hr
        cases hr
        exact (hf r0 hentry0).fits (hrecords sl0 hsl0 r0 (by rw [hentry0]; rfl))
  iterate 2 rw [hframe]; exact id
  · by_cases hk : k = n
    · subst hk
      obtain ⟨sl, hsl, hentry⟩ := recordAt_eq_some.1 hr
      obtain ⟨f, hentry', hf⟩ := hg sl hsl
      refine ⟨f r, recordAt_eq_some.2 ⟨g sl, by rw [hslot, if_pos rfl, hsl]; rfl, by rw [hentry', hentry]; rfl⟩, (hf r hentry).flags⟩
    · refine ⟨r, ?_, fun _ h => h⟩
      unfold recordAt at hr ⊢
      rw [hslot, if_neg hk]
      exact hr

theorem modifyRecord (h : s.Within t) (n : Nat) {f : Record → Record} (hf : ∀ r, t.recordAt n = some r → r.Within (f r)) :
    s.Within (t.modifyRecord n f) :=
  h.modifySlot n fun sl hsl => ⟨f, rfl, fun r hr => hf r (recordAt_eq_some.2 ⟨sl, hsl, hr⟩)⟩

/-- The write flags of a slot. -/
theorem modifyFlags (h : s.Within t) (n : Nat) {g : MirrorSlot → MirrorSlot} (hg : ∀ sl, (g sl).entry = sl.entry) : s.Within (t.modifySlot n g) :=
  h.modifySlot n fun sl _ => ⟨id, by rw [hg, MirrorEntry.mapRecord_id], fun r _ => .refl r⟩

theorem flagRecord (h : s.Within t) (n : Nat) (f : TakeFlag) : s.Within (t.flagRecord n f) := h.modifyRecord n fun r _ => .flag r f

theorem flagRecords (h : s.Within t) (f : TakeFlag) (l : List Nat) : s.Within (l.foldl (fun s n => s.flagRecord n f) t) := by
  induction l generalizing t with
  | nil => exact h
  | cons n l ih => exact ih (h.flagRecord n f)

/-- A slot joins the mirror. -/
theorem append (h : s.Within t) {sl : MirrorSlot} (hsl : s.RecordsFit → ∀ r ∈ sl.entry.record?, r.Fits) (k : Nat) :
    s.Within { t with journal := { mirror := t.journal.mirror ++ [sl], nextIndex := k } } := by
  have hgrows : t.FlagsGrow { t with journal := { mirror := t.journal.mirror ++ [sl], nextIndex := k } } := by
    intro m r hr
    refine ⟨r, ?_, fun _ h => h⟩
    obtain ⟨sl0, hsl0, hentry⟩ := recordAt_eq_some.1 hr
    refine recordAt_eq_some.2 ⟨sl0, ?_, hentry⟩
    unfold slotAt at hsl0 ⊢
    split at hsl0
    · cases hsl0
    · next hm =>
      rw [if_neg hm]
      exact List.getElem?_append_left (List.getElem?_eq_some_iff.1 hsl0).1 ▸ hsl0
  refine ⟨⟨h.intake, h.ring, h.anchor, fun hs => ?_, h.defects, h.writer⟩, fun m r hr => ?_⟩
  · have ht := h.records hs
    refine ⟨ht.1, ht.2.1, fun x hx r hr => ?_⟩
    rcases List.mem_append.1 hx with hx | hx
    · exact ht.2.2 x hx r hr
    · obtain rfl := List.mem_singleton.1 hx
      exact hsl hs r hr
  · obtain ⟨r1, hr1, h1⟩ := h.grows m r hr
    obtain ⟨r2, hr2, h2⟩ := hgrows m r1 hr1
    exact ⟨r2, hr2, fun f hf => h2 f (h1 f hf)⟩

/-- Another queue of at most 3 takes. -/
theorem ofQueue (h : s.Within t) {q : List QueueEntry} (hq : t.writer.queue.length ≤ maxQueue → q.length ≤ maxQueue) : s.Within (t.setQueue q) :=
  h.trans ⟨⟨id, id, id, id, id, hq⟩, fun _ r hr => ⟨r, hr, fun _ h => h⟩⟩

theorem grant (h : s.Within t) : s.Within t.grant := by
  have hgranted := t.grantedTo_grant
  have hmirror : ∀ sl' ∈ t.grant.journal.mirror, ∃ sl ∈ t.journal.mirror, ∃ g : Record → Record, (∀ r : Record, r.SameButDurable (g r))
      ∧ sl'.entry = sl.entry.mapRecord g := by
    intro sl' hsl'
    obtain ⟨i, hi, rfl⟩ := List.getElem_of_mem hsl'
    obtain ⟨g, hg, hslot⟩ := hgranted.slots (i + 1)
    have hat : t.grant.slotAt (i + 1) = some t.grant.journal.mirror[i] := by
      rw [slotAt, if_neg (Nat.succ_ne_zero i)]
      exact List.getElem?_eq_getElem hi
    rw [hat] at hslot
    obtain ⟨sl, hsl, hsame⟩ := Option.map_eq_some_iff.1 hslot.symm
    rw [slotAt, if_neg (Nat.succ_ne_zero i)] at hsl
    exact ⟨sl, List.mem_of_getElem? hsl, g, hg, by rw [← hsame]⟩
  refine h.trans ⟨⟨?_, ?_, ?_, fun ht => ⟨?_, ?_, fun sl' hsl' r' hr' => ?_⟩, ?_, ?_⟩, fun k r hr => ?_⟩
  iterate 2 rw [hgranted.frame]; exact id
  · rw [hgranted.frame]; exact id
  · rw [hgranted.frame]; exact ht.1
  · rw [hgranted.frame]; exact ht.2.1
  · obtain ⟨sl, hsl, g, hg, hentry⟩ := hmirror sl' hsl'
    rw [hentry] at hr'
    cases hentry0 : sl.entry with
    | unreadable => rw [hentry0] at hr'; cases hr'
    | record r =>
      rw [hentry0] at hr'
      cases hr'
      have hfits := ht.2.2 sl hsl r (by rw [hentry0]; rfl)
      rw [hg r]
      exact hfits
  · rw [hgranted.frame]; exact id
  · exact fun ht => hgranted.queue_length.trans_le ht
  · obtain ⟨r', hr', hsame⟩ := hgranted.recordAt hr
    refine ⟨r', hr', fun f hf => ?_⟩
    rw [hsame]
    exact hf

end State.Within

end Sys2Proof.Machine

/-! The shared operations keep every block within its limits. -/

namespace Sys2Proof.Machine

variable {s t u : State} {n : Nat}

theorem State.RecordsFit.at {r : Record} (h : s.RecordsFit) (hr : s.recordAt n = some r) : r.Fits := by
  obtain ⟨sl, hsl, hentry⟩ := recordAt_eq_some.1 hr
  unfold slotAt at hsl
  split at hsl
  · cases hsl
  · exact h.2.2 sl (List.mem_of_getElem? hsl) r (by rw [hentry]; rfl)

namespace State.Within

/-! ### Plain updates -/

theorem ask (h : s.Within t) (k : OpKind) (a : Nat) (b : Option (List Byte)) (f : Bool) : s.Within (t.ask k a b f) :=
  h.beside ⟨rfl, rfl, rfl, rfl, rfl, le_rfl, fun _ h => h⟩
theorem askNew (h : s.Within t) (k : OpKind) : s.Within (t.askNew k) := h.ask ..
theorem retry (h : s.Within t) (op : Op) : s.Within (t.retry op) := h.ask ..
theorem withdraw (h : s.Within t) (p : Op → Bool) : s.Within (t.withdraw p) := h.beside ⟨rfl, rfl, rfl, rfl, rfl, le_rfl, fun _ h => h⟩
theorem withLink (h : s.Within t) (l : Link) : s.Within { t with link := l } := h.beside ⟨rfl, rfl, rfl, rfl, rfl, le_rfl, fun _ h => h⟩
theorem withEngine (h : s.Within t) (e : Engine) : s.Within { t with engine := e } := h.beside ⟨rfl, rfl, rfl, rfl, rfl, le_rfl, fun _ h => h⟩
theorem queueState (h : s.Within t) : s.Within t.queueState := h.withLink _
theorem queueTransport (h : s.Within t) (b : TxBody) : s.Within (t.queueTransport b) := h.withLink _
theorem queueReport (h : s.Within t) (r : Report) : s.Within (t.queueReport r) := h.withLink _
theorem answer (h : s.Within t) (q : Request) (c : OutcomeClass) (d : Detail) (y : List Byte) : s.Within (t.answer q c d y) := h.withLink _
theorem finalReport (h : s.Within t) (w : Requester) (k : RequestKind) (c : OutcomeClass) (d : Detail) (y : List Byte) :
    s.Within (t.finalReport w k c d y) := h.withLink _
theorem announce (h : s.Within t) (s0 : State) : s.Within (State.announce s0 t) := by
  unfold State.announce
  split
  · exact h
  · exact h.queueState
theorem noteConflict (h : s.Within t) (f : Frame) : s.Within (t.noteConflict f) := by
  unfold State.noteConflict
  split
  · exact h.withLink _
  · exact h
theorem modifyEntry (h : s.Within t) (n : Nat) (f : QueueEntry → QueueEntry) : s.Within (t.modifyEntry n f) :=
  h.ofQueue fun hq => by rwa [List.length_map]
theorem dropEntry (h : s.Within t) (n : Nat) : s.Within (t.dropEntry n) := h.ofQueue fun hq => (List.length_filter_le _ _).trans hq
theorem setBuffer (h : s.Within t) (b : Nat) (x : Buffer) : s.Within (t.setBuffer b x) := h.beside ⟨rfl, rfl, rfl, rfl, rfl, le_rfl, fun _ h => h⟩
theorem fillBuffer (h : s.Within t) (b : Nat) (y : List Byte) : s.Within (t.fillBuffer b y) := by
  unfold State.fillBuffer
  split
  · exact h
  · exact h.setBuffer ..
theorem setTake (h : s.Within t) (x : TakeState) : s.Within (t.setTake x) := h.withEngine _
theorem setMedia (h : s.Within t) (x : MediaState) : s.Within (t.setMedia x) := h.beside ⟨rfl, rfl, rfl, rfl, rfl, le_rfl, fun _ h => h⟩
theorem setMount (h : s.Within t) (x : Mount) : s.Within (t.setMount x) := h.beside ⟨rfl, rfl, rfl, rfl, rfl, le_rfl, fun _ h => h⟩
theorem clearOpen (h : s.Within t) : s.Within t.clearOpen := h.withEngine _
theorem endHeaderWrite (h : s.Within t) : s.Within t.endHeaderWrite := h.beside ⟨rfl, rfl, rfl, rfl, rfl, le_rfl, fun _ h => h⟩
theorem endUnprepared (h : s.Within t) : s.Within t.endUnprepared := h.beside ⟨rfl, rfl, rfl, rfl, rfl, le_rfl, fun _ h => h⟩
theorem idleSlot (h : s.Within t) : s.Within t.idleSlot := h.beside ⟨rfl, rfl, rfl, rfl, rfl, le_rfl, fun _ h => by cases h⟩
theorem endWrite (h : s.Within t) (n : Nat) : s.Within (t.endWrite n) := h.modifyFlags n fun _ => rfl

/-- Entry to STANDBY applies a next-arm mask (R7), and leaves none. -/
theorem enterStandby (h : s.Within t) : s.Within t.enterStandby := by
  refine (h.ofIntake (i := { t.intake with armMask := t.intake.nextArm.getD t.intake.armMask, nextArm := none }) (fun hi => ?_) id id).withEngine _
  obtain ⟨h1, h2, h3, h4, -, h6⟩ := hi
  exact ⟨h1, h2, h3, h4, by simp, h6⟩

theorem refreshStation (h : s.Within t) : s.Within t.refreshStation := by
  unfold State.refreshStation
  split
  · split
    · exact h.enterStandby
    · exact h
  · split
    · exact h
    · exact h.setTake _
  · exact h
  · exact h

/-! ### The journal's writes -/

theorem askWrite (h : s.Within t) (n : Nat) : s.Within (t.askWrite n) := by
  unfold State.askWrite
  split
  · exact h
  · split
    · exact h
    · split
      · split
        · exact h.modifyFlags n fun _ => rfl
        · exact h
      · exact State.Within.askNew (h.modifyFlags n (g := fun sl => { sl with inFlight := true }) fun _ => rfl) _

theorem changeRecord (h : s.Within t) (n : Nat) : s.Within (t.changeRecord n) := by
  unfold State.changeRecord
  split
  · exact h
  · split
    · exact modifyFlags (h.flagRecord n .unsaved) n fun _ => rfl
    · split
      · split
        · exact h.modifyFlags n fun _ => rfl
        · exact h
      · exact h.askWrite n

theorem askCheckpoint (h : s.Within t) (n : Nat) : s.Within (t.askCheckpoint n) := by
  unfold State.askCheckpoint
  split
  · exact h.askWrite n
  · exact h

theorem askHeaderRewrite (h : s.Within t) : s.Within t.askHeaderRewrite := by
  unfold State.askHeaderRewrite
  split
  · exact h
  · split
    · split
      · exact h.beside ⟨rfl, rfl, rfl, rfl, rfl, le_rfl, fun _ h => h⟩
      · exact h
    · exact (h.beside (u := { t with media := { t.media with headerInFlight := true } }) ⟨rfl, rfl, rfl, rfl, rfl, le_rfl, fun _ h => h⟩).askNew _

theorem askWrites (h : s.Within t) (l : List Nat) : s.Within (l.foldl (fun s n => s.askWrite n) t) := by
  induction l generalizing t with
  | nil => exact h
  | cons n l ih => exact ih (h.askWrite n)

/-! ### Sealing, charging, closing, opening and splitting -/

theorem sealCurrent (h : s.Within t) (n : Nat) (l : Bool) : s.Within (t.sealCurrent n l) := by
  unfold State.sealCurrent
  split
  · exact h
  · split
    · exact h
    · split
      · exact h
      · next seg _ => exact (((h.setBuffer ..).modifyEntry n QueueEntry.afterSeal).modifyRecord n (f := (·.shortened seg)) fun r _ => .shortened seg r).askNew _

theorem askFinalIfDue (h : s.Within t) (n : Nat) : s.Within (t.askFinalIfDue n) := by
  unfold State.askFinalIfDue
  split
  · exact h.askWrite n
  · exact h

theorem finishIfDone (h : s.Within t) (n : Nat) : s.Within (t.finishIfDone n) := by
  unfold State.finishIfDone
  split
  · split
    · exact (h.sealCurrent n true).askFinalIfDue n
    · exact h
  · exact h

theorem chargeTake (h : s.Within t) (limit n : Nat) : s.Within (State.chargeTake limit t n) := by
  unfold State.chargeTake
  split
  · split
    · exact ((h.modifyRecord n fun r _ => .charge _ _ r).modifyEntry ..).finishIfDone n
    · exact h
  · exact h

theorem chargeAll (h : s.Within t) (limit : Nat) : s.Within (t.chargeAll limit) := by
  unfold State.chargeAll
  generalize t.writer.queue.map (·.index) = l
  induction l generalizing t with
  | nil => exact h
  | cons n l ih => exact ih (h.chargeTake limit n)

theorem trimMarkers (h : s.Within t) (n : Nat) : s.Within (t.trimMarkers n) := by
  unfold State.trimMarkers
  split
  · exact h
  · next r hr =>
    dsimp only
    split
    · exact h
    · refine State.Within.changeRecord (h.modifyRecord n fun r' hr' => ?_) n
      cases hr.symm.trans hr'
      exact (Record.Within.of_markers fun hfits => (List.length_filter_le _ _).trans hfits.1).trans (.flag _ _)

theorem closeTake (h : s.Within t) (n stop : Nat) : s.Within (t.closeTake n stop) :=
  ((h.modifyRecord n (f := fun r => { r with state := .closing, stop := some stop }) fun _ _ =>
    .of_same ⟨rfl, rfl, rfl, rfl, rfl, rfl⟩).trimMarkers n).finishIfDone n

theorem addTake (h : s.Within t) {r : Record} (hroom : t.writer.queue.length < maxQueue) (hr : s.RecordsFit → r.Fits) (w : Nat) :
    s.Within (t.addTake r w) := by
  unfold State.addTake
  refine State.Within.askWrite ?_ _
  refine State.Within.ofQueue (h.append (fun ht x hx => ?_) _) fun _ => ?_
  · cases hx
    exact hr ht
  · rw [List.length_append]
    exact hroom

theorem newRecord_fits (p : Profile) (k : TakeKey) (start : Nat) (flags : TakeFlags) (ht : t.RecordsFit) : (t.newRecord p k start flags).Fits := by
  refine ⟨Nat.zero_le _, Nat.zero_le _, ?_, Nat.zero_le _, ht.1⟩
  show 1 ≤ maxJoined
  decide

theorem slate_advance_fits {p : Slate} (h : p.Fits) (hn : p.number ≤ 999) : p.advance.Fits ∧ p.advance.number ≤ 999 := by
  refine ⟨⟨h.1, Nat.zero_le _⟩, ?_⟩
  unfold Slate.advance
  dsimp only
  split <;> omega

theorem withSlate (h : s.Within t) {sl : Slate} (hsl : t.slate.Fits → t.slate.number ≤ 999 → sl.Fits ∧ sl.number ≤ 999) : s.Within { t with slate := sl } :=
  h.trans ⟨⟨id, id, id, fun ht => ⟨(hsl ht.1 ht.2.1).1, (hsl ht.1 ht.2.1).2, ht.2.2⟩, id, id⟩, fun _ r hr => ⟨r, hr, fun _ h => h⟩⟩

theorem openTake (h : s.Within t) (hroom : t.writer.queue.length < maxQueue) (p : Profile) (k : TakeKey) (pt : Point) : s.Within (t.openTake p k pt) := by
  unfold State.openTake
  dsimp only
  generalize hrec : (if (takeStart t.intake.rate p.preRoll t.intake.position pt.position).1 < t.intake.oldestHeld then _ else _ : Record) = r
  have hfits : s.RecordsFit → r.Fits := fun hs => by
    rw [← hrec]
    split
    · exact (Record.Within.charge ..).fits (newRecord_fits _ _ _ _ (h.records hs))
    · exact newRecord_fits _ _ _ _ (h.records hs)
  have hadd := h.addTake hroom hfits (max (takeStart t.intake.rate p.preRoll t.intake.position pt.position).1 t.intake.oldestHeld)
  exact (State.Within.withSlate hadd slate_advance_fits).withEngine _

theorem doSplit (h : s.Within t) (hroom : t.writer.queue.length < maxQueue) (n x : Nat) : s.Within (t.doSplit n x) := by
  unfold State.doSplit
  split
  · exact h
  · next r hr =>
    dsimp only
    have hcut : s.Within (t.modifyRecord n (Record.splitOff x)) := h.modifyRecord n fun r _ =>
      Record.Within.trans (r' := { r with state := .closing, stop := some x }) (.of_same ⟨rfl, rfl, rfl, rfl, rfl, rfl⟩)
        (.of_markers fun hfits => (List.length_filter_le _ _).trans hfits.1)
    have hadd := hcut.addTake (r := (t.modifyRecord n (Record.splitOff x)).continuation r x (movedMarkers r x)) (by simpa using hroom) (fun hs => by
      obtain ⟨hmarkers, -, hjoined, -, hslate⟩ := (h.records hs).at hr
      refine ⟨?_, Nat.zero_le _, hjoined, Nat.zero_le _, hslate⟩
      show (movedMarkers r x).length ≤ maxMarkers
      rw [movedMarkers, List.length_map]
      exact (List.length_filter_le _ _).trans hmarkers) x
    refine State.Within.finishIfDone ?_ n
    split
    · exact State.Within.withEngine hadd _
    · exact State.Within.changeRecord (State.Within.changeRecord (State.Within.withEngine hadd _) _) _

end State.Within

end Sys2Proof.Machine

/-! Splits, allocation, abandonment and faults keep every block within its limits. -/

namespace Sys2Proof.Machine

variable {s t u : State} {n : Nat}

theorem insertDefect_sound {d : Defect} {l : List Defect} (h : defectsSound l) (hroom : l.length < maxDefects) : defectsSound (insertDefect d l) := by
  obtain ⟨hold, hnew, hsorted⟩ := insertDefect_spec (d := d) h.2
  refine ⟨?_, hsorted⟩
  by_cases hd : d.block ∈ l.map (·.block)
  · rw [hold hd]
    exact h.1
  · rw [(hnew hd).length_eq]
    exact hroom

namespace State.Within

/-- Another defect list in order. -/
theorem withMedia (h : s.Within t) {m : Media} (hm : defectsSound t.media.defects → defectsSound m.defects) : s.Within { t with media := m } :=
  h.trans ⟨⟨id, id, id, id, fun ht => ⟨hm ht.1, ht.2⟩, id⟩, fun _ r hr => ⟨r, hr, fun _ h => h⟩⟩

/-! ### Refused splits -/

theorem refuseSplit (h : s.Within t) (n x : Nat) : s.Within (t.refuseSplit n x) :=
  ((h.clearOpen.flagRecord ..).closeTake n x).enterStandby

theorem splitAt (h : s.Within t) (n x : Nat) : s.Within (t.splitAt n x) := by
  unfold State.splitAt
  split
  · next hroom =>
    simp only [splitAccepted, Bool.and_eq_true, decide_eq_true_eq] at hroom
    exact h.doSplit hroom.1 n x
  · exact h.refuseSplit n x

/-! ### Allocation, abandonment and faults -/

theorem allocate (h : s.Within t) {n : Nat} {run : Extent} {u : State} (hu : t.allocate n = some (run, u)) : s.Within u := by
  unfold State.allocate at hu
  split at hu
  · dsimp only at hu
    split at hu
    · cases hu
    · cases hu
      exact h.withMedia id
  · cases hu

theorem abandonTake (h : s.Within t) (f : TakeFlag) (n : Nat) : s.Within (State.abandonTake f t n) := by
  unfold State.abandonTake
  split
  · dsimp only
    have hgone := fun e : QueueEntry => (modifySlot (beside ((h.withdraw (t.writesOf n)).dropEntry n) (u := { (t.withdraw (t.writesOf n)).dropEntry n with
      writer := { ((t.withdraw (t.writesOf n)).dropEntry n).writer with
        buffers := Vector.ofFn fun i => (((t.withdraw (t.writesOf n)).dropEntry n).writer.buffers[i]).abandon n } })
        ⟨rfl, rfl, rfl, rfl, rfl, le_rfl, fun _ h => h⟩) n
        (g := fun sl => { sl with entry := sl.entry.mapRecord (·.abandon f e.durBytes), keptBytes := some e.durBytes })
        fun sl _ => ⟨(·.abandon f e.durBytes), rfl, fun r _ => .abandon f _ r⟩).changeRecord n
    split
    · exact (hgone _).clearOpen.setTake _
    · exact hgone _
  · exact h

theorem abandonTakes (h : s.Within t) (f : TakeFlag) (l : List Nat) : s.Within (l.foldl (State.abandonTake f) t) := by
  induction l generalizing t with
  | nil => exact h
  | cons n l ih => exact ih (h.abandonTake f n)

theorem cutFull (h : s.Within t) (n : Nat) : s.Within (t.cutFull n) := by
  unfold State.cutFull
  split
  · exact h
  · dsimp only
    split
    · exact ((h.clearOpen.setTake _).flagRecord ..).closeTake ..
    · exact (h.flagRecord ..).closeTake ..

theorem runRefused (h : s.Within t) (failing : Option Nat) : s.Within (t.runRefused failing) := by
  have hfull := h.setMedia .full
  unfold State.runRefused
  cases failing with
  | none =>
    dsimp only
    split
    · exact h.refreshStation
    · split
      · exact hfull.refreshStation
      · exact ((hfull.cutFull _).abandonTakes _ _).refreshStation
  | some n =>
    have hgone := hfull.abandonTake .mediaFull n
    dsimp only
    split
    · exact (h.abandonTake ..).refreshStation
    · split
      · exact hgone.refreshStation
      · split
        · exact (hgone.abandonTakes _ _).refreshStation
        · exact ((hgone.cutFull _).abandonTakes _ _).refreshStation

theorem growDefect (h : s.Within t) (b : Nat) : s.Within (t.growDefect b) := by
  unfold State.growDefect
  split
  · split
    · next hroom => exact (h.withMedia fun ht => insertDefect_sound ht hroom).askHeaderRewrite
    · split
      · exact h
      · exact (h.withMedia (m := { t.media with overflowed := true }) id).askHeaderRewrite
  · exact h

theorem discardWrite (h : s.Within t) (op : Op) : s.Within (t.discardWrite op) := by
  unfold State.discardWrite
  split
  · next n _ => exact (h.modifyFlags n (g := fun sl => { sl with inFlight := false, amend := false }) fun _ => rfl).flagRecord ..
  · exact h.withMedia id
  all_goals exact h

theorem discardWrites (h : s.Within t) : s.Within t.discardWrites := by
  unfold State.discardWrites
  have hw := h.withdraw fun op => op.kind.priority < 3
  revert hw
  generalize (t.withdraw fun op => op.kind.priority < 3) = u
  generalize t.port.waiting.filter _ = l
  intro hw
  induction l generalizing u with
  | nil => exact hw
  | cons op l ih => exact ih _ (hw.discardWrite op)

theorem abortRelease (h : s.Within t) : s.Within t.abortRelease := by
  unfold State.abortRelease
  split
  · exact h.idleSlot.finalReport ..
  all_goals exact h

theorem abortPreparation (h : s.Within t) : s.Within t.abortPreparation := by
  unfold State.abortPreparation
  split
  · exact h.idleSlot.finalReport ..
  · exact h.abortRelease
  all_goals exact h

theorem faultMedia (h : s.Within t) : s.Within t.faultMedia := by
  unfold State.faultMedia
  split
  · exact h.abortPreparation
  · exact ((((h.setMedia _).discardWrites).abandonTakes _ _).refreshStation.announce _).abortPreparation

/-! ### Completing and remapping segments -/

theorem reportCompletion (h : s.Within t) (n : Nat) : s.Within (t.reportCompletion n) := by
  unfold State.reportCompletion
  split
  · exact h.askWrite n
  · split
    · exact h
    · split
      · exact h.askCheckpoint n
      · exact h

theorem segmentDone (h : s.Within t) (b i : Nat) : s.Within (t.segmentDone b i) := by
  unfold State.segmentDone
  split
  · exact h
  · dsimp only
    split
    · exact h.setBuffer ..
    · split
      · exact ((h.setBuffer ..).modifyEntry ..).reportCompletion _
      · exact h.setBuffer ..

theorem remapRuns (fuel left segBlock room : Nat) (h : s.Within t) : s.Within (t.remapRuns fuel left segBlock room).2.2
    ∧ (t.remapRuns fuel left segBlock room).2.1.length ≤ room ∧ (t.remapRuns fuel left segBlock room).2.2.journal = t.journal := by
  induction fuel generalizing t left segBlock room with
  | zero => exact ⟨h, Nat.zero_le _, rfl⟩
  | succ fuel ih =>
    unfold State.remapRuns
    split
    · exact ⟨h, Nat.zero_le _, rfl⟩
    · split
      · exact ⟨h, Nat.zero_le _, rfl⟩
      · next run u hrun =>
        have hjournal : u.journal = t.journal := by
          unfold State.allocate at hrun
          split at hrun
          · dsimp only at hrun
            split at hrun
            · cases hrun
            · cases hrun
              rfl
          · cases hrun
        split
        · exact ⟨h.allocate hrun, Nat.zero_le _, hjournal⟩
        · next hroom =>
          obtain ⟨ih1, ih2, ih3⟩ := ih (t := u) (left - run.count) (segBlock + run.count) (room - 1) (h.allocate hrun)
          refine ⟨ih1, ?_, ih3.trans hjournal⟩
          show ((u.remapRuns fuel (left - run.count) (segBlock + run.count) (room - 1)).2.1.length + 1) ≤ room
          omega

theorem handOver (h : s.Within t) (b k : Nat) (l : List Piece) : s.Within (t.handOver b k l) := by
  induction l generalizing t k with
  | nil => exact h
  | cons _ l ih => exact ih (h.askNew _) _

/-- What the cutting of a failed range leaves of a list that fits, fits (R138, R141). -/
theorem cutRange_length {b last : Nat} {l : List Extent} (hl : l.length ≤ maxExtents) :
    ((cutRange b last l).1.before ++ (cutRange b last l).1.after).length ≤ maxExtents := by
  have hsplit : (l.takeWhile fun e => !e.holds b).length + (l.dropWhile fun e => !e.holds b).length = l.length := by
    rw [← List.length_append, List.takeWhile_append_dropWhile]
  unfold cutRange
  dsimp only
  split
  · simp only [List.append_nil]
    omega
  · next e rest hdrop =>
    rw [hdrop, List.length_cons] at hsplit
    dsimp only
    have hhead : (if e.first < b then [{ first := e.first, count := b - e.first : Extent }] else []).length ≤ 1 := by
      split <;> simp
    generalize (if e.first < b then [{ first := e.first, count := b - e.first : Extent }] else []) = head at *
    generalize (if last + 1 < e.first + e.count then _ else _ : List Extent) = tail
    split
    · simp only [List.length_append, List.nil_append]
      omega
    · next hlong =>
      simp only [decide_eq_true_eq] at hlong
      simp only [List.length_append]
      omega

theorem remapSegment (h : s.Within t) (b : Nat) (seg : Segment) (p : Piece) (bad : Nat) : s.Within (t.remapSegment b seg p bad) := by
  unfold State.remapSegment
  dsimp only
  split
  · exact h.growDefect bad
  · next r hr =>
    generalize hcutdef : cutRange bad (p.first + p.count - 1) r.extents = cut
    have hcutlen : r.Fits → (cut.1.before ++ cut.1.after).length ≤ maxExtents := fun hr => by
      rw [← hcutdef]
      exact cutRange_length hr.2.2.2.1
    generalize hkept : cut.1.before ++ cut.1.after = kept at hcutlen ⊢
    have hcut : s.Within ((t.growDefect bad).modifyRecord seg.take fun r => { r with extents := kept }) :=
      (h.growDefect bad).modifyRecord seg.take fun r' hr' => by
        cases hr.symm.trans hr'
        exact .of_extents hcutlen
    split
    · exact (hcut.abandonTake ..).refreshStation
    · obtain ⟨hruns, hlen, hjournal⟩ := remapRuns segmentBlocks (p.first + p.count - 1 + 1 - bad) (p.segBlock + (bad - p.first)) (maxExtents - kept.length) hcut
      have hrec : (((t.growDefect bad).modifyRecord seg.take fun r => { r with extents := kept }).remapRuns segmentBlocks
          (p.first + p.count - 1 + 1 - bad) (p.segBlock + (bad - p.first)) (maxExtents - kept.length)).2.2.recordAt seg.take
            = some { r with extents := kept } := by
        refine Eq.trans (b := ((t.growDefect bad).modifyRecord seg.take fun r => { r with extents := kept }).recordAt seg.take) ?_ ?_
        · unfold recordAt slotAt
          rw [hjournal]
        · rw [State.recordAt_modifyRecord, if_pos rfl, hr]
          rfl
      revert hruns hlen hrec
      generalize (((t.growDefect bad).modifyRecord seg.take fun r => { r with extents := kept }).remapRuns segmentBlocks
          (p.first + p.count - 1 + 1 - bad) (p.segBlock + (bad - p.first)) (maxExtents - kept.length)) = runs
      intro hruns hlen hrec
      have hentered : s.Within (runs.2.2.enterPieces seg.take cut.1 runs.2.1) := hruns.modifyRecord seg.take fun r' hr' => by
        cases hrec.symm.trans hr'
        refine .of_extents fun hfits => ?_
        have hkeptLen : kept.length ≤ maxExtents := hfits.2.2.2.1
        rw [← hkept] at hkeptLen hlen
        simp only [List.length_append, pieceExtents, List.length_map] at hkeptLen hlen ⊢
        omega
      split
      · exact (hruns.abandonTake ..).refreshStation
      · exact hentered.runRefused _
      · exact (hentered.setBuffer ..).handOver ..

theorem segmentFailed (h : s.Within t) (b i bad : Nat) : s.Within (t.segmentFailed b i bad) := by
  unfold State.segmentFailed
  split
  · exact h
  · split
    · exact h
    · dsimp only
      split
      · exact h.setBuffer ..
      · split
        · exact (h.setBuffer ..).faultMedia
        · exact ((h.setBuffer ..).remapSegment ..).announce _

/-! ### Drawing -/

theorem accountDraw (h : s.Within t) (n : Nat) (f : RingFrame) (w : Nat) : s.Within (t.accountDraw n f w) :=
  ((h.modifyRecord n fun r _ => .account f w r).modifyEntry ..).finishIfDone n

theorem openBuffer (h : s.Within t) (n b : Nat) (run : Extent) (offset room : Nat) (bytes : List Byte) :
    s.Within (t.openBuffer n b run offset room bytes) := by
  unfold State.openBuffer
  dsimp only
  split
  · exact (h.setBuffer ..).modifyEntry ..
  · exact (((h.fillBuffer ..).sealCurrent ..).setBuffer ..).modifyEntry ..

theorem enterRun_length {run : Extent} {l : List Extent} (hl : l.length ≤ maxExtents) (h : ¬ (maxExtents ≤ l.length ∧ mergesLast run l = false)) :
    (enterRun run l).length ≤ maxExtents := by
  unfold enterRun
  split
  · next hm =>
    have hne : l ≠ [] := by
      rintro rfl
      cases hm
    have := List.length_pos_iff.2 hne
    simp only [List.length_append, List.length_dropLast, List.length_singleton]
    omega
  · next hm =>
    rw [List.length_append, List.length_singleton]
    by_contra hlong
    exact h ⟨by omega, by simpa using hm⟩

theorem openAndDraw (h : s.Within t) (n b : Nat) (f : RingFrame) : s.Within (t.openAndDraw n b f) := by
  unfold State.openAndDraw
  split
  · next r e hr _ =>
    split
    · exact h.runRefused _
    · next run u hrun =>
      have hu := h.allocate hrun
      have hru : u.recordAt n = some r := by
        unfold State.allocate at hrun
        split at hrun
        · dsimp only at hrun
          split at hrun
          · cases hrun
          · cases hrun
            exact hr
        · cases hrun
      split
      · exact (hu.abandonTake ..).refreshStation
      · next hlong =>
        refine ((hu.modifyRecord n (f := fun r => { r with extents := enterRun run r.extents }) fun r' hr' => ?_).openBuffer ..).accountDraw ..
        cases hru.symm.trans hr'
        exact .of_extents fun hfits => enterRun_length hfits.2.2.2.1 hlong
  · exact h

theorem drawOpening (h : s.Within t) (r : Record) (e : QueueEntry) (f : RingFrame) : s.Within (t.drawOpening r e f) := by
  unfold State.drawOpening
  split
  · exact h
  · split
    · split
      · next hroom =>
        simp only [splitAccepted, Bool.and_eq_true, decide_eq_true_eq] at hroom
        exact (h.doSplit hroom.1 ..).openAndDraw ..
      · exact h.refuseSplit ..
    · exact h.openAndDraw ..

theorem drawFrame (h : s.Within t) : s.Within t.drawFrame := by
  unfold State.drawFrame
  split
  · exact h
  · split
    · exact h
    · split
      · exact h
      · split
        · split
          · exact (h.fillBuffer ..).accountDraw ..
          · exact h.drawOpening ..
        · exact h.drawOpening ..

end State.Within

end Sys2Proof.Machine

/-! What is read from the card is within the limits, and the card's operations, the journal's writes and the clock keep every block within them. -/

namespace Sys2Proof.Machine

variable {s t u : State} {n : Nat}

/-! ### What is read from the card (R105, R198) -/

theorem decodeHeader_defectsSound {capacity : Nat} {bs : List Byte} {hd : Header} (h : decodeHeader capacity bs = some hd) : defectsSound hd.defects := by
  unfold decodeHeader at h
  dsimp only at h
  split at h
  · next hvalid =>
    obtain ⟨p, -, rfl⟩ := Option.map_eq_some_iff.1 h
    obtain ⟨-, -, -, -, -, hcount, hblocks, -⟩ := hvalid
    refine ⟨?_, ?_⟩
    · simp only [defectsAtOffset, List.length_map, List.length_range]
      exact hcount
    · have hsorted := ((defectBlocksValid_iff _ _).1 hblocks).1
      rwa [List.map_map]
  · cases h

theorem entriesAt_length {α : Type} (f : Nat → α) (off size n : Nat) : (entriesAt f off size n).length = n := by
  simp [entriesAt]

theorem decodeRecord_fits {capacity : Nat} {bs : List Byte} {r : Record} (h : decodeRecord capacity bs = some r) : r.Fits := by
  unfold decodeRecord at h
  split at h
  · dsimp only at h
    simp only [Option.ite_none_right_eq_some, Option.some.injEq] at h
    obtain ⟨⟨-, hranges, -⟩, rfl⟩ := h
    simp only [recordRangesOk, Bool.and_eq_true, decide_eq_true_eq] at hranges
    have hslice (off k b : Nat) (hk : k ≤ b) : (slice bs off k).length ≤ b := (List.length_take_le _ _).trans hk
    refine ⟨?_, ?_, ?_, ?_, hslice _ _ _ ?_, hslice _ _ _ ?_⟩
    iterate 4 rw [entriesAt_length]; tauto
    iterate 2 tauto
  all_goals cases h

theorem classifySlot_fits {capacity generation k : Nat} {content : Option (List Byte)} {r : Record}
    (h : classifySlot capacity generation k content = .record r) : r.Fits := by
  unfold classifySlot at h
  split at h
  · cases h
  · split at h
    · cases h
    · split at h
      · cases h
      · next hdecode =>
        split at h
        · cases h
        · split at h
          · cases h
            exact decodeRecord_fits hdecode
          · cases h

namespace State.Within

/-! ### Profile load (R106) -/

theorem changeRate_sound {i : Intake} {r : SampleRate} {m : Word16} (h : i.Sound) : ({ i.changeRate r with armMask := m, nextArm := none } : Intake).Sound := by
  obtain ⟨hposition, hqualify, hwindow, hmeters, -, hquiet⟩ := h
  unfold Intake.changeRate
  split
  · exact ⟨hposition, hqualify, hwindow, hmeters, by simp, hquiet⟩
  · exact ⟨hposition, Nat.zero_le _, Nat.zero_le _, by simp, by simp, fun _ => ⟨by simp, rfl, by simp⟩⟩

theorem changeRate_kept (i : Intake) (r : SampleRate) : (i.changeRate r).ring = i.ring ∧ (i.changeRate r).position = i.position := by
  unfold Intake.changeRate
  split <;> exact ⟨rfl, rfl⟩

theorem loadTimecode_index (tc : Timecode) (r : SampleRate) (p : Profile) (k : Nat) (hk : k < positionLimit)
    (h : tc.anchorPosition < positionLimit ∧ tc.anchorIndex < tc.rate.perDay) :
    (loadTimecode tc r p k).anchorPosition < positionLimit ∧ (loadTimecode tc r p k).anchorIndex < (loadTimecode tc r p k).rate.perDay := by
  unfold loadTimecode
  split
  · exact h
  · refine ⟨hk, ?_⟩
    show 0 < p.frameRate.perDay
    cases p.frameRate <;> decide

theorem loadProfile (h : s.Within t) (p : Profile) : s.Within (t.loadProfile p) := by
  obtain ⟨hring, hposition⟩ := changeRate_kept t.intake p.rate
  refine h.trans ⟨⟨changeRate_sound, fun ht => ?_, fun ht => ?_, id, id, id⟩, fun _ r hr => ⟨r, hr, fun _ h => h⟩⟩
  · show ringCanonical (t.intake.changeRate p.rate).ring
    rw [hring]
    exact ht
  · obtain ⟨hpos, hanchor⟩ := ht
    refine ⟨?_, loadTimecode_index _ _ _ _ hpos hanchor⟩
    show (t.intake.changeRate p.rate).position < positionLimit
    rw [hposition]
    exact hpos

/-! ### The card -/

theorem askSlots (h : s.Within t) (first n : Nat) : s.Within (t.askSlots first n) := by
  unfold State.askSlots
  generalize (List.range n).map (first + ·) = l
  induction l generalizing t with
  | nil => exact h
  | cons k l ih => exact ih (h.askNew _)

theorem setCapacity (h : s.Within t) (blocks : Nat) : s.Within (t.setCapacity blocks) := by
  unfold State.setCapacity
  dsimp only
  have hcap : s.Within { t with media := { t.media with capacity := some (min blocks maxCapacity) } } := h.withMedia id
  split
  · exact hcap.endUnprepared
  · exact (hcap.setMount _).askNew _

theorem sizeEnded (h : s.Within t) (blocks : Option Nat) (op : Op) : s.Within (t.sizeEnded blocks op) := by
  unfold State.sizeEnded
  split
  · refine announce ?_ _
    split
    · exact h.setCapacity _
    · split
      · exact h.retry op
      · exact h.setCapacity _
  · exact h

theorem takeHeader (h : s.Within t) (hd : Header) (hdefects : defectsSound hd.defects) : s.Within (t.takeHeader hd) := by
  unfold State.takeHeader
  exact (loadProfile (h.withMedia fun _ => hdefects) _).askSlots ..

theorem judgeHeader (h : s.Within t) (block : Option (List Byte)) : s.Within (t.judgeHeader block) := by
  unfold State.judgeHeader
  split
  · exact h.endUnprepared
  · next hd hdecode =>
    obtain ⟨bs, -, hbs⟩ := Option.bind_eq_some_iff.1 hdecode
    exact h.takeHeader hd (decodeHeader_defectsSound hbs)

theorem headerReadEnded (h : s.Within t) (block : Option (List Byte)) (op : Op) : s.Within (t.headerReadEnded block op) := by
  unfold State.headerReadEnded
  split
  · refine announce ?_ _
    split
    · exact h.retry op
    · exact h.judgeHeader block
  · exact h

/-! ### Completions of journal and header writes -/

theorem closeFinal (h : s.Within t) (n : Nat) : s.Within (t.closeFinal n) := by
  unfold State.closeFinal
  split
  · exact h
  · split
    · exact (h.modifyRecord n (f := fun r => { r with state := .closed, digest := some (heldDigest (t.entryOf n)) }) fun _ _ =>
        .of_same ⟨rfl, rfl, rfl, rfl, rfl, rfl⟩).dropEntry n
    · exact h

theorem journalDone (h : s.Within t) (n : Nat) (op : Op) : s.Within (t.journalDone n op) := by
  unfold State.journalDone
  dsimp only
  have hdone := (h.endWrite n).modifyFlags n (g := fun sl => { sl with firstDone := true }) fun _ => rfl
  have hclosed : s.Within (if op.isFinal then
      ((t.endWrite n).modifySlot n fun sl => { sl with firstDone := true }).closeFinal n
      else (t.endWrite n).modifySlot n fun sl => { sl with firstDone := true }) := by
    split
    · exact hdone.closeFinal n
    · exact hdone
  revert hclosed
  generalize (if op.isFinal then _ else _ : State) = u
  intro hclosed
  split
  · split
    · exact hclosed.askWrite n
    · exact hclosed.flagRecord ..
  · exact hclosed

theorem dropWrite (h : s.Within t) (n : Nat) : s.Within (t.dropWrite n) := by
  unfold State.dropWrite
  split
  · exact (h.endWrite n).flagRecord ..
  · exact h.endWrite n

theorem failAfterFault (h : s.Within t) (op : Op) : s.Within (t.failAfterFault op) := by
  unfold State.failAfterFault
  split
  · exact h
  · exact h.abortRelease

theorem journalEnded (h : s.Within t) (ok : Bool) (op : Op) : s.Within (t.journalEnded ok op) := by
  unfold State.journalEnded
  split
  · split
    · exact h.journalDone ..
    · unfold State.journalFailed
      split
      · exact (h.dropWrite _).failAfterFault op
      · split
        · exact h.retry op
        · exact (h.dropWrite _).faultMedia
  · exact h

theorem headerWriteEnded (h : s.Within t) (ok : Bool) (op : Op) : s.Within (t.headerWriteEnded ok op) := by
  unfold State.headerWriteEnded
  split
  · split
    · exact h.endHeaderWrite.askHeaderRewrite
    · exact h.endHeaderWrite
  · split
    · exact h.endHeaderWrite.failAfterFault op
    · split
      · exact h.retry op
      · exact h.endHeaderWrite.faultMedia

theorem segmentEnded (h : s.Within t) (failed : Option Nat) (op : Op) : s.Within (t.segmentEnded failed op) := by
  unfold State.segmentEnded
  split
  · exact h.segmentDone ..
  · exact h.segmentFailed ..
  · exact h

/-! ### Preparing and releasing -/

theorem plan_of_preparingIn {phase : PreparePhase} {x : Requester × PreparePlan} (hx : t.preparingIn phase = some x) : x.2 ∈ t.verify.slot.plan := by
  unfold State.preparingIn at hx
  split at hx
  · next hslot =>
    split at hx
    · cases hx
      rw [hslot]
      rfl
    · cases hx
  all_goals cases hx

/-- A plan in order takes the slot. -/
theorem withPlan (h : s.Within t) (who : Requester) (plan : PreparePlan) (hplan : t.DefectsSound → defectsSound plan.defects) :
    s.Within (t.setVerify { t.verify with slot := .preparing who plan }) :=
  h.trans ⟨⟨id, id, id, id, fun ht => ⟨ht.1, fun p hp => by cases hp; exact hplan ht⟩, id⟩, fun _ r hr => ⟨r, hr, fun _ h => h⟩⟩

theorem setPhase (h : s.Within t) {phase : PreparePhase} {x : Requester × PreparePlan} (hx : t.preparingIn phase = some x) (phase' : PreparePhase) :
    s.Within (t.setPhase x.1 x.2 phase') := h.withPlan x.1 { x.2 with phase := phase' } fun ht => ht.2 x.2 (plan_of_preparingIn hx)

theorem prepareFailed (h : s.Within t) (op : Op) : s.Within (t.prepareFailed op) := by
  unfold State.prepareFailed
  split
  · exact h.retry op
  · exact h.faultMedia

theorem prepareHeaderEnded (h : s.Within t) (ok : Bool) (op : Op) : s.Within (t.prepareHeaderEnded ok op) := by
  unfold State.prepareHeaderEnded
  split
  · exact h
  · next hx =>
    split
    · exact (h.setPhase hx _).ask ..
    · exact h.prepareFailed op

theorem completeRelease (h : s.Within t) (who : Requester) : s.Within (t.completeRelease who) :=
  ((h.setMedia _).idleSlot.refreshStation.announce _).finalReport ..

theorem releaseIfDrained (h : s.Within t) : s.Within t.releaseIfDrained := by
  unfold State.releaseIfDrained
  split
  · split
    · exact h
    · exact h.completeRelease _
  all_goals exact h

/-! ### The clock and the events that fall due -/

theorem returnClock (h : s.Within t) : s.Within t.returnClock := by
  have hclock : s.Within { t with intake := { t.intake with clock := .running } } := h.ofIntake (fun hi => by
    obtain ⟨h1, h2, h3, h4, h5, -⟩ := hi
    exact ⟨h1, h2, h3, h4, h5, fun hlost => by cases hlost⟩) id id
  exact hclock.refreshStation.announce _

theorem clockReturnIfDue (h : s.Within t) : s.Within t.clockReturnIfDue := by
  unfold State.clockReturnIfDue
  split
  · exact h.returnClock
  · exact h

theorem meterIfDue (h : s.Within t) : s.Within t.meterIfDue := by
  unfold State.meterIfDue
  split
  · refine h.ofIntake (fun hi => ?_) id id
    obtain ⟨h1, h2, -, h4, h5, h6⟩ := hi
    refine ⟨h1, h2, Nat.zero_le _, fun k => ⟨(h4 k).2, by simp⟩, h5, fun hlost => ?_⟩
    obtain ⟨hlanes, -, hmeters⟩ := h6 hlost
    exact ⟨hlanes, rfl, fun k => ⟨(hmeters k).2, by simp⟩⟩
  · exact h

theorem tailIfDue (h : s.Within t) : s.Within t.tailIfDue := by
  unfold State.tailIfDue
  split
  · exact h
  · exact ((((h.clearOpen).closeTake ..).enterStandby).announce _).grant

theorem lengthIfDue (h : s.Within t) : s.Within t.lengthIfDue := by
  unfold State.lengthIfDue
  split
  · exact h
  · exact ((h.splitAt ..).announce _).grant

theorem settleDue (h : s.Within t) : s.Within t.settleDue := h.clockReturnIfDue.meterIfDue.tailIfDue.lengthIfDue

theorem loseClock (h : s.Within t) : s.Within t.loseClock := by
  have hlost : s.Within { t with intake := t.intake.loseClock } := h.ofIntake (fun hi => by
    obtain ⟨h1, -, -, -, h5, -⟩ := hi
    exact ⟨h1, Nat.zero_le _, Nat.zero_le _, by simp [Intake.loseClock], h5, fun _ => ⟨by simp [Intake.loseClock], rfl, by simp [Intake.loseClock]⟩⟩) id id
  refine grant (announce ?_ _)
  split
  · exact hlost.refreshStation
  · exact ((hlost.clearOpen.setTake _).flagRecord ..).closeTake ..

end State.Within

/-! ### A frame stored (R5, R11, R14) -/

theorem magnitude_le (v : Sample) : magnitude v ≤ maxMagnitude := by
  have h1 : -(2 ^ 23 : Int) ≤ v.toInt := by simpa using v.le_toInt
  have h2 : v.toInt < 2 ^ 23 := by simpa using v.toInt_lt
  unfold magnitude maxMagnitude
  omega

theorem RingFrame.level_le (f : RingFrame) (k : Fin 18) : f.level k ≤ maxMagnitude := by
  unfold level
  split
  · exact magnitude_le _
  · split <;> exact magnitude_le _

/-- The meter window has room for a frame (R11). -/
abbrev Intake.Metering (i : Intake) : Prop := i.windowCount < i.rate.tenth

theorem State.metering_meterIfDue (s : State) : s.meterIfDue.intake.Metering := by
  unfold meterIfDue
  split
  · show 0 < s.intake.rate.tenth
    cases s.intake.rate <;> decide
  · next h =>
    simpa [meterDue] using h

theorem State.metering_settleDue (s : State) : s.settleDue.intake.Metering := by
  have hmeter := s.clockReturnIfDue.metering_meterIfDue
  unfold settleDue
  generalize s.clockReturnIfDue.meterIfDue = t at hmeter
  have htail : t.tailIfDue.intake.Metering := by
    unfold tailIfDue
    split
    · exact hmeter
    · simpa [endTail, enterStandby] using hmeter
  generalize t.tailIfDue = u at htail
  unfold lengthIfDue
  split
  · exact htail
  · unfold splitLength splitAt
    split
    · simpa using htail
    · simpa [refuseSplit, enterStandby] using htail

theorem State.Within.storeFrame (h : s.Within t) (words : Vector (Option Sample) 16) (hclock : t.intake.clock = .running) (hmetering : t.intake.Metering) :
    s.Within (t.storeFrame words) := by
  rw [State.storeFrame_eq]
  have hcharged := h.chargeAll (t.intake.position + 1 - ringSlots)
  obtain ⟨j, p, w, hshape⟩ := t.chargeAll_shape (t.intake.position + 1 - ringSlots)
  generalize t.chargeAll (t.intake.position + 1 - ringSlots) = c at hcharged hshape
  have hintake : c.intake = t.intake := by rw [hshape]
  rw [← hintake] at hclock hmetering ⊢
  have hstored (q : Nat) (hq : q < positionLimit) : c.intake.Sound → ({ c.intake.store words with position := q } : Intake).Sound := by
    rintro ⟨-, h2, -, h4, h5, -⟩
    dsimp only [Intake.store, Intake.Sound]
    refine ⟨hq, h2, hmetering, fun k => ⟨(h4 k).1, ?_⟩, h5, fun hlost => ?_⟩
    · simp only [Fin.getElem_fin, Vector.getElem_ofFn]
      exact max_le (h4 k).2 (RingFrame.level_le _ _)
    · exact absurd (hclock.symm.trans hlost) (by decide)
  have hring : ringCanonical c.intake.ring → ringCanonical (c.intake.store words).ring :=
    ringCanonical_slotPut _ (Nat.mod_lt _ (by decide))
  generalize c.intake.store words = i at hstored hring
  unfold advancePosition
  dsimp only
  split
  · next hroom => exact hcharged.ofIntake (hstored _ hroom) hring fun _ => hroom
  · have hfree : (Config.positionPastTop c.freeDraws).toNat < positionLimit := (Config.positionPastTop c.freeDraws).isLt
    generalize (Config.positionPastTop c.freeDraws).toNat = q at hfree
    exact (hcharged.ofIntake (hstored q hfree) hring fun _ => hfree).beside ⟨rfl, rfl, rfl, rfl, rfl, le_rfl, fun _ h => h⟩

end Sys2Proof.Machine

/-! Rolls, cuts, notes, marks, requests and the verify unit keep every block within its limits. -/

namespace Sys2Proof.Machine

variable {s t u : State} {n : Nat}

/-! ### What a NOTE carries (R63, R64) -/

/-- The fields of a NOTE within their lengths. -/
structure NoteFields.Fit (fs : NoteFields) : Prop where
  scene : ∀ x ∈ fs.scene, x.length ≤ 8
  number : ∀ x ∈ fs.number, x ≤ 999
  text : ∀ x ∈ fs.text, x.length ≤ 64

theorem decodeNote_fit {bs : List Byte} {note : Note} (h : decodeNote bs = some note) : note.fields.Fit := by
  unfold decodeNote at h
  split at h
  · cases h
  · obtain ⟨target, -, h⟩ := Option.bind_eq_some_iff.1 h
    obtain ⟨fs, hfs, rfl⟩ := Option.map_eq_some_iff.1 h
    unfold noteFields at hfs
    obtain ⟨scene, -, hfs⟩ := Option.bind_eq_some_iff.1 hfs
    obtain ⟨number, -, hfs⟩ := Option.bind_eq_some_iff.1 hfs
    obtain ⟨circled, -, hfs⟩ := Option.bind_eq_some_iff.1 hfs
    obtain ⟨disposition, -, hfs⟩ := Option.bind_eq_some_iff.1 hfs
    obtain ⟨text, -, rfl⟩ := Option.map_eq_some_iff.1 hfs
    refine ⟨fun x hx => ?_, fun x hx => ?_, fun x hx => ?_⟩
    · obtain ⟨y, -, rfl⟩ := Option.map_eq_some_iff.1 hx
      exact List.length_take_le _ _
    · exact of_decide_eq_true (Option.filter_eq_some_iff.1 hx).2
    · obtain ⟨y, -, rfl⟩ := Option.map_eq_some_iff.1 hx
      exact List.length_take_le _ _

theorem mergeField_of {α : Type} {P : α → Prop} {st : SlateStamp} {new : Option α} {old : α × SlateStamp} (hnew : ∀ x ∈ new, P x) (hold : P old.1) :
    P (mergeField st new old).1 := by
  unfold mergeField
  split
  · exact hold
  · split
    · exact hnew _ rfl
    · exact hold

theorem mergeSlate_fits {st : SlateStamp} {fs : NoteFields} {sl : Slate} (hfs : fs.Fit) (hsl : sl.Fits) : (mergeSlate st fs sl).Fits :=
  ⟨mergeField_of (P := fun x : List Byte => x.length ≤ 8) hfs.scene hsl.1, mergeField_of (P := fun x : List Byte => x.length ≤ 64) hfs.text hsl.2⟩

theorem mergeSlate_number {st : SlateStamp} {fs : NoteFields} {sl : Slate} (hfs : fs.Fit) (hsl : sl.number ≤ 999) : (mergeSlate st fs sl).number ≤ 999 :=
  mergeField_of (P := (· ≤ 999)) hfs.number hsl

theorem insertMarker_length (m : Marker) (l : List Marker) : (insertMarker m l).length = l.length + 1 := by
  induction l with
  | nil => rfl
  | cons x l ih =>
    unfold insertMarker
    split <;> simp [ih]

namespace State.Within

/-! ### Rolls and cuts -/

theorem joinTake (h : s.Within t) (n : Nat) (k : TakeKey) : s.Within (t.joinTake n k) :=
  ((h.modifyRecord n fun r _ => .join k r).withEngine _).announce _

theorem refuseRoll (h : s.Within t) (r : RefusalReason) : s.Within (t.refuseRoll r) := (h.withEngine _).queueState

theorem actRoll (h : s.Within t) (k : TakeKey) (pt : Point) : s.Within (t.actRoll k pt) := by
  unfold State.actRoll
  split
  · exact h.joinTake ..
  · split
    · exact h.refuseRoll _
    · exact h
    · next hrefusal _ =>
      have hroom : t.writer.queue.length < maxQueue := by
        unfold State.refusalOf at hrefusal
        split at hrefusal
        · cases hrefusal
        · split at hrefusal
          · cases hrefusal
          · split at hrefusal
            · cases hrefusal
            · next hlt => exact Nat.lt_of_not_le hlt
      exact ((h.openTake hroom ..).announce _).grant

theorem takeRoll (h : s.Within t) (f : Frame) : s.Within (t.takeRoll f) := by
  unfold State.takeRoll
  dsimp only
  split
  · split
    · exact (h.withEngine _).actRoll ..
    · exact h.withEngine _
  · exact h

theorem lastHolderLeft (h : s.Within t) (n : Nat) (pt : Point) : s.Within (t.lastHolderLeft n pt) := by
  unfold State.lastHolderLeft
  split
  · dsimp only
    have hflagged := fun c : Bool => h.modifyRecord n (f := fun r => (r.pointFlags pt).flagIf c .stopClamped) fun r _ =>
      (Record.Within.pointFlags r pt).trans (.flagIf _ _ _)
    split
    · exact (hflagged _).withEngine _
    · exact ((hflagged _).clearOpen.closeTake ..).enterStandby
  · exact h

theorem holderLeaves (h : s.Within t) (n station : Nat) (pt : Point) : s.Within (t.holderLeaves n station pt) := by
  refine grant (announce ?_ _)
  split
  · exact (h.withEngine _).lastHolderLeft ..
  · exact h.withEngine _

theorem takeCut (h : s.Within t) (f : Frame) : s.Within (t.takeCut f) := by
  unfold State.takeCut
  split
  · exact h
  · split
    · exact h.holderLeaves ..
    · exact h

theorem takeState_ (h : s.Within t) (f : Frame) : s.Within (t.takeState_ f) := by
  unfold State.takeState_
  split
  · exact h
  · split
    · exact h.holderLeaves ..
    · exact h

theorem riseRoll (h : s.Within t) (edge : Nat) : s.Within (t.riseRoll edge) := ((h.withEngine _).queueTransport _).actRoll ..

theorem cutLocally (h : s.Within t) (edge : Nat) : s.Within (t.cutLocally edge) := by
  unfold State.cutLocally
  dsimp only
  have hqueued := h.queueTransport (.cut t.engine.ownRoll t.timecode.rate (t.labelAt edge))
  split
  · exact hqueued
  · split
    · exact hqueued.holderLeaves ..
    · exact hqueued

/-! ### Notes, marks and JAM -/

theorem noteTake (h : s.Within t) (st : SlateStamp) {fs : NoteFields} (hfs : fs.Fit) (n : Nat) : s.Within (t.noteTake st fs n) := by
  unfold State.noteTake
  split
  · exact h
  · next r hr =>
    dsimp only
    split
    · exact h
    · refine (h.modifyRecord n fun r' hr' => ?_).changeRecord n
      cases hr.symm.trans hr'
      exact .of_slate fun hfits => mergeSlate_fits hfs hfits.2.2.2.2

theorem takeNote (h : s.Within t) (f : Frame) : s.Within (t.takeNote f) := by
  unfold State.takeNote
  split
  · exact h
  · next hnote =>
    have hfs := decodeNote_fit hnote
    dsimp only
    split
    · exact h.withSlate fun hsl hn => ⟨mergeSlate_fits hfs hsl, mergeSlate_number hfs hn⟩
    · split
      · exact h
      · exact (h.noteTake _ hfs _).grant
    · split
      · exact h
      · exact (h.noteTake _ hfs _).grant

theorem insertMark (h : s.Within t) (n : Nat) (m : Marker) : s.Within (t.insertMark n m) := by
  unfold State.insertMark
  split
  · exact h
  · next r hr =>
    split
    · next hroom =>
      refine (h.modifyRecord n (f := fun r => { r with markers := insertMarker m r.markers }) fun r' hr' => ?_).changeRecord n
      cases hr.symm.trans hr'
      exact .of_markers fun _ => (insertMarker_length m _).trans_le hroom
    · split
      · exact h
      · exact (h.flagRecord ..).changeRecord n

theorem placeMark (h : s.Within t) (n kind origin : Nat) (pt : Point) : s.Within (t.placeMark n kind origin pt) := by
  unfold State.placeMark
  split
  · exact h
  · exact ((h.modifyRecord n fun r _ => .pointFlags r pt).insertMark ..).grant

theorem takeMark (h : s.Within t) (f : Frame) : s.Within (t.takeMark f) := by
  unfold State.takeMark
  split
  · exact h
  · split
    · exact h.placeMark ..
    · exact h

theorem pulseMark (h : s.Within t) (edge : Nat) : s.Within (t.pulseMark edge) := by
  unfold State.pulseMark
  dsimp only
  split
  · exact (h.withEngine _).queueTransport _
  · exact ((h.withEngine _).queueTransport _).placeMark ..

theorem takeJam (h : s.Within t) (f : Frame) : s.Within (t.takeJam f) := by
  unfold State.takeJam
  dsimp only
  split
  · next haccepted =>
    simp only [jamAccepted, Bool.and_eq_true] at haccepted
    exact h.trans ⟨⟨id, id, fun ht => ⟨ht.1, ht.1, indexOf_lt_perDay haccepted.2⟩, id, id, id⟩, fun _ r hr => ⟨r, hr, fun _ h => h⟩⟩
  · exact h

/-! ### Requests -/

theorem refuse (h : s.Within t) (q : Request) (d : Detail) : s.Within (t.refuse q d) := h.answer ..

theorem gated {carry : State → State} (h : s.Within t) (bar : Option Detail) (q : Request) (hc : s.Within (carry t)) : s.Within (t.gated bar q carry) := by
  unfold State.gated
  split
  · exact h.refuse ..
  · exact hc

theorem queryTake (h : s.Within t) (q : Request) : s.Within (t.queryTake q) := by
  refine h.gated _ q ?_
  unfold answerTake
  split
  · exact h.refuse ..
  · split
    · exact h.answer ..
    · split
      · exact h.refuse ..
      · split <;> exact h.answer ..

theorem searchJournal (h : s.Within t) (q : Request) : s.Within (t.searchJournal q) := by
  refine h.gated _ q ?_
  split
  · exact h.refuse ..
  · exact h.answer ..

theorem setArm (h : s.Within t) {m : Word16} (hm : m ≠ 0) : s.Within (t.setArm m) := by
  unfold State.setArm
  split
  · refine h.ofIntake (fun hi => ?_) id id
    obtain ⟨h1, h2, h3, h4, -, h6⟩ := hi
    exact ⟨h1, h2, h3, h4, by simpa using hm, h6⟩
  · refine h.ofIntake (fun hi => ?_) id id
    obtain ⟨h1, h2, h3, h4, -, h6⟩ := hi
    exact ⟨h1, h2, h3, h4, by simp, h6⟩

theorem arm (h : s.Within t) (q : Request) : s.Within (t.arm q) := by
  refine h.gated _ q ?_
  unfold applyArm
  split
  · exact h.refuse ..
  · next hm => exact (h.setArm hm).answer ..

theorem applyMix (h : s.Within t) (l : List MixEntry) : s.Within (t.applyMix l) := by
  have hmix : ∃ routing gain, l.foldl Intake.mixEntry t.intake = { t.intake with routing := routing, gain := gain } := by
    generalize t.intake = i
    induction l generalizing i with
    | nil => exact ⟨_, _, rfl⟩
    | cons e l ih => exact ih (i.mixEntry e)
  obtain ⟨routing, gain, hmix⟩ := hmix
  unfold State.applyMix
  rw [hmix]
  exact h.ofIntake id id id

theorem mix (h : s.Within t) (q : Request) : s.Within (t.mix q) := by
  refine h.gated _ q ?_
  split
  · exact h.refuse ..
  · exact (h.applyMix _).answer ..

/-! ### The verify unit -/

/-- The verify unit set anew, with no plan that it did not hold. -/
theorem setVerify (h : s.Within t) {v : Verify} (hv : v.slot.plan = none ∨ v.slot = t.verify.slot) : s.Within (t.setVerify v) := by
  refine h.beside ⟨rfl, rfl, rfl, rfl, rfl, le_rfl, fun p hp => ?_⟩
  rcases hv with hv | hv
  · rw [State.setVerify_verify, hv] at hp
    cases hp
  · rw [State.setVerify_verify, hv] at hp
    exact hp

theorem fillWindow (fuel : Nat) (h : s.Within t) : s.Within (t.fillWindow fuel) := by
  induction fuel generalizing t with
  | zero => exact h
  | succ fuel ih =>
    unfold State.fillWindow
    dsimp only
    split
    · exact ih ((h.askNew _).setVerify (.inr rfl))
    · exact h

theorem takePositions_slot (fuel : Nat) (v : Verify) : (v.takePositions fuel).slot = v.slot := by
  induction fuel generalizing v with
  | zero => rfl
  | succ fuel ih =>
    unfold Verify.takePositions
    split
    · exact ih _
    · exact ih _
    · rfl

theorem endVerify (h : s.Within t) (who : Requester) (n : Nat) : s.Within (t.endVerify who n) := by
  unfold State.endVerify
  dsimp only
  exact (((h.setVerify (v := t.verify.released) (.inl rfl)).modifyRecord n
    (f := fun r => { r with state := (t.verify.outcome ((t.recordAt n).bind (·.digest))).1 }) fun _ _ => .of_same ⟨rfl, rfl, rfl, rfl, rfl, rfl⟩).changeRecord n).finalReport ..

theorem advanceVerify (h : s.Within t) (who : Requester) (n : Nat) : s.Within (t.advanceVerify who n) := by
  unfold State.advanceVerify
  dsimp only
  have htaken := h.setVerify (v := t.verify.takePositions windowSize) (.inr (takePositions_slot _ _))
  split
  · exact htaken.endVerify ..
  · exact htaken.fillWindow _

theorem verifyReadEnded (h : s.Within t) (block : Option (List Byte)) (op : Op) : s.Within (t.verifyReadEnded block op) := by
  unfold State.verifyReadEnded
  split
  · split
    · unfold State.windowReadEnded
      split
      · refine advanceVerify (h.setVerify (.inr ?_)) ..
        rfl
      · split
        · exact (h.retry op).setVerify (.inr rfl)
        · refine advanceVerify (h.setVerify (.inr ?_)) ..
          rfl
    · exact h
  all_goals exact h

theorem verifyTake (h : s.Within t) (q : Request) : s.Within (t.verifyTake q) := by
  refine grant ?_
  unfold State.askVerify
  split
  · exact h.refuse ..
  · exact h
  · split
    · exact ((h.setVerify (.inl rfl)).answer ..).advanceVerify ..
    · exact h.answer ..

theorem preparePlan_sound {args : List Byte} {plan : PreparePlan} (hplan : t.preparePlan args = some plan) (ht : t.DefectsSound) :
    defectsSound plan.defects := by
  unfold State.preparePlan at hplan
  dsimp only at hplan
  split at hplan
  · next hvalid =>
    obtain ⟨p, -, rfl⟩ := Option.map_eq_some_iff.1 hplan
    refine ⟨hvalid.2, (foldl_insertDefect_spec _ ?_).2.1⟩
    exact ht.1.2.sublist (List.filter_sublist.map _)
  · cases hplan

theorem prepareMedia (h : s.Within t) (q : Request) : s.Within (t.prepareMedia q) := by
  unfold State.prepareMedia
  split
  · exact h.refuse ..
  · exact h.answer ..
  · exact h
  · split
    · exact h.refuse ..
    · next plan hplan => exact (h.withPlan q.requester plan (preparePlan_sound hplan)).answer ..

theorem releaseMedia (h : s.Within t) (q : Request) : s.Within (t.releaseMedia q) := by
  unfold State.releaseMedia
  split
  · exact h.refuse ..
  · exact h.answer ..
  · exact h.answer ..
  · exact ((h.setVerify (.inl rfl)).answer ..).releaseIfDrained

theorem abort (h : s.Within t) (q : Request) : s.Within (t.abort q) := by
  refine h.gated _ q ?_
  unfold applyAbort
  split
  · exact h.answer ..
  · exact (((h.withdraw _).setVerify (.inl rfl)).finalReport ..).answer ..
  · exact h.answer ..
  · exact h.answer ..

theorem takeUnknown (h : s.Within t) (f : Frame) : s.Within (t.takeUnknown f) := by
  unfold State.takeUnknown
  split
  · exact h.noteConflict f
  · split
    · exact h
    · exact (h.noteConflict f).refuse ..

theorem onFrame (h : s.Within t) (k : FrameKind) (owner : Frame → State → State) (w : Wire)
    (howner : ∀ (f : Frame) (t : State), s.Within t → s.Within (owner f t)) : s.Within (t.onFrame k owner w) := by
  unfold State.onFrame
  split
  · exact h
  · exact howner _ _ (h.noteConflict _)

theorem onRequest (h : s.Within t) (k : RequestKind) (carry : Request → State → State) (w : Wire)
    (hcarry : ∀ (q : Request) (t : State), s.Within t → s.Within (carry q t)) : s.Within (t.onRequest k carry w) := by
  unfold State.onRequest
  split
  · exact h
  · split
    · exact h
    · split
      · split
        · exact hcarry _ _ (h.noteConflict _)
        · exact (h.noteConflict _).refuse ..
      · exact h

theorem headLeaves (h : s.Within t) (trouble : Bool) (rest : List TxFrame) : s.Within (t.headLeaves trouble rest) := by
  unfold State.headLeaves State.payOwed
  dsimp only
  split
  · exact ((h.withLink _).withLink _).queueState
  · exact h.withLink _

end State.Within

end Sys2Proof.Machine

/-! Every step keeps every block within its limits: the scan and the other operations that take records from the mirror, and every command. -/

namespace Sys2Proof.Machine

variable {s t u : State} {n : Nat}

/-- A step within the limits of every block: a record leaves the mirror with its slot, or keeps every flag (R82). -/
structure State.Ends (s t : State) : Prop extends s.Limits t where
  ends : ∀ (k : Nat) (r : Record), s.recordAt k = some r →
    t.slotAt k = none ∨ ∃ r', t.recordAt k = some r' ∧ ∀ f : TakeFlag, hasFlag r.flags f = true → hasFlag r'.flags f = true

theorem State.Within.ends (h : s.Within t) : s.Ends t := ⟨h.toLimits, fun k r hr => .inr (h.grows k r hr)⟩

theorem State.Within.release (s : State) (id : Nat) : s.Within (s.release id) := .of_beside ⟨rfl, rfl, rfl, rfl, rfl, le_rfl, fun _ h => h⟩

theorem State.Within.withPending (s : State) (l : List Instr) : s.Within (s.withPending l) := .of_beside ⟨rfl, rfl, rfl, rfl, rfl, le_rfl, fun _ h => h⟩

namespace State.Ends

theorem refl (s : State) : s.Ends s := (State.Within.refl s).ends

theorem ite {p : Prop} [Decidable p] (ht : s.Ends t) (hu : s.Ends u) : s.Ends (if p then t else u) := by
  split
  · exact ht
  · exact hu

theorem after (h' : t.Ends u) (h : s.Within t) : s.Ends u := by
  refine ⟨h.toLimits.trans h'.toLimits, fun k r hr => ?_⟩
  obtain ⟨r1, hr1, h1⟩ := h.grows k r hr
  refine (h'.ends k r1 hr1).imp_right ?_
  rintro ⟨r2, hr2, h2⟩
  exact ⟨r2, hr2, fun f hf => h2 f (h1 f hf)⟩

/-- A step that brings no new slot follows. -/
theorem tail (h : s.Ends t) (h' : t.Within u) (hslots : ∀ k, t.slotAt k = none → u.slotAt k = none) : s.Ends u := by
  refine ⟨h.toLimits.trans h'.toLimits, fun k r hr => ?_⟩
  rcases h.ends k r hr with hnone | ⟨r1, hr1, h1⟩
  · exact .inl (hslots k hnone)
  · obtain ⟨r2, hr2, h2⟩ := h'.grows k r1 hr1
    exact .inr ⟨r2, hr2, fun f hf => h2 f (h1 f hf)⟩

theorem of_empty (h : s.Limits t) (hmirror : t.journal.mirror = []) : s.Ends t := by
  refine ⟨h, fun k r hr => .inl ?_⟩
  unfold slotAt
  rw [hmirror]
  split <;> rfl

theorem tail_journal (h : s.Ends t) (h' : t.Within u) (hjournal : u.journal = t.journal) : s.Ends u :=
  h.tail h' fun k hk => by
    unfold slotAt at hk ⊢
    rw [hjournal]
    exact hk

theorem announce (h : s.Ends t) (s0 : State) : s.Ends (State.announce s0 t) := h.tail_journal ((State.Within.refl t).announce s0) (by simp)

theorem grant (h : s.Ends t) : s.Ends t.grant := h.tail (State.Within.refl t).grant fun k hk => by
  obtain ⟨g, -, hslot⟩ := t.grantedTo_grant.slots k
  rw [hslot, hk]
  rfl

theorem complete (id : Nat) (p : OpKind → Bool) (act : Op → State → State) (h : ∀ (op : Op) (t : State), t.Ends (act op t)) : s.Ends (s.complete id p act) := by
  unfold State.complete
  split
  · exact .refl s
  · exact ((h _ _).after (.release s id)).grant

end State.Ends

/-! ### The scan (R95–R99) -/

theorem State.askWrites_kept (l : List Nat) (s : State) : (l.foldl (fun s n => s.askWrite n) s).media = s.media
    ∧ (l.foldl (fun s n => s.askWrite n) s).journal.mirror.length = s.journal.mirror.length := by
  induction l generalizing s with
  | nil => exact ⟨rfl, rfl⟩
  | cons n l ih =>
    obtain ⟨hmedia, hlength⟩ := ih (s.askWrite n)
    refine ⟨hmedia.trans (by simp), hlength.trans ?_⟩
    unfold askWrite
    split
    · rfl
    · split
      · rfl
      · split
        · split
          · exact State.mirror_length_modifySlot ..
          · rfl
        · exact State.mirror_length_modifySlot ..

theorem State.flagRecords_kept (f : TakeFlag) (l : List Nat) (s : State) : (l.foldl (fun s n => s.flagRecord n f) s).media = s.media
    ∧ (l.foldl (fun s n => s.flagRecord n f) s).journal.mirror.length = s.journal.mirror.length := by
  induction l generalizing s with
  | nil => exact ⟨rfl, rfl⟩
  | cons n l ih =>
    obtain ⟨hmedia, hlength⟩ := ih (s.flagRecord n f)
    exact ⟨hmedia.trans (by simp), hlength.trans (State.mirror_length_modifySlot ..)⟩

/-- The end of a mount ends the scan, and no slot joins or leaves the mirror (R97, R107). -/
theorem State.endMount_kept (s : State) : s.endMount.media.mount = .none ∧ s.endMount.journal.mirror.length = s.journal.mirror.length := by
  unfold endMount
  dsimp only
  split
  · obtain ⟨hmedia, hlength⟩ := ((s.recoverMirror.setMount .none).setMedia .writeProtected).flagRecords_kept .unsaved (openIndices s.journal.mirror)
    rw [hmedia, hlength]
    exact ⟨rfl, List.length_map _⟩
  · obtain ⟨hmedia, hlength⟩ := State.askWrites_kept (openIndices s.journal.mirror) (((s.recoverMirror.setMount .none).setMedia .ready).refreshStation)
    rw [hmedia, hlength]
    refine ⟨by simp [setMedia, setMount], ?_⟩
    simp [setMedia, setMount, recoverMirror]

theorem State.slotAt_none_of_length (h : u.journal.mirror.length ≤ t.journal.mirror.length) (k : Nat) (hk : t.slotAt k = none) : u.slotAt k = none := by
  unfold slotAt at hk ⊢
  split
  · rfl
  · next hne =>
    rw [if_neg hne, List.getElem?_eq_none_iff] at hk
    exact List.getElem?_eq_none (h.trans hk)

namespace State.Within

theorem recoverMirror (h : s.Within t) : s.Within t.recoverMirror := by
  refine h.trans ⟨⟨id, id, id, fun ht => ⟨ht.1, ht.2.1, fun sl' hsl' r' hr' => ?_⟩, id, id⟩, fun k r hr => ?_⟩
  · obtain ⟨sl, hsl, rfl⟩ := List.mem_map.1 hsl'
    cases hentry : sl.entry with
    | unreadable =>
      rw [hentry] at hr'
      cases hr'
    | record r =>
      rw [hentry] at hr'
      cases hr'
      exact (Record.Within.recover r).fits (ht.2.2 sl hsl r (by rw [hentry]; rfl))
  · obtain ⟨sl, hsl, hentry⟩ := recordAt_eq_some.1 hr
    refine ⟨r.recover, recordAt_eq_some.2 ⟨{ sl with entry := sl.entry.mapRecord Record.recover }, ?_, by rw [hentry]; rfl⟩, (Record.Within.recover r).flags⟩
    unfold slotAt at hsl ⊢
    split at hsl
    · cases hsl
    · next hne =>
      rw [if_neg hne]
      show (t.journal.mirror.map _)[k - 1]? = _
      rw [List.getElem?_map, hsl]
      rfl

theorem endMount (h : s.Within t) : s.Within t.endMount := by
  unfold State.endMount
  dsimp only
  split
  · exact ((h.recoverMirror.setMount _).setMedia _).flagRecords _ _
  · exact (((h.recoverMirror.setMount _).setMedia _).refreshStation).askWrites _

theorem enterSlot (h : s.Within t) {e : MirrorEntry} (he : ∀ r ∈ e.record?, r.Fits) : s.Within (t.enterSlot e) :=
  h.append (sl := MirrorSlot.loaded e) (fun _ => he) t.journal.nextIndex

theorem scanOn (h : s.Within t) (k last run : Nat) (results : List (Nat × Option (List Byte))) : s.Within (t.scanOn k last run results) := by
  unfold State.scanOn
  split
  · exact h.endMount
  · split
    · exact (h.setMount _).askSlots ..
    · exact h.setMount _

end State.Within

/-- The examination of a slot keeps the mirror's records, or ends the scan and drops the last UNREADABLE ones (R95, R96). -/
theorem State.examineSlot_ends (s : State) (k last run : Nat) (results : List (Nat × Option (List Byte))) (content : Option (List Byte)) :
    s.Within (s.examineSlot k last run results content)
      ∨ s.Ends (s.examineSlot k last run results content) ∧ (s.examineSlot k last run results content).media.mount = .none := by
  have h := State.Within.refl s
  unfold examineSlot
  split
  · exact .inl h.endMount
  · exact .inl h.endMount
  · next r hclass =>
    exact .inl ((h.enterSlot fun r' hr' => by cases hr'; exact classifySlot_fits hclass).scanOn ..)
  · split
    · refine .inr ⟨?_, (State.endMount_kept _).1⟩
      generalize hcut : ({ s with journal := { s.journal with mirror := s.journal.mirror.take (s.journal.mirror.length - run) } } : State) = c
      have hends : s.Ends c := by
        subst hcut
        refine ⟨⟨id, id, id, fun ht => ⟨ht.1, ht.2.1, fun sl hsl => ht.2.2 sl (List.mem_of_mem_take hsl)⟩, id, id⟩, fun j r hr => ?_⟩
        unfold recordAt slotAt at hr ⊢
        by_cases hj : j = 0
        · exact .inl (if_pos hj)
        · rw [if_neg hj] at hr ⊢
          dsimp only
          rw [List.getElem?_take]
          split
          · exact .inr ⟨r, hr, fun _ h => h⟩
          · exact .inl rfl
      exact hends.tail (State.Within.refl c).endMount (State.slotAt_none_of_length (State.endMount_kept c).2.le)
    · exact .inl ((h.enterSlot fun r' hr' => by cases hr').scanOn ..)

theorem State.examine_ends (fuel : Nat) (s : State) : s.Ends (s.examine fuel) := by
  induction fuel generalizing s with
  | zero => exact .refl s
  | succ fuel ih =>
    unfold examine
    split
    · split
      · exact .refl s
      · next next last run results _ _ x _ =>
        rcases s.examineSlot_ends next last run (results.filter fun y => y.1 != next) x.2 with h | ⟨h, hmount⟩
        · exact (ih _).after h
        · cases fuel with
          | zero => exact h
          | succ fuel =>
            unfold examine
            rw [hmount]
            exact h
    all_goals exact .refl s

theorem State.slotReadEnded_ends (content : Option (List Byte)) (op : Op) (s : State) : s.Ends (s.slotReadEnded content op) := by
  unfold slotReadEnded
  split
  · split
    · exact ((State.Within.refl s).retry op).ends
    · exact ((State.examine_ends _ _).after ((State.Within.refl s).setMount _)).announce _
  · exact .refl s

/-! ### Preparation, removal and reset -/

theorem State.prepared_ends {phase : PreparePhase} {x : Requester × PreparePlan} (hx : s.preparingIn phase = some x) : s.Ends (s.prepared x.2) := by
  unfold prepared
  have hcleared : s.Ends { s with
      journal := { mirror := [], nextIndex := 1 }
      media := { s.media with
        state := .ready, generation := some x.2.generation, defects := x.2.defects, overflowed := false
        headerInFlight := false, headerPending := false, cursor := some audioFirst } } :=
    .of_empty ⟨id, id, id, fun ht => ⟨ht.1, ht.2.1, fun sl hsl => by cases hsl⟩,
      fun ht => ⟨ht.2 x.2 (State.Within.plan_of_preparingIn hx), ht.2⟩, id⟩ rfl
  exact hcleared.tail_journal (((State.Within.refl _).loadProfile _).idleSlot.refreshStation) (by simp [loadProfile, idleSlot])

theorem State.prepareZeroEnded_ends (ok : Bool) (op : Op) (s : State) : s.Ends (s.prepareZeroEnded ok op) := by
  unfold prepareZeroEnded
  split
  · exact .refl s
  · next hx =>
    split
    · exact ((State.prepared_ends hx).announce s).tail_journal ((State.Within.refl _).finalReport ..) rfl
    · exact ((State.Within.refl s).prepareFailed op).ends

theorem State.removeCard_ends (s : State) : s.Ends s.removeCard := by
  have hdrop : s.Ends s.dropCard := .of_empty ⟨id, id, id, fun ht => ⟨ht.1, ht.2.1, fun sl hsl => by cases hsl⟩,
    fun _ => ⟨⟨Nat.zero_le _, .nil⟩, fun p hp => by cases hp⟩, fun _ => Nat.zero_le _⟩ rfl
  unfold removeCard reportRemoval
  split
  · exact hdrop.announce s
  all_goals exact (hdrop.announce s).tail_journal ((State.Within.refl _).finalReport ..) rfl

theorem State.resetWith_ends (straps : Straps) (s : State) : s.Ends (s.resetWith straps) := by
  obtain ⟨-, -, -, -, hintake, hring, hanchor, hrecords, hdefects, hwriter, -⟩ := resetStateIsSound
  exact .of_empty ⟨fun _ => hintake, fun _ => hring, fun _ => hanchor, fun _ => hrecords, fun _ => hdefects, fun _ => hwriter⟩ rfl

/-! ### Every command -/

theorem State.timedOut_ends (op : Op) (s : State) : s.Ends (s.timedOut op) := by
  have h := State.Within.refl s
  unfold timedOut
  split
  · exact (h.sizeEnded ..).ends
  · exact (h.headerReadEnded ..).ends
  · exact s.slotReadEnded_ends ..
  · exact (h.verifyReadEnded ..).ends
  · exact (h.journalEnded ..).ends
  · exact (h.headerWriteEnded ..).ends
  · exact (h.prepareHeaderEnded ..).ends
  · exact s.prepareZeroEnded_ends ..
  · exact (h.segmentFailed ..).ends

theorem State.Within.ite {p : Prop} [Decidable p] (ht : s.Within t) (hu : s.Within u) : s.Within (if p then t else u) := by
  split
  · exact ht
  · exact hu

theorem State.deferredProvisionalWrite_within (s : State) : s.Within (match s.deferredSlot with
    | none => s
    | some n =>
      let s1 := s.modifySlot n fun sl => { sl with held := false }
      (if s1.canWriteJournal then s1.askWrite n else s1.flagRecord n .unsaved).grant) := by
  have h := State.Within.refl s
  split
  · exact h
  · next n _ =>
    have hslot := h.modifyFlags n (g := fun sl => { sl with held := false }) fun _ => rfl
    exact (State.Within.ite (hslot.askWrite n) (hslot.flagRecord ..)).grant

theorem State.prepareHeaderWriteAsk_within (s : State) : s.Within (match s.preparingIn .waiting with
    | none => s
    | some x =>
      if s.writesPending then s
      else ((s.setPhase x.1 x.2 .header).ask .prepareHeader 1 (some (headerBlock x.2.header)) false).grant) := by
  have h := State.Within.refl s
  split
  · exact h
  · next hx => exact .ite h (((h.setPhase hx _).ask ..).grant)

/-- The attempts of the head change the link controller and the refusal notice alone. -/
theorem State.attemptStart_within (s : State) : s.Within (match s.link.queue with
    | [] => s
    | f :: rest => if f.phase = .idle then ({ s with link := s.link.beginAttempt f rest } : State).clearNotice f else s) := by
  have h := State.Within.refl s
  split
  · exact h
  · refine .ite ?_ h
    exact .ite ((h.withLink _).withEngine _) (h.withLink _)

theorem State.transmitComplete_within (s : State) : s.Within (match s.link.queue with
    | [] => s
    | f :: rest => if f.phase = .attempting then s.headLeaves false rest else s) := by
  have h := State.Within.refl s
  split
  · exact h
  · exact .ite (h.headLeaves ..) h

theorem State.collision_within (s : State) : s.Within (match s.link.queue with
    | [] => s
    | f :: rest =>
      if f.phase = .attempting then
        (if f.attempts < maxSendAttempts then { s with link := s.link.backOff f rest } else s.headLeaves true rest)
      else s) := by
  have h := State.Within.refl s
  split
  · exact h
  · exact .ite (.ite (h.withLink _) (h.headLeaves ..)) h

theorem State.backoffComplete_within (s : State) : s.Within (match s.link.queue with
    | [] => s
    | f :: rest => if f.inBackoff then { s with link := { s.link with queue := { f with phase := .idle } :: rest } } else s) := by
  have h := State.Within.refl s
  split
  · exact h
  · exact .ite (h.withLink _) h

theorem State.frameStore_within (interval : Nat) (words : Vector (Option Sample) 16) (s : State) :
    s.Within (if s.settleDue.intake.clock = .running ∧ periodValid s.settleDue.intake.rate interval = true then
      (s.settleDue.storeFrame words).grant else s) := by
  have h := State.Within.refl s
  split
  · next hrunning => exact (h.settleDue.storeFrame words hrunning.1 s.metering_settleDue).grant
  · exact h

theorem State.qualifyingPeriod_within (interval : Nat) (s : State) : s.Within (if s.intake.clock = .lost ∧ s.intake.qualification < qualifyCount then
      { s with intake := { s.intake with
          qualification := if periodValid s.intake.rate interval then s.intake.qualification + 1 else 0 } }
    else s) := by
  have h := State.Within.refl s
  split
  · next hbelow =>
    refine h.ofIntake (fun hi => ?_) id id
    obtain ⟨h1, -, h3, h4, h5, h6⟩ := hi
    refine ⟨h1, ?_, h3, h4, h5, h6⟩
    dsimp only
    split
    · exact hbelow.2
    · exact Nat.zero_le _
  · exact h

/-- Every command keeps every block within its limits, and takes a flag from a record only with its slot. -/
theorem exec_ends (c : Instr) (s : State) : ∃ t, exec c s = .next t ∧ s.Ends t := by
  have h := State.Within.refl s
  cases c with
  | reset straps => exact ⟨_, rfl, s.resetWith_ends straps⟩
  | frameStore interval words => exact ⟨_, rfl, (s.frameStore_within interval words).ends⟩
  | clockLoss why => exact ⟨_, rfl, (State.Within.ite h.clockReturnIfDue.loseClock h).ends⟩
  | qualifyingPeriod interval => exact ⟨_, rfl, (s.qualifyingPeriod_within interval).ends⟩
  | clockReturn => exact ⟨_, rfl, h.clockReturnIfDue.ends⟩
  | meterWindowComplete => exact ⟨_, rfl, h.meterIfDue.ends⟩
  | tailEnd => exact ⟨_, rfl, h.tailIfDue.ends⟩
  | lengthSplit => exact ⟨_, rfl, h.lengthIfDue.ends⟩
  | frameDraw => exact ⟨_, rfl, (h.drawFrame.announce s).grant.ends⟩
  | roll w => exact ⟨_, rfl, (h.onFrame _ _ w fun f t ht => ht.takeRoll f).ends⟩
  | cut w => exact ⟨_, rfl, (h.onFrame _ _ w fun f t ht => ht.takeCut f).ends⟩
  | state w => exact ⟨_, rfl, (h.onFrame _ _ w fun f t ht => ht.takeState_ f).ends⟩
  | mark w => exact ⟨_, rfl, (h.onFrame _ _ w fun f t ht => ht.takeMark f).ends⟩
  | note w => exact ⟨_, rfl, (h.onFrame _ _ w fun f t ht => ht.takeNote f).ends⟩
  | jam w => exact ⟨_, rfl, (h.onFrame _ _ w fun f t ht => ht.takeJam f).ends⟩
  | reportReceived w => exact ⟨_, rfl, (h.onFrame _ _ w fun f t ht => ht).ends⟩
  | receiveFilterDiscard w => exact ⟨_, rfl, .refl s⟩
  | queryStatus w => exact ⟨_, rfl, (h.onRequest _ _ w fun q t ht => ht.answer ..).ends⟩
  | queryMeters w => exact ⟨_, rfl, (h.onRequest _ _ w fun q t ht => ht.gated _ q (ht.answer ..)).ends⟩
  | queryTake w => exact ⟨_, rfl, (h.onRequest _ _ w fun q t ht => ht.queryTake q).ends⟩
  | searchJournal w => exact ⟨_, rfl, (h.onRequest _ _ w fun q t ht => ht.searchJournal q).ends⟩
  | arm w => exact ⟨_, rfl, (h.onRequest _ _ w fun q t ht => ht.arm q).ends⟩
  | mix w => exact ⟨_, rfl, (h.onRequest _ _ w fun q t ht => ht.mix q).ends⟩
  | verifyTake w => exact ⟨_, rfl, (h.onRequest _ _ w fun q t ht => ht.verifyTake q).ends⟩
  | prepareMedia w => exact ⟨_, rfl, (h.onRequest _ _ w fun q t ht => ht.prepareMedia q).ends⟩
  | releaseMedia w => exact ⟨_, rfl, (h.onRequest _ _ w fun q t ht => ht.releaseMedia q).ends⟩
  | abort w => exact ⟨_, rfl, (h.onRequest _ _ w fun q t ht => ht.abort q).ends⟩
  | rollLineRise edge => exact ⟨_, rfl, (State.Within.ite (h.riseRoll edge) h).ends⟩
  | rollLineFall edge => exact ⟨_, rfl, (State.Within.ite (.ite ((h.withEngine _).cutLocally edge) (h.withEngine _)) h).ends⟩
  | markPulse edge => exact ⟨_, rfl, (State.Within.ite (h.pulseMark edge) h).ends⟩
  | cardInsertion wprot =>
    refine ⟨_, rfl, (State.Within.ite (State.Within.grant (State.Within.announce (State.Within.askNew ?_ _) s)) h).ends⟩
    exact h.withMedia (m := { s.media with state := .mounting, protectMark := wprot, mount := .sizing }) id
  | cardRemoval => exact ⟨_, rfl, .ite (.refl s) s.removeCard_ends⟩
  | sizeReadComplete op blocks => exact ⟨_, rfl, .complete _ _ _ fun _ t => ((State.Within.refl t).sizeEnded ..).ends⟩
  | headerReadComplete op block => exact ⟨_, rfl, .complete _ _ _ fun _ t => ((State.Within.refl t).headerReadEnded ..).ends⟩
  | slotReadComplete op block => exact ⟨_, rfl, .complete _ _ _ fun _ t => t.slotReadEnded_ends ..⟩
  | journalWriteComplete op ok => exact ⟨_, rfl, .complete _ _ _ fun _ t => ((State.Within.refl t).journalEnded ..).ends⟩
  | deferredProvisionalWrite => exact ⟨_, rfl, s.deferredProvisionalWrite_within.ends⟩
  | headerWriteComplete op ok => exact ⟨_, rfl, .complete _ _ _ fun _ t => ((State.Within.refl t).headerWriteEnded ..).ends⟩
  | segmentWriteComplete op failed =>
    exact ⟨_, rfl, .ite (.complete _ _ _ fun _ t => ((State.Within.refl t).segmentEnded ..).ends) (.refl s)⟩
  | operationTimeout op => exact ⟨_, rfl, .complete _ _ _ fun op t => t.timedOut_ends op⟩
  | prepareHeaderWriteAsk => exact ⟨_, rfl, s.prepareHeaderWriteAsk_within.ends⟩
  | prepareHeaderWriteComplete op ok => exact ⟨_, rfl, .complete _ _ _ fun _ t => ((State.Within.refl t).prepareHeaderEnded ..).ends⟩
  | prepareZeroWriteComplete op ok => exact ⟨_, rfl, .complete _ _ _ fun _ t => t.prepareZeroEnded_ends ..⟩
  | releaseComplete => exact ⟨_, rfl, h.releaseIfDrained.ends⟩
  | verifyReadComplete op block => exact ⟨_, rfl, .complete _ _ _ fun _ t => ((State.Within.refl t).verifyReadEnded ..).ends⟩
  | initialState => exact ⟨_, rfl, (State.Within.ite (h.withLink _).queueState h).ends⟩
  | transmitAttemptStart => exact ⟨_, rfl, s.attemptStart_within.ends⟩
  | transmitComplete => exact ⟨_, rfl, s.transmitComplete_within.ends⟩
  | collision => exact ⟨_, rfl, s.collision_within.ends⟩
  | backoffComplete => exact ⟨_, rfl, s.backoffComplete_within.ends⟩
  | unknownRequest w =>
    refine ⟨_, rfl, ?_⟩
    split
    · exact .refl s
    · exact (h.takeUnknown _).ends
  | lineLevelAdopted line level =>
    refine ⟨_, rfl, ?_⟩
    split <;> exact (State.Within.ite (h.withEngine _) h).ends

theorem step_ends (h : step s = .next t) : s.Ends t := by
  unfold step at h
  split at h
  · cases h
    exact .refl s
  · next c rest _ =>
    obtain ⟨t', hexec, hends⟩ := exec_ends c (s.withPending rest)
    cases hexec.symm.trans h
    exact hends.after (.withPending s rest)

/-- Settles O58: every operation keeps each block within its limits, and takes a flag from a record only with the record's slot. -/
theorem stepKeepsEveryBlockWithinItsLimits : Obligations.StepKeepsEveryBlockWithinItsLimits := by
  refine ⟨fun s t h => ⟨(step_ends h).intake, (step_ends h).ring, (step_ends h).anchor⟩,
    fun s t h => ⟨(step_ends h).records, (step_ends h).defects, (step_ends h).writer⟩, fun s t h n r r' f hr hr' hf => ?_⟩
  rcases (step_ends h).ends n r hr with hnone | ⟨r1, hr1, h1⟩
  · unfold State.recordAt at hr'
    rw [hnone] at hr'
    cases hr'
  · cases hr1.symm.trans hr'
    exact h1 f hf

end Sys2Proof.Machine

/-! The outline of a state: what the coherence of the blocks (R37, R38, R83, R84, R107, R116, R123, R145, R148) is about, and nothing more. -/

namespace Sys2Proof.Machine

/-- What the outline keeps of a mirror slot: index and state of its record, and whether it keeps bytes of an abandoned take. -/
structure Shape where
  record : Option (Nat × RecordState)
  kept : Bool

def Record.shape (r : Record) : Nat × RecordState := (r.index, r.state)

def MirrorSlot.shape (sl : MirrorSlot) : Shape := ⟨sl.entry.record?.map Record.shape, sl.keptBytes.isSome⟩

/-- The outline of a state. -/
structure Outline where
  take : TakeState
  openTake : Option Nat
  tailed : Bool
  holders : List TakeKey
  clock : ClockState
  media : MediaState
  mount : Mount
  profiled : Bool
  slots : List Shape
  nextIndex : Nat
  queue : List Nat
  long : LongOp

def State.outline (s : State) : Outline where
  take := s.engine.takeState
  openTake := s.engine.openTake
  tailed := s.engine.pendingStop.isSome
  holders := s.engine.holders
  clock := s.intake.clock
  media := s.media.state
  mount := s.media.mount
  profiled := s.media.profile.isSome
  slots := s.journal.mirror.map MirrorSlot.shape
  nextIndex := s.journal.nextIndex
  queue := s.writer.queue.map (·.index)
  long := s.verify.slot

namespace Outline

variable (o : Outline)

def shapeAt (n : Nat) : Option Shape := if n = 0 then none else o.slots[n - 1]?

/-- The state of the record of a take index. -/
def stateAt (n : Nat) : Option RecordState := ((o.shapeAt n).bind (·.record)).map (·.2)

def modifyShape (n : Nat) (h : Shape → Shape) : Outline := { o with slots := if n = 0 then o.slots else o.slots.modify (n - 1) h }

def Shape.setState (x : RecordState) (sh : Shape) : Shape := { sh with record := sh.record.map fun y => (y.1, x) }

def setState (n : Nat) (x : RecordState) : Outline := o.modifyShape n (Shape.setState x)

def clearOpen : Outline := { o with openTake := none, tailed := false, holders := [] }

def usable : Bool := o.media == .ready && o.clock == .running

/-- R38. -/
def refresh : Outline :=
  match o.take with
  | .offline => if o.usable then { o with take := .standby } else o
  | .standby => if o.usable then o else { o with take := .offline }
  | .rolling => o
  | .tail => o

/-! ### Coherence of an outline -/

/-- R37, R44, R46. -/
structure EngineOk : Prop where
  opened : o.openTake.isSome = true ↔ o.take = .rolling ∨ o.take = .tail
  tailed : o.tailed = true ↔ o.take = .tail
  holders : (o.holders.map (·.origin)).Pairwise (· < ·)

/-- R84, R95, R97, R102, R107. -/
structure MountOk : Prop where
  mounting : o.mount = .none ↔ o.media ≠ .mounting
  empty : o.media = .absent ∨ o.mount = .sizing ∨ o.mount = .header → o.slots = []
  scanning : ∀ next ∈ o.mount.scanning, o.slots.length + 1 = next ∧ next ≤ journalSlots ∧ ∀ sh ∈ o.slots, sh.kept = false
  next : o.mount.scanning = none → o.slots.length + 1 = o.nextIndex ∧ o.nextIndex ≤ journalSlots + 1
  idle : o.media = .absent ∨ o.media = .mounting → o.long = .idle

/-- R37, R80, R84, R123. -/
structure QueueOk : Prop where
  ascending : o.queue.Pairwise (· < ·)
  below : ∀ i ∈ o.queue, i < o.nextIndex
  states : ∀ i ∈ o.queue, ∃ x, o.stateAt i = some x ∧ (x = .opened ∨ x = .closing) ∧ (x = .opened ↔ o.openTake = some i)
  openQueued : ∀ n, o.openTake = some n → n ∈ o.queue

/-- R38, R116, R123, R145, R148. -/
structure StationOk : Prop where
  offline : o.take = .offline ↔ ¬ (o.media = .ready ∧ o.clock = .running)
  carded : o.media ≠ .ready ∧ o.media ≠ .full → o.queue = []
  blocked : o.long.blocksJournal = true → o.queue = []
  verified : ∀ n, o.long.index = some n → ∃ x, o.stateAt n = some x ∧ x ≠ .opened ∧ x ≠ .closing

structure Ok : Prop where
  engine : o.EngineOk
  mount : o.MountOk
  queue : o.QueueOk
  station : o.StationOk

/-- R37, R106, R107. -/
structure HoldersOk : Prop where
  holders : o.holders ≠ [] ↔ o.take = .rolling
  profiled : o.media = .ready ∨ o.mount.scanning.isSome = true → o.profiled = true

/-- R83. -/
def Indexed : Prop := ∀ n x, (o.shapeAt n).bind (·.record) = some x → x.1 = n

end Outline

/-! ### Coherence of a state, by its outline -/

variable {s t : State} {n : Nat}

theorem State.shapeAt_outline (s : State) (n : Nat) : s.outline.shapeAt n = (s.slotAt n).map MirrorSlot.shape := by
  unfold Outline.shapeAt slotAt outline
  split
  · rfl
  · rw [List.getElem?_map]

theorem State.recordShape_outline (s : State) (n : Nat) : (s.outline.shapeAt n).bind (·.record) = (s.recordAt n).map Record.shape := by
  rw [State.shapeAt_outline]
  unfold recordAt
  cases s.slotAt n <;> rfl

theorem State.stateAt_outline (s : State) (n : Nat) : s.outline.stateAt n = (s.recordAt n).map (·.state) := by
  unfold Outline.stateAt
  rw [State.recordShape_outline, Option.map_map]
  rfl

/-- A card with its journal in reach: neither no card nor one being scanned. -/
def MediaState.Carded (m : MediaState) : Prop := m ≠ .absent ∧ m ≠ .mounting

/-- Only reads stand at the port. -/
def Port.ReadsOnly (p : Port) : Prop := ∀ op ∈ p.waiting ++ p.outstanding, op.kind.priority = 3

theorem State.coherent_iff (s : State) : s.Coherent ↔ s.outline.Ok ∧ (s.media.state.Carded ∨ s.port.ReadsOnly) := by
  have hcard : (s.media.state.Carded ∨ s.port.ReadsOnly) ↔ (s.media.state = .absent ∨ s.media.state = .mounting → s.port.ReadsOnly) := by
    unfold MediaState.Carded
    tauto
  rw [hcard]
  constructor
  · rintro ⟨⟨h1, h2, h3⟩, ⟨m1, m2, m3, m4, m5⟩, ⟨q1, q2, q3⟩, st1, st2, st3, st4⟩
    refine ⟨⟨⟨h1, h2, h3⟩, ⟨m1, fun h => ?_, fun next hn => ?_, fun h => ?_, fun h => (m5 h).1⟩, ⟨q1, ?_, ?_, ?_⟩, ⟨st1, fun h => ?_, fun h => ?_, fun n hn => ?_⟩⟩, fun h => (m5 h).2⟩
    · show s.journal.mirror.map _ = []
      rw [m2 h]
      rfl
    · obtain ⟨hlen, hle, hkept⟩ := m3 next hn
      refine ⟨by simpa [outline] using hlen, hle, fun sh hsh => ?_⟩
      obtain ⟨sl, hsl, rfl⟩ := List.mem_map.1 hsh
      simp [MirrorSlot.shape, hkept sl hsl]
    · simpa [outline] using m4 h
    · intro i hi
      obtain ⟨e, he, rfl⟩ := List.mem_map.1 hi
      exact (q2 e he).1
    · intro i hi
      obtain ⟨e, he, rfl⟩ := List.mem_map.1 hi
      obtain ⟨-, r, hr, hstate, hopen⟩ := q2 e he
      exact ⟨r.state, by rw [State.stateAt_outline, hr]; rfl, hstate, hopen⟩
    · intro n hn
      obtain ⟨e, he, rfl⟩ := q3 n hn
      exact List.mem_map_of_mem he
    · show s.writer.queue.map _ = []
      rw [st2 h]
      rfl
    · show s.writer.queue.map _ = []
      rw [st3 h]
      rfl
    · obtain ⟨r, hr, h1, h2⟩ := st4 n hn
      exact ⟨r.state, by rw [State.stateAt_outline, hr]; rfl, h1, h2⟩
  · rintro ⟨⟨⟨h1, h2, h3⟩, ⟨m1, m2, m3, m4, m5⟩, ⟨q1, q2, q3, q4⟩, ⟨st1, st2, st3, st4⟩⟩, hport⟩
    have hqueue (h : s.outline.queue = []) : s.writer.queue = [] := List.map_eq_nil_iff.1 h
    refine ⟨⟨h1, h2, h3⟩, ⟨m1, fun h => List.map_eq_nil_iff.1 (m2 h), fun next hn => ?_, fun h => ?_, fun h => ⟨m5 h, hport h⟩⟩, ⟨q1, fun e he => ?_, fun n hn => ?_⟩,
      st1, fun h => hqueue (st2 h), fun h => hqueue (st3 h), fun n hn => ?_⟩
    · obtain ⟨hlen, hle, hkept⟩ := m3 next hn
      refine ⟨by simpa [outline] using hlen, hle, fun sl hsl => ?_⟩
      simpa [MirrorSlot.shape] using hkept sl.shape (List.mem_map_of_mem hsl)
    · simpa [outline] using m4 h
    · have hmem : e.index ∈ s.outline.queue := List.mem_map_of_mem he
      obtain ⟨x, hx, hstate, hopen⟩ := q3 e.index hmem
      rw [State.stateAt_outline] at hx
      obtain ⟨r, hr, rfl⟩ := Option.map_eq_some_iff.1 hx
      exact ⟨q2 e.index hmem, r, hr, hstate, hopen⟩
    · obtain ⟨e, he, rfl⟩ := List.mem_map.1 (q4 n hn)
      exact ⟨e, he, rfl⟩
    · obtain ⟨x, hx, h1, h2⟩ := st4 n hn
      rw [State.stateAt_outline] at hx
      obtain ⟨r, hr, rfl⟩ := Option.map_eq_some_iff.1 hx
      exact ⟨r, hr, h1, h2⟩

theorem State.holdersSound_iff (s : State) : s.HoldersSound ↔ s.outline.HoldersOk := ⟨fun h => ⟨h.1, h.2⟩, fun h => ⟨h.1, h.2⟩⟩

theorem State.mirrorSound_iff (s : State) : s.MirrorSound ↔ s.outline.Indexed := by
  constructor
  · intro h n x hx
    rw [State.recordShape_outline] at hx
    obtain ⟨r, hr, rfl⟩ := Option.map_eq_some_iff.1 hx
    obtain ⟨sl, hsl, -⟩ := recordAt_eq_some.1 hr
    obtain ⟨h1, h2⟩ := State.slotAt_range hsl
    have := h (n - 1) (by omega) r (by rw [Nat.sub_add_cancel h1]; exact hr)
    rwa [Nat.sub_add_cancel h1] at this
  · intro h i _ r hr
    exact h (i + 1) r.shape (by rw [State.recordShape_outline, hr]; rfl)

end Sys2Proof.Machine

/-! What each shared operation does to the outline of a state. -/

namespace Sys2Proof.Machine

variable {s t : State} {n : Nat}

/-! ### Slots of the outline -/

theorem Outline.modifyShape_same (o : Outline) {h : Shape → Shape} (hh : ∀ sh, o.shapeAt n = some sh → h sh = sh) : o.modifyShape n h = o := by
  have hslots : (if n = 0 then o.slots else o.slots.modify (n - 1) h) = o.slots := by
    split
    · rfl
    · next hn =>
      refine List.ext_getElem? fun i => ?_
      rw [List.getElem?_modify]
      split
      · next hi =>
        subst hi
        cases hx : o.slots[n - 1]? with
        | none => rfl
        | some sh => exact congrArg some (hh sh (by rw [shapeAt, if_neg hn, hx]))
      · simp
  unfold modifyShape
  rw [hslots]

theorem State.outline_modifySlot (s : State) (n : Nat) {g : MirrorSlot → MirrorSlot} {h : Shape → Shape}
    (hg : ∀ sl, s.slotAt n = some sl → (g sl).shape = h sl.shape) : (s.modifySlot n g).outline = s.outline.modifyShape n h := by
  unfold modifySlot Outline.modifyShape
  by_cases hn : n = 0
  · rw [if_pos hn, if_pos hn]
  · rw [if_neg hn, if_neg hn]
    have hslots : (s.journal.mirror.modify (n - 1) g).map MirrorSlot.shape = (s.journal.mirror.map MirrorSlot.shape).modify (n - 1) h := by
      refine List.ext_getElem? fun i => ?_
      rw [List.getElem?_map, List.getElem?_modify, List.getElem?_modify, List.getElem?_map]
      split
      · next hi =>
        subst hi
        cases hx : s.journal.mirror[n - 1]? with
        | none => rfl
        | some sl => exact congrArg some (hg sl (by rw [slotAt, if_neg hn, hx]))
      · cases s.journal.mirror[i]? <;> rfl
    unfold outline
    dsimp only
    rw [hslots]

theorem State.outline_modifySlot_same (s : State) (n : Nat) {g : MirrorSlot → MirrorSlot} (hg : ∀ sl, (g sl).shape = sl.shape) :
    (s.modifySlot n g).outline = s.outline :=
  (s.outline_modifySlot n (h := id) fun sl _ => hg sl).trans (s.outline.modifyShape_same fun _ _ => rfl)

theorem MirrorSlot.shape_mapRecord {f : Record → Record} {x : RecordState} (hf : ∀ r : Record, (f r).index = r.index ∧ (f r).state = x) (sl : MirrorSlot) :
    ({ sl with entry := sl.entry.mapRecord f } : MirrorSlot).shape = Outline.Shape.setState x sl.shape := by
  unfold shape Outline.Shape.setState
  cases sl.entry with
  | unreadable => rfl
  | record r => simp [MirrorEntry.mapRecord, MirrorEntry.record?, Record.shape, (hf r).1, (hf r).2]

theorem State.outline_modifyRecord_same (s : State) (n : Nat) {f : Record → Record} (hf : ∀ r : Record, (f r).shape = r.shape) :
    (s.modifyRecord n f).outline = s.outline := s.outline_modifySlot_same n fun sl => by
  unfold MirrorSlot.shape
  cases sl.entry with
  | unreadable => rfl
  | record r => simp [MirrorEntry.mapRecord, MirrorEntry.record?, hf r]

/-- A record that takes another state. -/
theorem State.outline_modifyRecord_state (s : State) (n : Nat) {f : Record → Record} (x : RecordState)
    (hf : ∀ r : Record, (f r).index = r.index ∧ (f r).state = x) : (s.modifyRecord n f).outline = s.outline.setState n x :=
  s.outline_modifySlot n fun sl _ => sl.shape_mapRecord hf

/-! ### Records -/

@[simp] theorem Record.shape_flag (r : Record) (f : TakeFlag) : (r.flag f).shape = r.shape := rfl

@[simp] theorem Record.shape_flagIf (r : Record) (c : Bool) (f : TakeFlag) : (r.flagIf c f).shape = r.shape := by
  cases c <;> rfl

@[simp] theorem Record.shape_pointFlags (r : Record) (pt : Point) : (r.pointFlags pt).shape = r.shape := by
  simp [pointFlags]

theorem Record.shape_runNote (p : DefectNote → Bool) (q k : Nat) (note : DefectNote) (r : Record) : (r.runNote p q k note).shape = r.shape := by
  unfold runNote addNote
  split
  · split <;> rfl
  · split
    · rfl
    · split <;> rfl

theorem Record.shape_charge (q k : Nat) (r : Record) : (r.charge q k).shape = r.shape := Record.shape_runNote ..

theorem Record.shape_account (f : RingFrame) (w : Nat) (r : Record) : (r.account f w).shape = r.shape := by
  unfold account
  dsimp only
  generalize hr1 : ({ r with
    recorded := r.recorded + 1
    peaks := List.zipWith max r.peaks ((trackSamples r.armed r.mixPresent f).map magnitude)
    clipCount := if r.mixPresent && f.clip then min 65535 (r.clipCount + 1) else r.clipCount } : Record) = r1
  have hbefore : r1.shape = r.shape := hr1 ▸ rfl
  refine Eq.trans ?_ hbefore
  clear hr1 hbefore
  generalize (lanesOf (r.armed &&& f.invalid)).map (·.val) = l
  induction l generalizing r1 with
  | nil => rfl
  | cons lane l ih => exact (ih _).trans (Record.shape_runNote ..)

theorem Record.shape_join (k : TakeKey) (r : Record) : (r.join k).shape = r.shape := by
  unfold join
  split <;> rfl

namespace State

/-! ### Plain updates -/

@[simp] theorem outline_ask (s : State) (k : OpKind) (a : Nat) (b : Option (List Byte)) (f : Bool) : (s.ask k a b f).outline = s.outline := rfl
@[simp] theorem outline_askNew (s : State) (k : OpKind) : (s.askNew k).outline = s.outline := rfl
@[simp] theorem outline_retry (s : State) (op : Op) : (s.retry op).outline = s.outline := rfl
@[simp] theorem outline_withdraw (s : State) (p : Op → Bool) : (s.withdraw p).outline = s.outline := rfl
@[simp] theorem outline_release (s : State) (id : Nat) : (s.release id).outline = s.outline := rfl
@[simp] theorem outline_withPending (s : State) (l : List Instr) : (s.withPending l).outline = s.outline := rfl
theorem outline_withLink (s : State) (l : Link) : ({ s with link := l } : State).outline = s.outline := rfl
@[simp] theorem outline_queueState (s : State) : s.queueState.outline = s.outline := rfl
@[simp] theorem outline_queueTransport (s : State) (b : TxBody) : (s.queueTransport b).outline = s.outline := rfl
@[simp] theorem outline_queueReport (s : State) (r : Report) : (s.queueReport r).outline = s.outline := rfl
@[simp] theorem outline_answer (s : State) (q : Request) (c : OutcomeClass) (d : Detail) (y : List Byte) : (s.answer q c d y).outline = s.outline := rfl
@[simp] theorem outline_refuse (s : State) (q : Request) (d : Detail) : (s.refuse q d).outline = s.outline := rfl
@[simp] theorem outline_finalReport (s : State) (w : Requester) (k : RequestKind) (c : OutcomeClass) (d : Detail) (y : List Byte) :
    (s.finalReport w k c d y).outline = s.outline := rfl
@[simp] theorem outline_announce (s0 s : State) : (State.announce s0 s).outline = s.outline := by
  unfold announce
  split <;> rfl
@[simp] theorem outline_noteConflict (s : State) (f : Frame) : (s.noteConflict f).outline = s.outline := by
  unfold noteConflict
  split <;> rfl
@[simp] theorem outline_setBuffer (s : State) (b : Nat) (x : Buffer) : (s.setBuffer b x).outline = s.outline := rfl
@[simp] theorem outline_fillBuffer (s : State) (b : Nat) (y : List Byte) : (s.fillBuffer b y).outline = s.outline := by
  unfold fillBuffer
  split <;> rfl
@[simp] theorem outline_endHeaderWrite (s : State) : s.endHeaderWrite.outline = s.outline := rfl
@[simp] theorem outline_flagRecord (s : State) (n : Nat) (f : TakeFlag) : (s.flagRecord n f).outline = s.outline :=
  s.outline_modifyRecord_same n fun _ => rfl
@[simp] theorem outline_endWrite (s : State) (n : Nat) : (s.endWrite n).outline = s.outline := s.outline_modifySlot_same n fun _ => rfl
@[simp] theorem outline_setTake (s : State) (x : TakeState) : (s.setTake x).outline = { s.outline with take := x } := rfl
@[simp] theorem outline_setMedia (s : State) (x : MediaState) : (s.setMedia x).outline = { s.outline with media := x } := rfl
@[simp] theorem outline_setMount (s : State) (x : Mount) : (s.setMount x).outline = { s.outline with mount := x } := rfl
@[simp] theorem outline_clearOpen (s : State) : s.clearOpen.outline = s.outline.clearOpen := rfl
@[simp] theorem outline_enterStandby (s : State) : s.enterStandby.outline = { s.outline with take := .standby } := rfl
@[simp] theorem outline_idleSlot (s : State) : s.idleSlot.outline = { s.outline with long := .idle } := rfl
@[simp] theorem outline_setVerify (s : State) (v : Verify) : (s.setVerify v).outline = { s.outline with long := v.slot } := rfl
@[simp] theorem outline_endUnprepared (s : State) : s.endUnprepared.outline = { s.outline with media := .unprepared, mount := .none } := rfl
@[simp] theorem outline_refreshStation (s : State) : s.refreshStation.outline = s.outline.refresh := by
  have husable : s.outline.usable = s.usable := rfl
  have htake : s.outline.take = s.engine.takeState := rfl
  unfold refreshStation Outline.refresh
  rw [husable, htake]
  cases s.engine.takeState <;> dsimp only
  · split <;> rfl
  · split <;> rfl

theorem outline_modifyEntry (s : State) (n : Nat) {f : QueueEntry → QueueEntry} (hf : ∀ e, (f e).index = e.index) : (s.modifyEntry n f).outline = s.outline := by
  have hqueue : (s.writer.queue.map fun e => if e.index = n then f e else e).map (·.index) = s.writer.queue.map (·.index) := by
    rw [List.map_map]
    refine List.map_congr_left fun e _ => ?_
    dsimp only [Function.comp]
    split
    · exact hf e
    · rfl
  unfold modifyEntry setQueue outline
  dsimp only
  rw [hqueue]

@[simp] theorem outline_dropEntry (s : State) (n : Nat) : (s.dropEntry n).outline = { s.outline with queue := s.outline.queue.filter (· != n) } := by
  have hqueue : (s.writer.queue.filter fun e => e.index != n).map (·.index) = (s.writer.queue.map (·.index)).filter (· != n) := by
    rw [List.filter_map]
    rfl
  unfold dropEntry setQueue outline
  dsimp only
  rw [hqueue]

theorem outline_grant (s : State) : s.grant.outline = s.outline := by
  have hgranted := s.grantedTo_grant
  obtain ⟨d, hd⟩ := hgranted.queue
  have hqueue : s.grant.writer.queue.map (·.index) = s.writer.queue.map (·.index) := by
    rw [hd, List.map_map]
    rfl
  have hslots : s.grant.journal.mirror.map MirrorSlot.shape = s.journal.mirror.map MirrorSlot.shape := by
    refine List.ext_getElem? fun i => ?_
    obtain ⟨g, hg, hslot⟩ := hgranted.slots (i + 1)
    rw [slotAt, slotAt, if_neg (Nat.succ_ne_zero i), if_neg (Nat.succ_ne_zero i)] at hslot
    rw [List.getElem?_map, List.getElem?_map]
    show (s.grant.journal.mirror[i]?).map _ = _
    rw [show s.grant.journal.mirror[i]? = (s.journal.mirror[i]?).map fun sl => { sl with entry := sl.entry.mapRecord g } from hslot, Option.map_map]
    refine congrArg (Option.map · _) (funext fun sl => ?_)
    dsimp only [Function.comp, MirrorSlot.shape]
    cases sl.entry with
    | unreadable => rfl
    | record r =>
      have hshape : (g r).shape = r.shape := by
        rw [hg r]
        rfl
      exact congrArg (fun x => Shape.mk (some x) _) hshape
  unfold outline
  rw [hslots, hqueue, hgranted.frame]

/-! ### The journal's writes -/

@[simp] theorem outline_askWrite (s : State) (n : Nat) : (s.askWrite n).outline = s.outline := by
  unfold askWrite
  split
  · rfl
  · split
    · rfl
    · split
      · split
        · exact s.outline_modifySlot_same n fun _ => rfl
        · rfl
      · exact s.outline_modifySlot_same n fun _ => rfl

@[simp] theorem outline_changeRecord (s : State) (n : Nat) : (s.changeRecord n).outline = s.outline := by
  unfold changeRecord
  split
  · rfl
  · split
    · refine (outline_modifySlot_same _ n fun sl => ?_).trans (s.outline_flagRecord n .unsaved)
      rfl
    · split
      · split
        · exact s.outline_modifySlot_same n fun _ => rfl
        · rfl
      · exact s.outline_askWrite n

@[simp] theorem outline_askCheckpoint (s : State) (n : Nat) : (s.askCheckpoint n).outline = s.outline := by
  unfold askCheckpoint
  split
  · exact s.outline_askWrite n
  · rfl

@[simp] theorem outline_askHeaderRewrite (s : State) : s.askHeaderRewrite.outline = s.outline := by
  unfold askHeaderRewrite
  split
  · rfl
  · split
    · split <;> rfl
    · rfl

@[simp] theorem outline_askWrites (s : State) (l : List Nat) : (l.foldl (fun s n => s.askWrite n) s).outline = s.outline := by
  induction l generalizing s with
  | nil => rfl
  | cons n l ih => exact (ih _).trans (s.outline_askWrite n)

@[simp] theorem outline_flagRecords (s : State) (f : TakeFlag) (l : List Nat) : (l.foldl (fun s n => s.flagRecord n f) s).outline = s.outline := by
  induction l generalizing s with
  | nil => rfl
  | cons n l ih => exact (ih _).trans (s.outline_flagRecord n f)

/-! ### Sealing, charging and closing -/

@[simp] theorem outline_sealCurrent (s : State) (n : Nat) (l : Bool) : (s.sealCurrent n l).outline = s.outline := by
  unfold sealCurrent
  split
  · rfl
  · split
    · rfl
    · split
      · rfl
      · refine (outline_modifyRecord_same _ n fun r => ?_).trans ((outline_modifyEntry _ n fun e => ?_).trans (outline_setBuffer ..)) <;> rfl

@[simp] theorem outline_askFinalIfDue (s : State) (n : Nat) : (s.askFinalIfDue n).outline = s.outline := by
  unfold askFinalIfDue
  split
  · exact s.outline_askWrite n
  · rfl

@[simp] theorem outline_finishIfDone (s : State) (n : Nat) : (s.finishIfDone n).outline = s.outline := by
  unfold finishIfDone
  split
  · split
    · simp
    · rfl
  · rfl

@[simp] theorem outline_chargeTake (s : State) (limit n : Nat) : (State.chargeTake limit s n).outline = s.outline := by
  unfold chargeTake
  split
  · split
    · refine (outline_finishIfDone ..).trans ((outline_modifyEntry _ n fun e => ?_).trans (s.outline_modifyRecord_same n fun r => r.shape_charge ..))
      rfl
    · rfl
  · rfl

@[simp] theorem outline_chargeAll (s : State) (limit : Nat) : (s.chargeAll limit).outline = s.outline := by
  unfold chargeAll
  generalize s.writer.queue.map (·.index) = l
  induction l generalizing s with
  | nil => rfl
  | cons n l ih => exact (ih _).trans (s.outline_chargeTake limit n)

@[simp] theorem outline_trimMarkers (s : State) (n : Nat) : (s.trimMarkers n).outline = s.outline := by
  unfold trimMarkers
  split
  · rfl
  · dsimp only
    split
    · rfl
    · exact (outline_changeRecord ..).trans (s.outline_modifyRecord_same n fun _ => rfl)

/-- The stop of a take makes its record CLOSING. -/
@[simp] theorem outline_closeTake (s : State) (n stop : Nat) : (s.closeTake n stop).outline = s.outline.setState n .closing := by
  unfold closeTake
  rw [outline_finishIfDone, outline_trimMarkers]
  exact s.outline_modifyRecord_state n .closing fun _ => ⟨rfl, rfl⟩

@[simp] theorem outline_refuseSplit (s : State) (n x : Nat) :
    (s.refuseSplit n x).outline = { s.outline.clearOpen.setState n .closing with take := .standby } := by
  unfold refuseSplit
  simp

/-! ### Completions, defects and drawing -/

@[simp] theorem outline_reportCompletion (s : State) (n : Nat) : (s.reportCompletion n).outline = s.outline := by
  unfold reportCompletion
  split
  · exact s.outline_askWrite n
  · split
    · rfl
    · split
      · exact s.outline_askCheckpoint n
      · rfl

theorem queueEntry_extend_index (k : Nat) (e : QueueEntry) : (QueueEntry.extend k e).index = e.index := by
  induction k generalizing e with
  | zero => rfl
  | succ k ih =>
    unfold QueueEntry.extend
    split
    · rfl
    · exact ih _

@[simp] theorem outline_segmentDone (s : State) (b i : Nat) : (s.segmentDone b i).outline = s.outline := by
  unfold segmentDone
  split
  · rfl
  · dsimp only
    split
    · rfl
    · split
      · exact (outline_reportCompletion ..).trans (outline_modifyEntry _ _ fun e => queueEntry_extend_index ..)
      · rfl

@[simp] theorem outline_growDefect (s : State) (b : Nat) : (s.growDefect b).outline = s.outline := by
  unfold growDefect
  split
  · split
    · exact outline_askHeaderRewrite _
    · split
      · rfl
      · exact outline_askHeaderRewrite _
  · rfl

theorem outline_allocate {k : Nat} {run : Extent} {t : State} (h : s.allocate k = some (run, t)) : t.outline = s.outline := by
  unfold allocate at h
  split at h
  · dsimp only at h
    split at h
    · cases h
    · cases h
      rfl
  · cases h

@[simp] theorem outline_remapRuns (fuel left segBlock room : Nat) (s : State) : (s.remapRuns fuel left segBlock room).2.2.outline = s.outline := by
  induction fuel generalizing s left segBlock room with
  | zero => rfl
  | succ fuel ih =>
    unfold remapRuns
    split
    · rfl
    · split
      · rfl
      · next hrun =>
        split
        · exact outline_allocate hrun
        · exact (ih _ _ _ _).trans (outline_allocate hrun)

@[simp] theorem outline_handOver (s : State) (b k : Nat) (l : List Piece) : (s.handOver b k l).outline = s.outline := by
  induction l generalizing s k with
  | nil => rfl
  | cons _ l ih => exact ih _ _

@[simp] theorem outline_enterPieces (s : State) (n : Nat) (cut : CutList) (l : List Piece) : (s.enterPieces n cut l).outline = s.outline :=
  s.outline_modifyRecord_same n fun _ => rfl

@[simp] theorem outline_accountDraw (s : State) (n : Nat) (f : RingFrame) (w : Nat) : (s.accountDraw n f w).outline = s.outline := by
  unfold accountDraw
  refine (outline_finishIfDone ..).trans ((outline_modifyEntry _ n fun e => ?_).trans (s.outline_modifyRecord_same n fun r => r.shape_account ..))
  rfl

@[simp] theorem outline_openBuffer (s : State) (n b : Nat) (run : Extent) (offset room : Nat) (bytes : List Byte) :
    (s.openBuffer n b run offset room bytes).outline = s.outline := by
  unfold openBuffer
  dsimp only
  refine (outline_modifyEntry _ n fun e => ?_).trans ((outline_setBuffer ..).trans ?_)
  · rfl
  · split
    · rfl
    · simp

/-! ### The media fault, aside from the takes -/

@[simp] theorem outline_discardWrite (s : State) (op : Op) : (s.discardWrite op).outline = s.outline := by
  unfold discardWrite
  split
  · exact (outline_flagRecord ..).trans (s.outline_modifySlot_same _ fun _ => rfl)
  all_goals rfl

@[simp] theorem outline_discardWrites (s : State) : s.discardWrites.outline = s.outline := by
  unfold discardWrites
  have hw : (s.withdraw fun op => op.kind.priority < 3).outline = s.outline := rfl
  revert hw
  generalize (s.withdraw fun op => op.kind.priority < 3) = u
  generalize s.port.waiting.filter _ = l
  intro hw
  induction l generalizing u with
  | nil => exact hw
  | cons op l ih => exact ih _ ((outline_discardWrite ..).trans hw)

/-! ### The card -/

@[simp] theorem outline_askSlots (s : State) (first k : Nat) : (s.askSlots first k).outline = s.outline := by
  unfold askSlots
  generalize (List.range k).map (first + ·) = l
  induction l generalizing s with
  | nil => rfl
  | cons k l ih => exact ih _

theorem changeRate_clock (i : Intake) (r : SampleRate) : (i.changeRate r).clock = if i.rate = r then i.clock else .lost := by
  unfold Intake.changeRate
  split <;> rfl

theorem outline_loadProfile (s : State) (p : Profile) :
    (s.loadProfile p).outline = { s.outline with profiled := true, clock := if s.intake.rate = p.rate then s.intake.clock else .lost } := by
  rw [← changeRate_clock]
  rfl

@[simp] theorem outline_enterSlot (s : State) (e : MirrorEntry) :
    (s.enterSlot e).outline = { s.outline with slots := s.outline.slots ++ [⟨e.record?.map Record.shape, false⟩] } := by
  unfold enterSlot outline
  dsimp only
  rw [List.map_append]
  rfl

@[simp] theorem outline_dropWrite (s : State) (n : Nat) : (s.dropWrite n).outline = s.outline := by
  unfold dropWrite
  split <;> simp

/-! ### Marks and notes -/

@[simp] theorem outline_noteTake (s : State) (st : SlateStamp) (fs : NoteFields) (n : Nat) : (s.noteTake st fs n).outline = s.outline := by
  unfold noteTake
  split
  · rfl
  · dsimp only
    split
    · rfl
    · exact (outline_changeRecord ..).trans (s.outline_modifyRecord_same n fun _ => rfl)

@[simp] theorem outline_insertMark (s : State) (n : Nat) (m : Marker) : (s.insertMark n m).outline = s.outline := by
  unfold insertMark
  split
  · rfl
  · split
    · exact (outline_changeRecord ..).trans (s.outline_modifyRecord_same n fun _ => rfl)
    · split <;> simp

@[simp] theorem outline_placeMark (s : State) (n kind origin : Nat) (pt : Point) : (s.placeMark n kind origin pt).outline = s.outline := by
  unfold placeMark
  split
  · rfl
  · rw [outline_grant, outline_insertMark]
    exact s.outline_modifyRecord_same n fun r => r.shape_pointFlags pt

/-! ### The verify unit -/

@[simp] theorem outline_fillWindow (s : State) (fuel : Nat) : (s.fillWindow fuel).outline = s.outline := by
  induction fuel generalizing s with
  | zero => rfl
  | succ fuel ih =>
    unfold fillWindow
    dsimp only
    split
    · exact ih _
    · rfl

@[simp] theorem outline_headLeaves (s : State) (trouble : Bool) (rest : List TxFrame) : (s.headLeaves trouble rest).outline = s.outline := by
  unfold headLeaves payOwed
  dsimp only
  split <;> rfl

end State

end Sys2Proof.Machine

/-! The coherence of an outline while an operation is under way, and what closing, abandoning and opening a take keep of it. `H` and `I` say
that the holders and the mirror's indices were in order before, `C` that the card was in reach. -/

namespace Sys2Proof.Machine

namespace Outline

variable {C H I : Prop} {o : Outline} {n : Nat}

/-! ### Slots -/

theorem shapeAt_modifyShape (o : Outline) (n : Nat) (h : Shape → Shape) (k : Nat) :
    (o.modifyShape n h).shapeAt k = if k = n then (o.shapeAt n).map h else o.shapeAt k := by
  unfold modifyShape shapeAt
  by_cases hk : k = 0
  · rw [if_pos hk, if_pos hk]
    split
    · next hkn => rw [if_pos (hkn.symm.trans hk)]; rfl
    · rfl
  · by_cases hn : n = 0
    · simp [hk, hn]
    · dsimp only
      rw [if_neg hk, if_neg hn, if_neg hn, if_neg hk, List.getElem?_modify]
      by_cases hkn : k = n
      · simp [hkn]
      · have hne : ¬ n - 1 = k - 1 := by omega
        simp [hkn, hne]

theorem length_modifyShape (o : Outline) (n : Nat) (h : Shape → Shape) : (o.modifyShape n h).slots.length = o.slots.length := by
  unfold modifyShape
  dsimp only
  split <;> simp

/-- Changes of a shape's state leave its index. -/
def Keeps (h : Shape → Shape) (x : RecordState) : Prop := ∀ sh, (h sh).record = sh.record.map fun y => (y.1, x)

theorem keeps_setState (x : RecordState) : Keeps (Shape.setState x) x := fun _ => rfl

theorem stateAt_modifyShape {h : Shape → Shape} {x : RecordState} (hh : Keeps h x) (o : Outline) (n k : Nat) :
    (o.modifyShape n h).stateAt k = if k = n then (o.stateAt n).map fun _ => x else o.stateAt k := by
  unfold stateAt
  rw [shapeAt_modifyShape]
  split
  · cases o.shapeAt n with
    | none => rfl
    | some sh =>
      rw [Option.map_some, Option.bind_some, Option.bind_some, hh sh]
      cases sh.record <;> rfl
  · rfl

theorem indexed_modifyShape {h : Shape → Shape} {x : RecordState} (hh : Keeps h x) (n : Nat) (hi : o.Indexed) : (o.modifyShape n h).Indexed := by
  intro k y hy
  rw [shapeAt_modifyShape] at hy
  split at hy
  · next hk =>
    subst hk
    cases hsh : o.shapeAt k with
    | none => rw [hsh] at hy; cases hy
    | some sh =>
      rw [hsh, Option.map_some, Option.bind_some, hh sh] at hy
      obtain ⟨z, hz, rfl⟩ := Option.map_eq_some_iff.1 hy
      exact hi k z (by rw [hsh]; exact hz)
  · exact hi k y hy

theorem modifyShape_empty {h : Shape → Shape} (n : Nat) (he : o.slots = []) : (o.modifyShape n h).slots = [] :=
  List.length_eq_zero_iff.1 ((o.length_modifyShape n h).trans (by rw [he]; rfl))

/-! ### The coherence that an operation under way keeps -/

/-- What holds of an outline while an operation is under way; the station's own states are brought in step at its end (R38). -/
structure Mid (C H I : Prop) (o : Outline) : Prop where
  engine : o.EngineOk
  mount : o.MountOk
  queue : o.QueueOk
  blocked : o.long.blocksJournal = true → o.queue = []
  verified : ∀ n, o.long.index = some n → ∃ x, o.stateAt n = some x ∧ x ≠ .opened ∧ x ≠ .closing
  reach : C → o.media.Carded
  held : H → (o.holders ≠ [] ↔ o.take = .rolling)
  scanned : H → o.mount.scanning.isSome = true → o.profiled = true
  indexed : I → o.Indexed

/-- What holds of an outline between any two commands. -/
structure Done (C H I : Prop) (o : Outline) : Prop extends o.Mid C H I where
  offline : o.take = .offline ↔ ¬ (o.media = .ready ∧ o.clock = .running)
  carded : o.media ≠ .ready ∧ o.media ≠ .full → o.queue = []
  ready : H → o.media = .ready → o.profiled = true

theorem Done.ok (h : o.Done C H I) : o.Ok := ⟨h.engine, h.mount, h.queue, h.offline, h.carded, h.blocked, h.verified⟩

theorem Done.holdersOk (h : o.Done C H I) (hH : H) : o.HoldersOk := ⟨h.held hH, fun hready => hready.elim (h.ready hH) (h.scanned hH)⟩

theorem Ok.done (h : o.Ok) : o.Done o.media.Carded o.HoldersOk o.Indexed :=
  { reach := id, engine := h.engine, mount := h.mount, queue := h.queue, blocked := h.station.blocked, verified := h.station.verified,
    held := fun hH => hH.holders, scanned := fun hH hs => hH.profiled (.inr hs), indexed := id, offline := h.station.offline,
    carded := h.station.carded, ready := fun hH hr => hH.profiled (.inl hr) }

/-! ### What is known while a take is open or queued -/

theorem Done.running (h : o.Done C H I) (hopen : o.openTake.isSome = true) : o.media = .ready ∧ o.clock = .running := by
  have htake := h.engine.opened.1 hopen
  by_contra hnot
  have hoff := h.offline.2 hnot
  rw [hoff] at htake
  rcases htake with hx | hx <;> cases hx

theorem Done.carded_of_queued (h : o.Done C H I) (hn : n ∈ o.queue) : o.media = .ready ∨ o.media = .full := by
  by_contra hnot
  rw [not_or] at hnot
  rw [h.carded hnot] at hn
  cases hn

theorem MountOk.none_of (h : o.MountOk) (hm : o.media ≠ .mounting) : o.mount = .none := h.mounting.2 hm

/-- On a card in reach the next take index follows the mirror. -/
theorem MountOk.next_of (h : o.MountOk) (hm : o.mount = .none) : o.slots.length + 1 = o.nextIndex := (h.next (by rw [hm]; rfl)).1

theorem Mid.openTake_none (h : o.Mid C H I) (hqueue : o.queue = []) : o.openTake = none := by
  cases hopen : o.openTake with
  | none => rfl
  | some n =>
    have := h.queue.openQueued n hopen
    rw [hqueue] at this
    cases this

theorem Mid.take_of_closed (h : o.Mid C H I) (hopen : o.openTake = none) : o.take = .offline ∨ o.take = .standby := by
  have hnot := mt h.engine.opened.2 (by rw [hopen]; simp)
  cases htake : o.take
  · exact .inl rfl
  · exact .inr rfl
  · exact absurd (.inl htake) hnot
  · exact absurd (.inr htake) hnot

theorem EngineOk.of_closed {x : TakeState} (hx : x = .offline ∨ x = .standby) (hopen : o.openTake = none) (htail : o.tailed = false) (htake : o.take = x)
    (hholders : (o.holders.map (·.origin)).Pairwise (· < ·)) : o.EngineOk := by
  refine ⟨?_, ?_, hholders⟩
  · rw [hopen, htake]
    rcases hx with rfl | rfl <;> simp
  · rw [htail, htake]
    rcases hx with rfl | rfl <;> simp

/-! ### The station (R38) -/

/-- The station takes another state while no take is open. -/
theorem Mid.withTake (h : o.Mid C H I) (hopen : o.openTake = none) {x : TakeState} (hx : x = .offline ∨ x = .standby) : ({ o with take := x } : Outline).Mid C H I := by
  have htake := h.take_of_closed hopen
  have htail : o.tailed = false := by
    cases hb : o.tailed with
    | false => rfl
    | true =>
      have := h.engine.tailed.1 hb
      rcases htake with h' | h' <;> rw [h'] at this <;> cases this
  have hheld : H → (o.holders ≠ [] ↔ x = .rolling) := fun hH => by
    rw [h.held hH]
    rcases htake with h' | h' <;> rcases hx with rfl | rfl <;> simp [h']
  exact { h with
    engine := .of_closed hx hopen htail rfl h.engine.holders
    mount := ⟨h.mount.mounting, h.mount.empty, h.mount.scanning, h.mount.next, h.mount.idle⟩
    queue := ⟨h.queue.ascending, h.queue.below, h.queue.states, h.queue.openQueued⟩
    held := hheld }

theorem refresh_eq (o : Outline) : ∃ x, o.refresh = { o with take := x } ∧ (x = o.take ∨ ((o.take = .offline ∨ o.take = .standby) ∧ (x = .offline ∨ x = .standby)))
    ∧ ((o.take = .offline ∨ o.take = .standby) → (x = .offline ↔ o.usable = false) ∧ (x = .offline ∨ x = .standby)) := by
  unfold refresh
  split
  · next htake =>
    split
    · next hu => exact ⟨.standby, rfl, .inr ⟨.inl htake, .inr rfl⟩, fun _ => ⟨by simp [hu], .inr rfl⟩⟩
    · next hu => exact ⟨o.take, rfl, .inl rfl, fun _ => ⟨by simpa [htake] using hu, .inl htake⟩⟩
  · next htake =>
    split
    · next hu => exact ⟨o.take, rfl, .inl rfl, fun _ => ⟨by simp [htake, hu], .inr htake⟩⟩
    · next hu => exact ⟨.offline, rfl, .inr ⟨.inr htake, .inl rfl⟩, fun _ => ⟨by simpa using hu, .inl rfl⟩⟩
  · next htake => exact ⟨o.take, rfl, .inl rfl, fun h' => by rw [htake] at h'; rcases h' with h' | h' <;> cases h'⟩
  · next htake => exact ⟨o.take, rfl, .inl rfl, fun h' => by rw [htake] at h'; rcases h' with h' | h' <;> cases h'⟩

theorem usable_iff (o : Outline) : o.usable = true ↔ o.media = .ready ∧ o.clock = .running := by
  simp [usable]

/-- At the end of an operation the station is brought in step with media and clock. -/
theorem Mid.refresh (h : o.Mid C H I) (hrun : o.openTake.isSome = true → o.media = .ready ∧ o.clock = .running)
    (hcard : o.media ≠ .ready ∧ o.media ≠ .full → o.queue = []) (hready : H → o.media = .ready → o.profiled = true) : o.refresh.Done C H I := by
  obtain ⟨x, hrefresh, -, hclosed⟩ := o.refresh_eq
  rw [hrefresh]
  by_cases hopen : o.openTake = none
  · obtain ⟨hoff, hx⟩ := hclosed (h.take_of_closed hopen)
    refine { h.withTake hopen hx with offline := ?_, carded := hcard, ready := hready }
    show x = .offline ↔ _
    rw [hoff, ← o.usable_iff]
    simp
  · have hsome : o.openTake.isSome = true := Option.isSome_iff_ne_none.2 hopen
    have htake := h.engine.opened.1 hsome
    have hsame : o.refresh = o := by
      unfold Outline.refresh
      rcases htake with htake | htake <;> rw [htake]
    have hxt : x = o.take := by
      have := congrArg Outline.take hrefresh
      rw [hsame] at this
      exact this.symm
    subst hxt
    refine { h with offline := ?_, carded := hcard, ready := hready }
    have hne : o.take ≠ .offline := by rcases htake with htake | htake <;> rw [htake] <;> decide
    exact ⟨fun hoff => absurd hoff hne, fun hnot => absurd (hrun hsome) hnot⟩

/-- A state of the station in step with media and clock. -/
theorem Mid.done (h : o.Mid C H I) (hoff : o.take = .offline ↔ ¬ (o.media = .ready ∧ o.clock = .running))
    (hcard : o.media ≠ .ready ∧ o.media ≠ .full → o.queue = []) (hready : H → o.media = .ready → o.profiled = true) : o.Done C H I :=
  { h with offline := hoff, carded := hcard, ready := hready }

/-! ### The media state and the clock -/

theorem Mid.withMedia (h : o.Mid C H I) {m : MediaState} (hm : m.Carded) (hcarded : o.media.Carded) : ({ o with media := m } : Outline).Mid C H I := by
  have hnone := h.mount.none_of hcarded.2
  exact { h with
    engine := ⟨h.engine.opened, h.engine.tailed, h.engine.holders⟩
    mount := ⟨by simp [hnone, hm.2], fun he => by simp [hnone, hm.1] at he, h.mount.scanning, h.mount.next, fun hi => absurd hi (by simp [hm.1, hm.2])⟩
    queue := ⟨h.queue.ascending, h.queue.below, h.queue.states, h.queue.openQueued⟩
    reach := fun _ => hm }

theorem Mid.withClock (h : o.Mid C H I) (c : ClockState) : ({ o with clock := c } : Outline).Mid C H I :=
  { h with
    engine := ⟨h.engine.opened, h.engine.tailed, h.engine.holders⟩
    mount := ⟨h.mount.mounting, h.mount.empty, h.mount.scanning, h.mount.next, h.mount.idle⟩
    queue := ⟨h.queue.ascending, h.queue.below, h.queue.states, h.queue.openQueued⟩ }

theorem Mid.idle (h : o.Mid C H I) : ({ o with long := .idle } : Outline).Mid C H I :=
  { h with
    engine := ⟨h.engine.opened, h.engine.tailed, h.engine.holders⟩
    mount := ⟨h.mount.mounting, h.mount.empty, h.mount.scanning, h.mount.next, fun _ => rfl⟩
    queue := ⟨h.queue.ascending, h.queue.below, h.queue.states, h.queue.openQueued⟩
    blocked := fun hb => by cases hb
    verified := fun n hn => by cases hn }

/-! ### Closing and abandoning -/

/-- A queued take and a take under verify are different ones. -/
theorem Mid.ne_verified (h : o.Mid C H I) (hn : n ∈ o.queue) {k : Nat} (hk : o.long.index = some k) : k ≠ n := by
  rintro rfl
  obtain ⟨x, hx, h1, h2⟩ := h.verified k hk
  obtain ⟨y, hy, hstate, -⟩ := h.queue.states k hn
  cases hx.symm.trans hy
  rcases hstate with hstate | hstate
  · exact h1 hstate
  · exact h2 hstate

theorem MountOk.modifyShape (h : o.MountOk) (n : Nat) {g : Shape → Shape} (hkept : o.mount = .none ∨ ∀ sh, (g sh).kept = sh.kept) : (o.modifyShape n g).MountOk := by
  have hlen := o.length_modifyShape n g
  refine ⟨h.mounting, fun he => modifyShape_empty n (h.empty he), fun next hnext => ?_, fun hs => ?_, h.idle⟩
  · obtain ⟨h1, h2, h3⟩ := h.scanning next hnext
    refine ⟨by rw [hlen]; exact h1, h2, fun sh hsh => ?_⟩
    rcases hkept with hnone | hkept
    · have : o.mount.scanning = some next := hnext
      rw [hnone] at this
      cases this
    · unfold Outline.modifyShape at hsh
      dsimp only at hsh
      split at hsh
      · exact h3 sh hsh
      · obtain ⟨i, hi, rfl⟩ := List.getElem_of_mem hsh
        rw [List.length_modify] at hi
        rw [List.getElem_modify]
        split
        · exact (hkept _).trans (h3 _ (List.getElem_mem hi))
        · exact h3 _ (List.getElem_mem hi)
  · rw [hlen]
    exact h.next hs

/-- The open take becomes CLOSING and is no longer open. -/
theorem Mid.closeOpen (h : o.Mid C H I) (hopen : o.openTake = some n) {x : TakeState} (hx : x = .offline ∨ x = .standby) :
    ({ o.clearOpen.setState n .closing with take := x } : Outline).Mid C H I := by
  have hn := h.queue.openQueued n hopen
  have hstate (k : Nat) : ({ o.clearOpen.setState n .closing with take := x } : Outline).stateAt k
      = if k = n then (o.stateAt n).map fun _ => .closing else o.stateAt k := stateAt_modifyShape (keeps_setState .closing) o n k
  have hmount := h.mount.modifyShape n (g := Shape.setState .closing) (.inr fun _ => rfl)
  refine {
    engine := .of_closed hx rfl rfl rfl (by exact .nil)
    mount := ⟨hmount.mounting, hmount.empty, hmount.scanning, hmount.next, hmount.idle⟩
    queue := ⟨h.queue.ascending, h.queue.below, fun i hi => ?_, fun k hk => by cases hk⟩
    blocked := h.blocked
    verified := fun k hk => ?_
    reach := h.reach
    held := fun _ => ⟨fun hne => absurd rfl hne, fun htake => by rcases hx with rfl | rfl <;> cases htake⟩
    scanned := h.scanned
    indexed := fun hI => indexed_modifyShape (keeps_setState .closing) n (h.indexed hI) }
  · obtain ⟨y, hy, hyState, hyOpen⟩ := h.queue.states i hi
    rw [hstate]
    by_cases hin : i = n
    · subst hin
      rw [if_pos rfl, hy]
      exact ⟨.closing, rfl, .inr rfl, ⟨fun hc => (by cases hc), fun hc => (by cases hc)⟩⟩
    · rw [if_neg hin]
      have hnot : y ≠ .opened := fun hc => hin (Option.some.inj ((hyOpen.1 hc).symm.trans hopen))
      exact ⟨y, hy, hyState, fun hc => absurd hc hnot, fun hc => by cases hc⟩
  · rw [hstate, if_neg (h.ne_verified hn hk)]
    exact h.verified k hk

/-- A queued take that is not the open one is CLOSING already. -/
theorem Mid.closeOther (h : o.Mid C H I) (hn : n ∈ o.queue) (hopen : o.openTake ≠ some n) : (o.setState n .closing).Mid C H I := by
  have hstate (k : Nat) : (o.setState n .closing).stateAt k = if k = n then (o.stateAt n).map fun _ => .closing else o.stateAt k :=
    stateAt_modifyShape (keeps_setState .closing) o n k
  refine {
    engine := ⟨h.engine.opened, h.engine.tailed, h.engine.holders⟩
    mount := h.mount.modifyShape n (.inr fun _ => rfl)
    queue := ⟨h.queue.ascending, h.queue.below, fun i hi => ?_, h.queue.openQueued⟩
    blocked := h.blocked
    verified := fun k hk => ?_
    reach := h.reach
    held := h.held
    scanned := h.scanned
    indexed := fun hI => indexed_modifyShape (keeps_setState .closing) n (h.indexed hI) }
  · obtain ⟨y, hy, hyState, hyOpen⟩ := h.queue.states i hi
    rw [hstate]
    by_cases hin : i = n
    · subst hin
      rw [if_pos rfl, hy]
      exact ⟨.closing, rfl, .inr rfl, ⟨fun hc => (by cases hc), fun hc => absurd hc hopen⟩⟩
    · rw [if_neg hin]
      exact ⟨y, hy, hyState, hyOpen⟩
  · rw [hstate, if_neg (h.ne_verified hn hk)]
    exact h.verified k hk

def Shape.abandoned (sh : Shape) : Shape := ⟨sh.record.map fun y => (y.1, .interrupted), true⟩

/-- The take leaves the queue with its record INTERRUPTED (R92, R143). -/
def dropTake (n : Nat) (o : Outline) : Outline := { o.modifyShape n Shape.abandoned with queue := o.queue.filter (· != n) }

/-- A take is abandoned (R92, R143). -/
def abandon (o : Outline) (n : Nat) : Outline :=
  if n ∈ o.queue then
    if o.openTake = some n then { (o.dropTake n).clearOpen with take := .offline } else o.dropTake n
  else o

theorem keeps_abandoned : Keeps Shape.abandoned .interrupted := fun _ => rfl

theorem Mid.abandon (h : o.Mid C H I) (hnone : o.mount = .none) (n : Nat) : (o.abandon n).Mid C H I := by
  unfold Outline.abandon
  split
  swap
  · exact h
  next hn =>
  have hstate (k : Nat) : (o.dropTake n).stateAt k = if k = n then (o.stateAt n).map fun _ => .interrupted else o.stateAt k :=
    stateAt_modifyShape keeps_abandoned o n k
  have hmount := h.mount.modifyShape n (g := Shape.abandoned) (.inl hnone)
  have hqueued (i : Nat) (hi : i ∈ o.queue.filter (· != n)) : i ∈ o.queue ∧ i ≠ n := by
    obtain ⟨h1, h2⟩ := List.mem_filter.1 hi
    exact ⟨h1, by simpa using h2⟩
  have hverified (k : Nat) (hk : o.long.index = some k) : ∃ x, (o.dropTake n).stateAt k = some x ∧ x ≠ .opened ∧ x ≠ .closing := by
    rw [hstate, if_neg (h.ne_verified hn hk)]
    exact h.verified k hk
  have hstates (i : Nat) (hi : i ∈ o.queue.filter (· != n)) :
      ∃ x, (o.dropTake n).stateAt i = some x ∧ (x = .opened ∨ x = .closing) ∧ (x = .opened ↔ o.openTake = some i) := by
    obtain ⟨h1, h2⟩ := hqueued i hi
    rw [hstate, if_neg h2]
    exact h.queue.states i h1
  have hblocked : o.long.blocksJournal = true → o.queue.filter (· != n) = [] := fun hb => by rw [h.blocked hb]; rfl
  split
  · next hopen =>
    refine {
      engine := .of_closed (.inl rfl) rfl rfl rfl (by exact .nil)
      mount := ⟨hmount.mounting, hmount.empty, hmount.scanning, hmount.next, hmount.idle⟩
      queue := ⟨h.queue.ascending.sublist List.filter_sublist, fun i hi => h.queue.below i (hqueued i hi).1, fun i hi => ?_, fun k hk => by cases hk⟩
      blocked := hblocked
      verified := hverified
      reach := h.reach
      held := fun _ => ⟨fun hne => absurd rfl hne, fun htake => by cases htake⟩
      scanned := h.scanned
      indexed := fun hI => indexed_modifyShape keeps_abandoned n (h.indexed hI) }
    obtain ⟨x, hx, hxState, hxOpen⟩ := hstates i hi
    have hnot : x ≠ .opened := fun hc => (hqueued i hi).2 (Option.some.inj ((hxOpen.1 hc).symm.trans hopen))
    exact ⟨x, hx, hxState, fun hc => absurd hc hnot, fun hc => by cases hc⟩
  · next hopen =>
    exact {
      engine := ⟨h.engine.opened, h.engine.tailed, h.engine.holders⟩
      mount := ⟨hmount.mounting, hmount.empty, hmount.scanning, hmount.next, hmount.idle⟩
      queue := ⟨h.queue.ascending.sublist List.filter_sublist, fun i hi => h.queue.below i (hqueued i hi).1, hstates, fun k hk =>
        List.mem_filter.2 ⟨h.queue.openQueued k hk, bne_iff_ne.2 fun hkn : k = n => hopen (hkn ▸ hk)⟩⟩
      blocked := hblocked
      verified := hverified
      reach := h.reach
      held := h.held
      scanned := h.scanned
      indexed := fun hI => indexed_modifyShape keeps_abandoned n (h.indexed hI) }

/-- What abandoning a take leaves as it was. -/
structure AsStood (o o' : Outline) : Prop where
  clock : o'.clock = o.clock
  media : o'.media = o.media
  mount : o'.mount = o.mount
  profiled : o'.profiled = o.profiled
  long : o'.long = o.long
  /-- An open take is the one that was open. -/
  openTake : ∀ k, o'.openTake = some k → o.openTake = some k

theorem AsStood.refl (o : Outline) : o.AsStood o := ⟨rfl, rfl, rfl, rfl, rfl, fun _ h => h⟩

theorem AsStood.trans {o' o'' : Outline} (h : o.AsStood o') (h' : o'.AsStood o'') : o.AsStood o'' :=
  ⟨h'.clock.trans h.clock, h'.media.trans h.media, h'.mount.trans h.mount, h'.profiled.trans h.profiled, h'.long.trans h.long,
    fun k hk => h.openTake k (h'.openTake k hk)⟩

theorem asStood_abandon (o : Outline) (n : Nat) : o.AsStood (o.abandon n) := by
  unfold Outline.abandon
  split
  · split
    · exact ⟨rfl, rfl, rfl, rfl, rfl, fun k hk => by cases hk⟩
    · exact ⟨rfl, rfl, rfl, rfl, rfl, fun k hk => hk⟩
  · exact .refl o

theorem queue_abandon (o : Outline) (n : Nat) : (o.abandon n).queue = o.queue.filter (· != n) := by
  unfold Outline.abandon
  split
  · split <;> rfl
  · next hn =>
    refine (List.filter_eq_self.2 fun i hi => ?_).symm
    simp only [bne_iff_ne, ne_eq]
    rintro rfl
    exact hn hi

theorem asStood_abandons (l : List Nat) (o : Outline) : o.AsStood (l.foldl Outline.abandon o) := by
  induction l generalizing o with
  | nil => exact .refl o
  | cons n l ih => exact (o.asStood_abandon n).trans (ih _)

theorem queue_abandons (l : List Nat) (o : Outline) : (l.foldl Outline.abandon o).queue = o.queue.filter (· ∉ l) := by
  induction l generalizing o with
  | nil => simp
  | cons n l ih =>
    rw [List.foldl_cons, ih, queue_abandon, List.filter_filter]
    refine List.filter_congr fun i _ => ?_
    by_cases hi : i = n <;> by_cases hl : i ∈ l <;> simp [hi, hl]

theorem Mid.abandons (h : o.Mid C H I) (hnone : o.mount = .none) (l : List Nat) : (l.foldl Outline.abandon o).Mid C H I := by
  induction l generalizing o with
  | nil => exact h
  | cons n l ih => exact ih (h.abandon hnone n) ((o.asStood_abandon n).mount.trans hnone)

/-! ### Opening -/

/-- A take joins the mirror and the queue, OPEN. -/
def addOpen (o : Outline) (x : TakeState) (hs : List TakeKey) (tailed : Bool) : Outline :=
  { o with
    slots := o.slots ++ [⟨some (o.nextIndex, .opened), false⟩], nextIndex := o.nextIndex + 1, queue := o.queue ++ [o.nextIndex]
    openTake := some o.nextIndex, take := x, holders := hs, tailed := tailed }

theorem stateAt_some_le {x : RecordState} (h : o.stateAt n = some x) : 1 ≤ n ∧ n ≤ o.slots.length := by
  unfold stateAt shapeAt at h
  split at h
  · cases h
  · next hn =>
    cases hx : o.slots[n - 1]? with
    | none => rw [hx] at h; cases h
    | some sh =>
      obtain ⟨hlt, -⟩ := List.getElem?_eq_some_iff.1 hx
      omega

theorem Mid.addOpen (h : o.Mid C H I) (hopen : o.openTake = none) (hnone : o.mount = .none) (hmedia : o.media.Carded) (hroom : o.nextIndex ≤ journalSlots)
    (hfree : o.long.blocksJournal = false) {x : TakeState} {hs : List TakeKey} {tailed : Bool} (hx : x = .rolling ∨ x = .tail)
    (htailed : tailed = true ↔ x = .tail) (hsorted : (hs.map (·.origin)).Pairwise (· < ·)) (hheld : H → (hs ≠ [] ↔ x = .rolling)) :
    (o.addOpen x hs tailed).Mid C H I := by
  have hnext := h.mount.next_of hnone
  have hshape (k : Nat) : (o.addOpen x hs tailed).shapeAt k = if k = o.nextIndex then some ⟨some (o.nextIndex, .opened), false⟩ else o.shapeAt k := by
    unfold shapeAt
    by_cases hk : k = 0
    · rw [if_pos hk, if_neg (by omega), if_pos hk]
    · rw [if_neg hk, if_neg hk]
      show (o.slots ++ [_])[k - 1]? = _
      rw [List.getElem?_append]
      split
      · rw [if_neg (by omega)]
      · by_cases hkn : k = o.nextIndex
        · rw [if_pos hkn, show k - 1 - o.slots.length = 0 by omega]
          rfl
        · rw [if_neg hkn, List.getElem?_eq_none (by simp; omega), List.getElem?_eq_none (by omega)]
  have hstate (k : Nat) : (o.addOpen x hs tailed).stateAt k = if k = o.nextIndex then some .opened else o.stateAt k := by
    unfold stateAt
    rw [hshape]
    split <;> rfl
  refine {
    engine := ⟨⟨fun _ => hx, fun _ => rfl⟩, htailed, hsorted⟩
    mount := ⟨h.mount.mounting, fun he => ?_, fun next hn => ?_, fun _ => ⟨?_, ?_⟩, h.mount.idle⟩
    queue := ⟨?_, fun i hi => ?_, fun i hi => ?_, fun k hk => ?_⟩
    blocked := fun hb => ?_
    verified := fun k hk => ?_
    reach := h.reach
    held := hheld
    scanned := h.scanned
    indexed := fun hI k y hy => ?_ }
  · have hnot : ¬ (o.media = .absent ∨ o.mount = .sizing ∨ o.mount = .header) := by simp [hmedia.1, hnone]
    exact absurd he hnot
  · have : o.mount.scanning = some next := hn
    rw [hnone] at this
    cases this
  · show (o.slots ++ [_]).length + 1 = o.nextIndex + 1
    rw [List.length_append, List.length_singleton]
    omega
  · show o.nextIndex + 1 ≤ journalSlots + 1
    omega
  · refine List.pairwise_append.2 ⟨h.queue.ascending, List.pairwise_singleton _ _, fun i hi j hj => ?_⟩
    obtain rfl := List.mem_singleton.1 hj
    exact h.queue.below i hi
  · show i < o.nextIndex + 1
    rcases List.mem_append.1 hi with hi | hi
    · have := h.queue.below i hi
      omega
    · obtain rfl := List.mem_singleton.1 hi
      omega
  · rw [hstate]
    rcases List.mem_append.1 hi with hi | hi
    · have hlt := h.queue.below i hi
      rw [if_neg hlt.ne]
      obtain ⟨y, hy, hyState, hyOpen⟩ := h.queue.states i hi
      refine ⟨y, hy, hyState, fun hc => ?_, fun hc => ?_⟩
      · rw [hyOpen.1 hc] at hopen
        cases hopen
      · exact absurd (Option.some.inj hc).symm hlt.ne
    · obtain rfl := List.mem_singleton.1 hi
      rw [if_pos rfl]
      exact ⟨_, rfl, .inl rfl, fun _ => rfl, fun _ => rfl⟩
  · cases hk
    exact List.mem_append_right _ (List.mem_singleton_self _)
  · have hb' : o.long.blocksJournal = true := hb
    rw [hfree] at hb'
    cases hb'
  · obtain ⟨y, hy, hyState⟩ := h.verified k hk
    have := stateAt_some_le hy
    rw [hstate, if_neg (by omega)]
    exact ⟨y, hy, hyState⟩
  · rw [hshape] at hy
    split at hy
    · next hk =>
      cases hy
      exact hk.symm
    · exact h.indexed hI k y hy

end Outline

end Sys2Proof.Machine

/-! The operations that open, close and abandon takes keep the blocks coherent. -/

namespace Sys2Proof.Machine

variable {C H I : Prop} {s t : State} {n : Nat}

namespace Outline

variable {o : Outline}

theorem Done.setLong (h : o.Done C H I) : ({ o with long := .idle } : Outline).Done C H I :=
  h.idle.done h.offline h.carded h.ready

/-- With a take open the station is not OFFLINE. -/
theorem Mid.done_of_open (h : o.Mid C H I) (hopen : o.openTake.isSome = true) (hmedia : o.media = .ready) (hclock : o.clock = .running)
    (hready : H → o.profiled = true) : o.Done C H I := by
  refine h.done ⟨fun hoff => ?_, fun hnot => absurd ⟨hmedia, hclock⟩ hnot⟩ (fun hnot => absurd hmedia hnot.1) fun hH _ => hready hH
  have := h.engine.opened.1 hopen
  rw [hoff] at this
  rcases this with hx | hx <;> cases hx

/-- A queued take is cut: it becomes CLOSING, and is no longer open (R46, R56, R57, R142). -/
def cut (o : Outline) (x : TakeState) (n : Nat) : Outline :=
  if o.openTake = some n then { o.clearOpen.setState n .closing with take := x } else o.setState n .closing

theorem Mid.cut (h : o.Mid C H I) (hn : n ∈ o.queue) {x : TakeState} (hx : x = .offline ∨ x = .standby) : (o.cut x n).Mid C H I := by
  unfold Outline.cut
  split
  · next hopen => exact h.closeOpen hopen hx
  · next hopen => exact h.closeOther hn hopen

theorem asStood_cut (o : Outline) (x : TakeState) (n : Nat) : o.AsStood (o.cut x n) := by
  unfold Outline.cut
  split
  · exact ⟨rfl, rfl, rfl, rfl, rfl, fun k hk => by cases hk⟩
  · exact ⟨rfl, rfl, rfl, rfl, rfl, fun k hk => hk⟩

theorem openTake_cut (o : Outline) (x : TakeState) (n k : Nat) (h : (o.cut x n).openTake = some k) : k ≠ n := by
  unfold Outline.cut at h
  split at h
  · cases h
  · next hopen =>
    rintro rfl
    exact hopen h

theorem queue_cut (o : Outline) (x : TakeState) (n : Nat) : (o.cut x n).queue = o.queue := by
  unfold Outline.cut
  split <;> rfl

end Outline

namespace State

theorem mem_outline_queue (s : State) (n : Nat) : n ∈ s.outline.queue ↔ (s.entryOf n).isSome = true := by
  unfold entryOf
  rw [List.find?_isSome]
  show n ∈ s.writer.queue.map (·.index) ↔ _
  simp [List.mem_map]

/-! ### Abandoning and cutting -/

theorem outline_abandonTake (f : TakeFlag) (s : State) (n : Nat) : (State.abandonTake f s n).outline = s.outline.abandon n := by
  have hmem := s.mem_outline_queue n
  unfold abandonTake Outline.abandon
  cases he : s.entryOf n with
  | none => rw [if_neg (by rw [hmem, he]; simp)]
  | some e =>
    rw [if_pos (by rw [hmem, he]; rfl)]
    dsimp only
    have hdropped : ((({ (s.withdraw (s.writesOf n)).dropEntry n with
        writer := { ((s.withdraw (s.writesOf n)).dropEntry n).writer with
          buffers := Vector.ofFn fun i => (((s.withdraw (s.writesOf n)).dropEntry n).writer.buffers[i]).abandon n } } : State).modifySlot n
        fun sl => { sl with entry := sl.entry.mapRecord (·.abandon f e.durBytes), keptBytes := some e.durBytes }).changeRecord n).outline
          = s.outline.dropTake n := by
      rw [outline_changeRecord]
      refine (State.outline_modifySlot _ n (h := Outline.Shape.abandoned) fun sl _ => ?_).trans ?_
      · unfold MirrorSlot.shape Outline.Shape.abandoned
        cases sl.entry <;> rfl
      · have hbefore : ({ (s.withdraw (s.writesOf n)).dropEntry n with
            writer := { ((s.withdraw (s.writesOf n)).dropEntry n).writer with
              buffers := Vector.ofFn fun i => (((s.withdraw (s.writesOf n)).dropEntry n).writer.buffers[i]).abandon n } } : State).outline
            = { s.outline with queue := s.outline.queue.filter (· != n) } := (s.withdraw (s.writesOf n)).outline_dropEntry n
        rw [hbefore]
        rfl
    show (if s.engine.openTake = some n then _ else _ : State).outline = if s.engine.openTake = some n then _ else _
    split
    · rw [outline_setTake, outline_clearOpen, hdropped]
    · exact hdropped

theorem outline_abandonTakes (f : TakeFlag) (l : List Nat) (s : State) : (l.foldl (State.abandonTake f) s).outline = l.foldl Outline.abandon s.outline := by
  induction l generalizing s with
  | nil => rfl
  | cons n l ih => rw [List.foldl_cons, ih, outline_abandonTake, List.foldl_cons]

theorem outline_cutFull (s : State) (hn : n ∈ s.outline.queue) : (s.cutFull n).outline = s.outline.cut .offline n := by
  obtain ⟨e, he⟩ := Option.isSome_iff_exists.1 ((s.mem_outline_queue n).1 hn)
  unfold cutFull Outline.cut
  rw [he]
  show ((flagRecord n .mediaFull (if s.engine.openTake = some n then _ else _)).closeTake n e.next).outline = if s.engine.openTake = some n then _ else _
  rw [outline_closeTake, outline_flagRecord]
  split <;> rfl

/-! ### The take being filled (R124) -/

theorem needsFrames_of_open (h : s.outline.QueueOk) {y : QueueEntry} (hy : y ∈ s.writer.queue) (hopen : s.engine.openTake = some y.index) :
    s.needsFrames y = true := by
  obtain ⟨x, hx, -, hxo⟩ := h.states y.index (List.mem_map_of_mem hy)
  rw [State.stateAt_outline] at hx
  obtain ⟨r, hr, rfl⟩ := Option.map_eq_some_iff.1 hx
  unfold needsFrames
  rw [hr]
  simp [hxo.2 hopen]

theorem open_entry (h : s.outline.QueueOk) (hopen : s.engine.openTake = some n) : ∃ y ∈ s.writer.queue, y.index = n :=
  List.mem_map.1 (h.openQueued n hopen)

theorem openTake_of_filling_none (h : s.outline.QueueOk) (hfilling : s.filling = none) : s.outline.openTake = none := by
  show s.engine.openTake = none
  cases hopen : s.engine.openTake with
  | none => rfl
  | some n =>
    obtain ⟨y, hy, rfl⟩ := open_entry h hopen
    have := List.find?_eq_none.1 hfilling y hy
    rw [needsFrames_of_open h hy hopen] at this
    exact absurd rfl this

theorem openTake_of_filling {e : QueueEntry} (h : s.outline.QueueOk) (hfilling : s.filling = some e) :
    e.index ∈ s.outline.queue ∧ ∀ k, s.outline.openTake = some k → k = e.index ∨ k ∈ s.behind e.index := by
  refine ⟨List.mem_map_of_mem (List.mem_of_find?_eq_some hfilling), fun k hk => ?_⟩
  obtain ⟨y, hy, rfl⟩ := open_entry h hk
  obtain ⟨pre, post, hqueue, hpre, hbehind, -⟩ := behind_of_filling hfilling h.ascending
  rw [hqueue] at hy
  rcases List.mem_append.1 hy with hy' | hy'
  · have := hpre y hy'
    rw [needsFrames_of_open h (by rw [hqueue]; exact hy) hk] at this
    cases this
  · rcases List.mem_cons.1 hy' with rfl | hy'
    · exact .inl rfl
    · rw [hbehind]
      exact .inr (List.mem_map_of_mem hy')

/-! ### MEDIA FULL (R113, R142) -/

/-- With no take open and no take needed on a card that is READY, the station follows media and clock. -/
theorem refresh_of_closed {o : Outline} (h : o.Mid C H I) (hopen : o.openTake = none) (hcard : o.media ≠ .ready ∧ o.media ≠ .full → o.queue = [])
    (hready : H → o.media = .ready → o.profiled = true) : o.refresh.Done C H I := h.refresh (fun ho => by rw [hopen] at ho; cases ho) hcard hready

/-- A card that is FULL, with no take open. -/
theorem refresh_of_full {o : Outline} (h : o.Mid C H I) (hopen : o.openTake = none) (hfull : o.media = .full) : o.refresh.Done C H I :=
  refresh_of_closed h hopen (fun hn => absurd hfull hn.2) fun _ hr => by rw [hfull] at hr; cases hr

/-- After the cut of the take being filled and the end of those behind it no take is open. -/
theorem full_of_filling {o : Outline} {l : List Nat} (h : o.Mid C H I) (hnone : o.mount = .none)
    (hopen : ∀ k, o.openTake = some k → k ∈ l) (hfull : o.media = .full) : (l.foldl Outline.abandon o).refresh.Done C H I := by
  have hstood := o.asStood_abandons l
  have hmid := h.abandons hnone l
  refine refresh_of_full hmid ?_ (hstood.media.trans hfull)
  cases hk : (l.foldl Outline.abandon o).openTake with
  | none => rfl
  | some k =>
    have hin := hmid.queue.openQueued k hk
    rw [Outline.queue_abandons] at hin
    have := (List.mem_filter.1 hin).2
    simp only [decide_eq_true_eq] at this
    exact absurd (hopen k (hstood.openTake k hk)) this

theorem done_runRefused (h : s.outline.Done C H I) (hcard : s.media.state.Carded) (failing : Option Nat) : (s.runRefused failing).outline.Done C H I := by
  have hnone : s.outline.mount = .none := h.mount.none_of hcard.2
  have hfullCarded : MediaState.full.Carded := ⟨by decide, by decide⟩
  have hfull : ({ s.outline with media := .full } : Outline).Mid C H I := h.withMedia hfullCarded hcard
  unfold runRefused
  dsimp only
  split
  · next hafter =>
    rw [outline_refreshStation]
    obtain ⟨n, rfl⟩ := Option.isSome_iff_exists.1 hafter.2
    dsimp only
    rw [outline_abandonTake]
    have hstood := s.outline.asStood_abandon n
    refine refresh_of_full (h.abandon hnone n) ?_ (hstood.media.trans hafter.1)
    cases hk : (s.outline.abandon n).openTake with
    | none => rfl
    | some k =>
      have := h.running (by rw [hstood.openTake k hk]; rfl)
      exact absurd (this.1.symm.trans hafter.1) (by decide)
  · rw [outline_refreshStation]
    cases hfilling : s.filling with
    | none =>
      have hopen := openTake_of_filling_none h.queue hfilling
      cases failing with
      | none => exact refresh_of_full hfull hopen rfl
      | some n =>
        dsimp only [Option.map_none]
        rw [outline_abandonTake, outline_setMedia]
        have hstood := Outline.asStood_abandon { s.outline with media := .full } n
        refine refresh_of_full (hfull.abandon hnone n) ?_ hstood.media
        cases hk : (Outline.abandon { s.outline with media := .full } n).openTake with
        | none => rfl
        | some k => exact absurd (hstood.openTake k hk) (by rw [show ({ s.outline with media := .full } : Outline).openTake = none from hopen]; simp)
    | some e =>
      obtain ⟨hin, hopen⟩ := openTake_of_filling h.queue hfilling
      dsimp only [Option.map_some]
      rw [outline_abandonTakes]
      cases failing with
      | none =>
        rw [if_neg (by simp), outline_cutFull _ (by exact hin), outline_setMedia]
        have hstood := Outline.asStood_cut { s.outline with media := .full } .offline e.index
        refine full_of_filling (hfull.cut (by exact hin) (.inl rfl)) (hstood.mount.trans hnone) (fun k hk => ?_) hstood.media
        exact (hopen k (hstood.openTake k hk)).resolve_left (Outline.openTake_cut _ _ _ _ hk)
      | some n =>
        have hstood := Outline.asStood_abandon { s.outline with media := .full } n
        have hmid := hfull.abandon hnone n
        have hqueue := Outline.queue_abandon { s.outline with media := .full } n
        split
        · next hn =>
          obtain rfl := Option.some.inj hn
          rw [outline_abandonTake, outline_setMedia]
          refine full_of_filling hmid (hstood.mount.trans hnone) (fun k hk => ?_) hstood.media
          refine (hopen k (hstood.openTake k hk)).resolve_left ?_
          rintro rfl
          have := hmid.queue.openQueued _ hk
          rw [hqueue] at this
          simpa using (List.mem_filter.1 this).2
        · next hn =>
          have hne : e.index ≠ n := fun hc => hn (by rw [hc])
          have hout : (State.abandonTake .mediaFull (s.setMedia .full) n).outline = Outline.abandon { s.outline with media := .full } n := by
            rw [outline_abandonTake, outline_setMedia]
          have hin' : e.index ∈ (Outline.abandon { s.outline with media := .full } n).queue := by
            rw [hqueue]
            exact List.mem_filter.2 ⟨hin, by simpa using hne⟩
          rw [outline_cutFull _ (by rw [hout]; exact hin'), hout]
          have hcut := Outline.asStood_cut (Outline.abandon { s.outline with media := .full } n) .offline e.index
          refine full_of_filling (hmid.cut hin' (.inl rfl)) ((hcut.mount.trans hstood.mount).trans hnone) (fun k hk => ?_) (hcut.media.trans hstood.media)
          exact (hopen k (hstood.openTake k (hcut.openTake k hk))).resolve_left (Outline.openTake_cut _ _ _ _ hk)

/-! ### The media fault (R114, R144) and the end of a long operation -/

theorem done_abortRelease (h : s.outline.Done C H I) : s.abortRelease.outline.Done C H I := by
  unfold abortRelease
  split
  · exact h.setLong
  all_goals exact h

theorem done_abortPreparation (h : s.outline.Done C H I) : s.abortPreparation.outline.Done C H I := by
  unfold abortPreparation
  split
  · exact h.setLong
  · exact done_abortRelease h
  all_goals exact h

theorem done_faultMedia (h : s.outline.Done C H I) (hcard : s.media.state.Carded) : s.faultMedia.outline.Done C H I := by
  have hnone : s.outline.mount = .none := h.mount.none_of hcard.2
  unfold faultMedia
  split
  · exact done_abortPreparation h
  · refine done_abortPreparation ?_
    rw [outline_announce, outline_refreshStation, outline_abandonTakes, outline_discardWrites, outline_setMedia]
    have hfault : ({ s.outline with media := .faulted } : Outline).Mid C H I := h.withMedia ⟨by decide, by decide⟩ hcard
    have hqueue : ((s.setMedia .faulted).discardWrites.writer.queue.map (·.index)) = s.outline.queue :=
      congrArg Outline.queue ((s.setMedia .faulted).outline_discardWrites.trans (s.outline_setMedia .faulted))
    rw [hqueue]
    have hstood := Outline.asStood_abandons s.outline.queue { s.outline with media := .faulted }
    have hmid := hfault.abandons hnone s.outline.queue
    have hempty : (s.outline.queue.foldl Outline.abandon { s.outline with media := .faulted }).queue = [] := by
      rw [Outline.queue_abandons]
      exact List.filter_eq_nil_iff.2 fun i hi => by simpa using hi
    refine refresh_of_closed hmid (hmid.openTake_none hempty) (fun _ => hempty) fun _ hr => ?_
    rw [hstood.media] at hr
    cases hr

/-! ### Abandoning one take -/

/-- One take is abandoned, and the station follows. -/
theorem done_abandonTake (h : s.outline.Done C H I) (f : TakeFlag) (n : Nat) (hcard : s.media.state.Carded) :
    (State.abandonTake f s n).refreshStation.outline.Done C H I := by
  have hnone : s.outline.mount = .none := h.mount.none_of hcard.2
  have hstood := s.outline.asStood_abandon n
  rw [outline_refreshStation, outline_abandonTake]
  refine (h.abandon hnone n).refresh (fun hopen => ?_) (fun hm => ?_) fun hH hr => ?_
  · obtain ⟨k, hk⟩ := Option.isSome_iff_exists.1 hopen
    rw [hstood.media, hstood.clock]
    exact h.running (by rw [hstood.openTake k hk]; rfl)
  · rw [hstood.media] at hm
    rw [Outline.queue_abandon, h.carded hm]
    rfl
  · rw [hstood.profiled]
    rw [hstood.media] at hr
    exact h.ready hH hr

/-! ### Opening and splitting -/

theorem outline_addTake (s : State) (r : Record) (w : Nat) : (s.addTake r w).outline = { s.outline with
    slots := s.outline.slots ++ [⟨some r.shape, false⟩], nextIndex := s.outline.nextIndex + 1, queue := s.outline.queue ++ [r.index] } := by
  unfold addTake
  rw [outline_askWrite]
  unfold outline
  dsimp only
  rw [List.map_append, List.map_append]
  rfl

theorem outline_openTake (s : State) (p : Profile) (key : TakeKey) (pt : Point) : (s.openTake p key pt).outline = s.outline.addOpen .rolling [key] false := by
  unfold openTake
  dsimp only
  generalize hrec : (if (takeStart s.intake.rate p.preRoll s.intake.position pt.position).1 < s.intake.oldestHeld then _ else _ : Record) = r
  have hshape : r.shape = (s.journal.nextIndex, .opened) := by
    rw [← hrec]
    split
    · exact Record.shape_charge ..
    · rfl
  have hindex : r.index = s.journal.nextIndex := congrArg Prod.fst hshape
  have hadd := s.outline_addTake r (max (takeStart s.intake.rate p.preRoll s.intake.position pt.position).1 s.intake.oldestHeld)
  rw [hshape, hindex] at hadd
  rw [hindex]
  refine Eq.trans (b := { (s.addTake r (max (takeStart s.intake.rate p.preRoll s.intake.position pt.position).1 s.intake.oldestHeld)).outline with
    take := .rolling, openTake := some s.journal.nextIndex, holders := [key], tailed := false }) rfl ?_
  rw [hadd]
  rfl

theorem done_openTake (h : s.outline.Done C H I) (p : Profile) (key : TakeKey) (pt : Point) (hopen : s.engine.openTake = none)
    (hrefusal : s.refusalOf = none) : (s.openTake p key pt).outline.Done C H I := by
  unfold refusalOf at hrefusal
  split at hrefusal
  · cases hrefusal
  next hstate =>
  split at hrefusal
  · cases hrefusal
  next hroom =>
  rw [not_or] at hstate
  have hready : s.outline.media = .ready ∧ s.outline.clock = .running := by
    by_contra hnot
    exact hstate.1 (h.offline.2 hnot)
  have hcarded : s.outline.media.Carded := by rw [hready.1]; exact ⟨by decide, by decide⟩
  rw [outline_openTake]
  refine Outline.Mid.done_of_open (h.toMid.addOpen hopen (h.mount.none_of hcarded.2) hcarded (Nat.le_of_not_lt hroom) (Bool.eq_false_iff.2 hstate.2) (.inl rfl)
    (by simp) (List.pairwise_singleton _ _) fun _ => by simp) rfl hready.1 hready.2 fun hH => h.ready hH hready.1

theorem outline_doSplit (s : State) (x : Nat) {r : Record} (hr : s.recordAt n = some r) : (s.doSplit n x).outline
    = ({ s.outline.clearOpen.setState n .closing with take := .standby } : Outline).addOpen s.outline.take s.outline.holders s.outline.tailed := by
  unfold doSplit
  rw [hr]
  dsimp only
  rw [outline_finishIfDone]
  have hcut : (s.modifyRecord n (Record.splitOff x)).outline = s.outline.setState n .closing := s.outline_modifyRecord_state n .closing fun _ => ⟨rfl, rfl⟩
  have hnext : (s.modifyRecord n (Record.splitOff x)).journal.nextIndex = s.journal.nextIndex := congrArg Outline.nextIndex hcut
  have hadd := (s.modifyRecord n (Record.splitOff x)).outline_addTake ((s.modifyRecord n (Record.splitOff x)).continuation r x (movedMarkers r x)) x
  have hindex : ((s.modifyRecord n (Record.splitOff x)).continuation r x (movedMarkers r x)).index = s.journal.nextIndex := hnext
  have hshape : ((s.modifyRecord n (Record.splitOff x)).continuation r x (movedMarkers r x)).shape = (s.journal.nextIndex, .opened) :=
    congrArg (·, RecordState.opened) hnext
  rw [hshape, hindex, hcut] at hadd
  have hopened : ({ (s.modifyRecord n (Record.splitOff x)).addTake ((s.modifyRecord n (Record.splitOff x)).continuation r x (movedMarkers r x)) x with
      engine := { ((s.modifyRecord n (Record.splitOff x)).addTake ((s.modifyRecord n (Record.splitOff x)).continuation r x (movedMarkers r x)) x).engine with
        openTake := some s.journal.nextIndex } } : State).outline
      = ({ s.outline.clearOpen.setState n .closing with take := .standby } : Outline).addOpen s.outline.take s.outline.holders s.outline.tailed := by
    refine Eq.trans (b := { ((s.modifyRecord n (Record.splitOff x)).addTake ((s.modifyRecord n (Record.splitOff x)).continuation r x (movedMarkers r x)) x).outline with
      openTake := some s.journal.nextIndex }) rfl ?_
    rw [hadd]
    rfl
  split
  · exact hopened
  · rw [outline_changeRecord, outline_changeRecord]
    exact hopened

/-- An accepted split keeps a take open (R55). -/
theorem done_doSplit (h : s.outline.Done C H I) (x : Nat) (hopen : s.engine.openTake = some n) (haccepted : s.splitAccepted = true) :
    (s.doSplit n x).outline.Done C H I := by
  obtain ⟨y, hy, -⟩ := h.queue.states n (h.queue.openQueued n hopen)
  rw [State.stateAt_outline] at hy
  obtain ⟨r, hr, -⟩ := Option.map_eq_some_iff.1 hy
  have hsome : s.outline.openTake.isSome = true := by
    show s.engine.openTake.isSome = true
    rw [hopen]
    rfl
  obtain ⟨hready, hclock⟩ := h.running hsome
  have hcarded : s.outline.media.Carded := by rw [hready]; exact ⟨by decide, by decide⟩
  simp only [splitAccepted, Bool.and_eq_true, decide_eq_true_eq] at haccepted
  have hfree : s.outline.long.blocksJournal = false := by
    cases hb : s.outline.long.blocksJournal with
    | false => rfl
    | true =>
      have := h.queue.openQueued n hopen
      rw [h.blocked hb] at this
      cases this
  rw [outline_doSplit s x hr]
  exact Outline.Mid.done_of_open ((h.toMid.closeOpen hopen (.inr rfl)).addOpen rfl (h.mount.none_of hcarded.2) hcarded haccepted.2 hfree
    (h.engine.opened.1 hsome) h.engine.tailed h.engine.holders h.held) rfl hready hclock fun hH => h.ready hH hready

/-- The open take is cut, and the station is in STANDBY (R46, R47, R56). -/
theorem done_closeOpen {o : Outline} (h : o.Done C H I) (hopen : o.openTake = some n) :
    ({ o.clearOpen.setState n .closing with take := .standby } : Outline).Done C H I := by
  obtain ⟨hready, hclock⟩ := h.running (by rw [hopen]; rfl)
  refine (h.toMid.closeOpen hopen (.inr rfl)).done ⟨fun hoff => (by cases hoff), fun hnot => absurd ⟨hready, hclock⟩ hnot⟩ (fun hnot => absurd hready hnot.1) h.ready

theorem done_refuseSplit (h : s.outline.Done C H I) (x : Nat) (hopen : s.engine.openTake = some n) : (s.refuseSplit n x).outline.Done C H I := by
  rw [outline_refuseSplit]
  exact done_closeOpen h hopen

theorem done_splitAt (h : s.outline.Done C H I) (x : Nat) (hopen : s.engine.openTake = some n) : (s.splitAt n x).outline.Done C H I := by
  unfold splitAt
  split
  · next haccepted => exact done_doSplit h x hopen haccepted
  · exact done_refuseSplit h x hopen

/-! ### Drawing and remapping -/

theorem done_of_eq (h : s.outline.Done C H I) (ht : t.outline = s.outline) : t.outline.Done C H I := by
  rw [ht]
  exact h

theorem done_openAndDraw (h : s.outline.Done C H I) (n b : Nat) (f : RingFrame) (hcard : s.media.state.Carded) : (s.openAndDraw n b f).outline.Done C H I := by
  unfold openAndDraw
  split
  · split
    · exact done_runRefused h hcard none
    · next run u hrun =>
      have hu := outline_allocate hrun
      split
      · exact done_abandonTake (done_of_eq h hu) _ n (by rw [show u.media.state = s.media.state from congrArg Outline.media hu]; exact hcard)
      · refine done_of_eq h ?_
        rw [outline_accountDraw, outline_openBuffer]
        refine (State.outline_modifyRecord_same _ _ fun r => ?_).trans hu
        rfl
  · exact h

theorem done_drawOpening (h : s.outline.Done C H I) (r : Record) (e : QueueEntry) (f : RingFrame) (hcard : s.media.state.Carded) :
    (s.drawOpening r e f).outline.Done C H I := by
  unfold drawOpening
  split
  · exact h
  · split
    · next hopen =>
      split
      · next haccepted =>
        have hsplit := done_doSplit h e.next hopen.1 haccepted
        refine done_openAndDraw hsplit _ _ _ ?_
        obtain ⟨y, hy, -⟩ := h.queue.states e.index (h.queue.openQueued _ hopen.1)
        rw [State.stateAt_outline] at hy
        obtain ⟨r, hr, -⟩ := Option.map_eq_some_iff.1 hy
        rw [show (s.doSplit e.index e.next).media.state = s.media.state from congrArg Outline.media (outline_doSplit s e.next hr)]
        exact hcard
      · exact done_refuseSplit h _ hopen.1
    · exact done_openAndDraw h _ _ _ hcard

theorem carded_of_queue {o : Outline} (h : o.Done C H I) (hn : n ∈ o.queue) : o.media.Carded := by
  rcases h.carded_of_queued hn with hm | hm <;> rw [hm] <;> exact ⟨by decide, by decide⟩

theorem done_drawFrame (h : s.outline.Done C H I) : s.drawFrame.outline.Done C H I := by
  unfold drawFrame
  split
  · exact h
  · next e hfilling =>
    have hcard : s.media.state.Carded := carded_of_queue h (List.mem_map_of_mem (List.mem_of_find?_eq_some hfilling))
    split
    · exact h
    · split
      · exact h
      · split
        · split
          · exact done_of_eq h ((outline_accountDraw ..).trans (outline_fillBuffer ..))
          · exact done_drawOpening h _ _ _ hcard
        · exact done_drawOpening h _ _ _ hcard

theorem done_remapSegment (h : s.outline.Done C H I) (b : Nat) (seg : Segment) (p : Piece) (bad : Nat) (hcard : s.media.state.Carded) :
    (s.remapSegment b seg p bad).outline.Done C H I := by
  have hcardOf {u : State} (hu : u.outline = s.outline) : u.media.state.Carded := by
    rw [show u.media.state = s.media.state from congrArg Outline.media hu]
    exact hcard
  unfold remapSegment
  dsimp only
  split
  · exact done_of_eq h (s.outline_growDefect bad)
  · have hcut := fun l : List Extent => ((s.growDefect bad).outline_modifyRecord_same seg.take (f := fun r => { r with extents := l }) fun _ => rfl).trans
      (s.outline_growDefect bad)
    split
    · exact done_abandonTake (done_of_eq h (hcut _)) _ _ (hcardOf (hcut _))
    · have hruns := fun l => (outline_remapRuns segmentBlocks (p.first + p.count - 1 + 1 - bad) (p.segBlock + (bad - p.first)) (maxExtents - l.length)
        ((s.growDefect bad).modifyRecord seg.take fun r => { r with extents := l })).trans (hcut l)
      split
      · exact done_abandonTake (done_of_eq h (hruns _)) _ _ (hcardOf (hruns _))
      · exact done_runRefused (done_of_eq h ((outline_enterPieces ..).trans (hruns _))) (hcardOf ((outline_enterPieces ..).trans (hruns _))) _
      · refine done_of_eq h ?_
        rw [outline_handOver, outline_setBuffer, outline_enterPieces]
        exact hruns _

theorem done_segmentFailed (h : s.outline.Done C H I) (b i bad : Nat) (hcard : s.media.state.Carded) : (s.segmentFailed b i bad).outline.Done C H I := by
  unfold segmentFailed
  split
  · exact h
  · split
    · exact h
    · dsimp only
      split
      · exact h
      · split
        · exact done_faultMedia (s := s.setBuffer ..) h hcard
        · rw [outline_announce]
          exact done_remapSegment (s := s.setBuffer ..) h _ _ _ _ hcard

end State

end Sys2Proof.Machine

/-! The mount and its scan keep the blocks coherent. -/

namespace Sys2Proof.Machine

variable {C H I : Prop} {s t : State} {n : Nat}

namespace Outline

variable {o : Outline}

theorem Done.offline_of_mounting (h : o.Done C H I) (hm : o.media = .mounting) : o.take = .offline :=
  h.offline.2 fun hc => by rw [hm] at hc; cases hc.1

theorem Done.queue_of_mounting (h : o.Done C H I) (hm : o.media = .mounting) : o.queue = [] := h.carded (by rw [hm]; exact ⟨by decide, by decide⟩)

/-- A mount ends UNPREPARED before its scan (R107). -/
theorem Done.endUnprepared (h : o.Done C H I) (hm : o.media = .mounting) (hs : o.mount.scanning = none) :
    ({ o with media := .unprepared, mount := .none } : Outline).Done C H I :=
  { h with
    engine := ⟨h.engine.opened, h.engine.tailed, h.engine.holders⟩
    mount := ⟨by simp, fun he => (by simp at he), fun next hn => (by cases hn), fun _ => h.mount.next hs, fun hi => (by simp at hi)⟩
    queue := ⟨h.queue.ascending, h.queue.below, h.queue.states, h.queue.openQueued⟩
    scanned := fun _ hs => by cases hs
    reach := fun _ => ⟨nofun, nofun⟩
    offline := by simp [h.offline_of_mounting hm]
    carded := fun _ => h.queue_of_mounting hm
    ready := fun _ hr => by cases hr }

/-- The size read of a mount is followed by its header read (R107). -/
theorem Done.toHeader (h : o.Done C H I) (hm : o.media = .mounting) (hs : o.mount = .sizing) : ({ o with mount := .header } : Outline).Done C H I :=
  { h with
    engine := ⟨h.engine.opened, h.engine.tailed, h.engine.holders⟩
    mount := ⟨by simp [hm], fun _ => h.mount.empty (.inr (.inl hs)), fun next hn => (by cases hn), fun _ => h.mount.next (by rw [hs]; rfl), h.mount.idle⟩
    queue := ⟨h.queue.ascending, h.queue.below, h.queue.states, h.queue.openQueued⟩
    scanned := fun _ hs => by cases hs }

/-- A scan has examined `k` slots, and the next one has not been named (R95). -/
structure Scanned (C H I : Prop) (o : Outline) (k : Nat) : Prop where
  media : o.media = .mounting
  mount : o.mount.scanning.isSome = true
  length : o.slots.length = k
  bound : k ≤ journalSlots
  kept : ∀ sh ∈ o.slots, sh.kept = false
  engine : o.EngineOk
  offline : o.take = .offline
  queue : o.queue = []
  long : o.long = .idle
  reach : C → o.media.Carded
  held : H → (o.holders ≠ [] ↔ o.take = .rolling)
  profiled : H → o.profiled = true
  indexed : I → o.Indexed

theorem Done.scanned_of {next last run : Nat} {results : List (Nat × Option (List Byte))} (h : o.Done C H I) (hm : o.mount = .scan next last run results) :
    o.Scanned C H I (next - 1) ∧ 1 ≤ next ∧ next ≤ journalSlots := by
  have hmedia : o.media = .mounting := by
    by_contra hnot
    have := h.mount.none_of hnot
    rw [hm] at this
    cases this
  obtain ⟨hlen, hle, hkept⟩ := h.mount.scanning next (by rw [hm]; rfl)
  exact ⟨{ media := hmedia, mount := by rw [hm]; rfl, length := by omega, bound := by omega, kept := hkept, engine := h.engine
           offline := h.offline_of_mounting hmedia, queue := h.queue_of_mounting hmedia, long := h.mount.idle (.inr hmedia), reach := h.reach, held := h.held
           profiled := fun hH => h.toMid.scanned hH (by rw [hm]; rfl), indexed := h.indexed }, by omega, hle⟩

/-- The scan goes on to the next slot. -/
theorem Scanned.next {k last run : Nat} {results : List (Nat × Option (List Byte))} (h : o.Scanned C H I k) (hk : k < journalSlots) :
    ({ o with mount := .scan (k + 1) last run results } : Outline).Done C H I :=
  { engine := ⟨h.engine.opened, h.engine.tailed, h.engine.holders⟩
    mount := ⟨by simp [h.media], fun he => (by simp [h.media] at he), fun next hn => (by
      cases hn
      exact ⟨congrArg (· + 1) h.length, hk, h.kept⟩), fun hn => (by cases hn), fun _ => h.long⟩
    queue := ⟨by rw [h.queue]; exact .nil, fun i hi => (by rw [h.queue] at hi; cases hi), fun i hi => (by rw [h.queue] at hi; cases hi),
      fun i hi => (by
        have := h.engine.opened.1 (by rw [show o.openTake = some i from hi]; rfl)
        rw [h.offline] at this
        rcases this with hx | hx <;> cases hx)⟩
    blocked := fun _ => h.queue
    verified := fun i hi => (by rw [h.long] at hi; cases hi)
    reach := h.reach
    held := h.held
    scanned := fun hH _ => h.profiled hH
    indexed := h.indexed
    offline := (by simp [h.media, h.offline])
    carded := fun _ => h.queue
    ready := fun hH _ => h.profiled hH }

/-- A slot joins the mirror. -/
theorem Scanned.enter {k : Nat} (h : o.Scanned C H I k) (hk : k < journalSlots) {x : Option (Nat × RecordState)} (hx : ∀ y, x = some y → y.1 = k + 1) :
    ({ o with slots := o.slots ++ [⟨x, false⟩] } : Outline).Scanned C H I (k + 1) := by
  have hlen := h.length
  refine { h with
    length := by rw [List.length_append, List.length_singleton, hlen]
    bound := hk
    kept := fun sh hsh => ?_
    engine := ⟨h.engine.opened, h.engine.tailed, h.engine.holders⟩
    indexed := fun hI n y hy => ?_ }
  · rcases List.mem_append.1 hsh with hsh | hsh
    · exact h.kept sh hsh
    · obtain rfl := List.mem_singleton.1 hsh
      rfl
  · unfold shapeAt at hy
    split at hy
    · cases hy
    · next hn =>
      dsimp only at hy
      rw [List.getElem?_append] at hy
      split at hy
      · exact h.indexed hI n y (by rw [shapeAt, if_neg hn]; exact hy)
      · by_cases hlast : n - 1 - o.slots.length = 0
        · rw [hlast] at hy
          have := hx y hy
          omega
        · rw [List.getElem?_eq_none (by simp; omega)] at hy
          cases hy

/-- The last slots leave the mirror (R96). -/
theorem Scanned.cut {k : Nat} (h : o.Scanned C H I k) (j : Nat) : ({ o with slots := o.slots.take j } : Outline).Scanned C H I (min j k) := by
  refine { h with
    length := by rw [List.length_take, h.length]
    bound := (Nat.min_le_right _ _).trans h.bound
    kept := fun sh hsh => h.kept sh (List.mem_of_mem_take hsh)
    engine := ⟨h.engine.opened, h.engine.tailed, h.engine.holders⟩
    indexed := fun hI n y hy => ?_ }
  refine h.indexed hI n y ?_
  unfold shapeAt at hy ⊢
  split at hy
  · cases hy
  · next hn =>
    dsimp only at hy
    rw [List.getElem?_take] at hy
    rw [if_neg hn]
    split at hy
    · exact hy
    · cases hy

/-- Recovery of a record found OPEN (R99). -/
def Shape.recovered (sh : Shape) : Shape := { sh with record := sh.record.map fun y => (y.1, if y.2 = .opened then .interrupted else y.2) }

/-- The end of a mount, before the station follows (R97, R99, R107). -/
def mounted (o : Outline) (m : MediaState) : Outline :=
  { o with slots := o.slots.map Shape.recovered, nextIndex := o.slots.length + 1, media := m, mount := .none }

theorem Scanned.mounted {k : Nat} (h : o.Scanned C H I k) {m : MediaState} (hm : m.Carded) : (o.mounted m).Mid C H I := by
  have hlen := h.length
  have hbound := h.bound
  exact {
    engine := ⟨h.engine.opened, h.engine.tailed, h.engine.holders⟩
    mount := ⟨by simp [Outline.mounted, hm.2], fun he => (by simp [Outline.mounted, hm.1] at he), fun next hn => (by cases hn), fun _ => (by
      refine ⟨by simp [Outline.mounted], ?_⟩
      show o.slots.length + 1 ≤ journalSlots + 1
      omega), fun hi => (by simp [Outline.mounted, hm.1, hm.2] at hi)⟩
    queue := ⟨by rw [show (o.mounted m).queue = [] from h.queue]; exact .nil, fun i hi => (by rw [show (o.mounted m).queue = [] from h.queue] at hi; cases hi),
      fun i hi => (by rw [show (o.mounted m).queue = [] from h.queue] at hi; cases hi), fun i hi => (by
        have := h.engine.opened.1 (by rw [show o.openTake = some i from hi]; rfl)
        rw [h.offline] at this
        rcases this with hx | hx <;> cases hx)⟩
    blocked := fun _ => h.queue
    verified := fun i hi => (by rw [show (o.mounted m).long = .idle from h.long] at hi; cases hi)
    reach := fun _ => hm
    held := h.held
    scanned := fun _ hs => (by cases hs)
    indexed := fun hI n y hy => (by
      unfold shapeAt Outline.mounted at hy
      split at hy
      · cases hy
      · next hn =>
        dsimp only at hy
        rw [List.getElem?_map] at hy
        cases hsh : o.slots[n - 1]? with
        | none => rw [hsh] at hy; cases hy
        | some sh =>
          rw [hsh] at hy
          obtain ⟨z, hz, rfl⟩ := Option.map_eq_some_iff.1 hy
          exact h.indexed hI n z (by rw [shapeAt, if_neg hn, hsh]; exact hz)) }

end Outline

namespace State

theorem outline_setCapacity (s : State) (blocks : Nat) : (s.setCapacity blocks).outline = { s.outline with media := .unprepared, mount := .none }
    ∨ (s.setCapacity blocks).outline = { s.outline with mount := .header } := by
  unfold setCapacity
  dsimp only
  split
  · exact .inl rfl
  · exact .inr rfl

theorem mounting_of_mount {o : Outline} (h : o.Done C H I) (hm : o.mount ≠ .none) : o.media = .mounting := by
  by_contra hnot
  exact hm (h.mount.none_of hnot)

theorem done_setCapacity (h : s.outline.Done C H I) (hs : s.media.mount = .sizing) (blocks : Nat) : (s.setCapacity blocks).outline.Done C H I := by
  have hm := mounting_of_mount h (by rw [show s.outline.mount = .sizing from hs]; decide)
  rcases s.outline_setCapacity blocks with ho | ho <;> rw [ho]
  · exact h.endUnprepared hm (by rw [show s.outline.mount = .sizing from hs]; rfl)
  · exact h.toHeader hm hs

theorem done_sizeEnded (h : s.outline.Done C H I) (blocks : Option Nat) (op : Op) : (s.sizeEnded blocks op).outline.Done C H I := by
  unfold sizeEnded
  split
  · next hs =>
    rw [outline_announce]
    split
    · exact done_setCapacity h hs _
    · split
      · exact h
      · exact done_setCapacity h hs _
  · exact h

/-- A valid header begins the scan at slot 1 (R107). -/
theorem done_takeHeader (h : s.outline.Done C H I) (hs : s.media.mount = .header) (hd : Header) : (s.takeHeader hd).outline.Done C H I := by
  have hm := mounting_of_mount h (by rw [show s.outline.mount = .header from hs]; decide)
  have hempty := h.mount.empty (.inr (.inr hs))
  unfold takeHeader
  rw [outline_askSlots, outline_loadProfile]
  generalize (if s.intake.rate = hd.profile.rate then s.intake.clock else ClockState.lost) = c
  have hscanned : ({ s.outline with profiled := true, clock := c, mount := .scan 1 scanBatch 0 [] } : Outline).Scanned C H I 0 := {
    media := hm, mount := rfl, length := by rw [show s.outline.slots = [] from hempty]; rfl, bound := Nat.zero_le _
    kept := fun sh hsh => by rw [show s.outline.slots = [] from hempty] at hsh; cases hsh
    engine := ⟨h.engine.opened, h.engine.tailed, h.engine.holders⟩
    offline := h.offline_of_mounting hm
    queue := h.queue_of_mounting hm
    long := h.mount.idle (.inr hm)
    reach := h.reach
    held := h.held
    profiled := fun _ => rfl
    indexed := h.indexed }
  exact hscanned.next (by decide)

theorem done_judgeHeader (h : s.outline.Done C H I) (hs : s.media.mount = .header) (block : Option (List Byte)) : (s.judgeHeader block).outline.Done C H I := by
  unfold judgeHeader
  split
  · exact h.endUnprepared (mounting_of_mount h (by rw [show s.outline.mount = .header from hs]; decide)) (by rw [show s.outline.mount = .header from hs]; rfl)
  · exact done_takeHeader h hs _

theorem done_headerReadEnded (h : s.outline.Done C H I) (block : Option (List Byte)) (op : Op) : (s.headerReadEnded block op).outline.Done C H I := by
  unfold headerReadEnded
  split
  · next hs =>
    rw [outline_announce]
    split
    · exact h
    · exact done_judgeHeader h hs _
  · exact h

/-! ### The scan (R95–R99) -/

theorem outline_recoverMirror (s : State) : s.recoverMirror.outline
    = { s.outline with slots := s.outline.slots.map Outline.Shape.recovered, nextIndex := s.outline.slots.length + 1 } := by
  have hslots : (s.journal.mirror.map fun sl => { sl with entry := sl.entry.mapRecord Record.recover }).map MirrorSlot.shape
      = (s.journal.mirror.map MirrorSlot.shape).map Outline.Shape.recovered := by
    rw [List.map_map, List.map_map]
    refine List.map_congr_left fun sl _ => ?_
    dsimp only [Function.comp, MirrorSlot.shape, Outline.Shape.recovered]
    cases sl.entry with
    | unreadable => rfl
    | record r =>
      have hr : r.recover.shape = (r.index, if r.state = .opened then .interrupted else r.state) := by
        unfold Record.recover
        split
        · next hopen => simp [Record.shape, Record.flag]
        · rfl
      exact congrArg (fun x => Shape.mk (some x) _) hr
  unfold recoverMirror outline
  dsimp only
  rw [hslots, List.length_map]

theorem outline_endMount (s : State) : s.endMount.outline = s.outline.mounted .writeProtected ∨ s.endMount.outline = (s.outline.mounted .ready).refresh := by
  unfold endMount
  dsimp only
  split
  · rw [outline_flagRecords, outline_setMedia, outline_setMount, outline_recoverMirror]
    exact .inl rfl
  · rw [outline_askWrites, outline_refreshStation, outline_setMedia, outline_setMount, outline_recoverMirror]
    exact .inr rfl

theorem done_endMount {k : Nat} (h : s.outline.Scanned C H I k) : s.endMount.outline.Done C H I := by
  have hopen {m : MediaState} (hm : m.Carded) : (s.outline.mounted m).openTake = none := (h.mounted hm).openTake_none h.queue
  rcases s.outline_endMount with ho | ho <;> rw [ho]
  · refine (h.mounted ⟨by decide, by decide⟩).done ?_ (fun _ => h.queue) fun _ hr => by cases hr
    show s.outline.take = .offline ↔ _
    rw [h.offline]
    simp [Outline.mounted]
  · exact (h.mounted ⟨by decide, by decide⟩).refresh (fun ho => by rw [hopen ⟨by decide, by decide⟩] at ho; cases ho) (fun _ => h.queue) fun hH _ => h.profiled hH

theorem done_scanOn {k : Nat} (h : s.outline.Scanned C H I k) (last run : Nat) (results : List (Nat × Option (List Byte))) :
    (s.scanOn k last run results).outline.Done C H I := by
  unfold scanOn
  split
  · exact done_endMount h
  · next hk =>
    split
    · rw [outline_askSlots]
      exact h.next (Nat.lt_of_not_le hk)
    · exact h.next (Nat.lt_of_not_le hk)

theorem done_examineSlot {k : Nat} (h : s.outline.Scanned C H I (k - 1)) (hk : 1 ≤ k ∧ k ≤ journalSlots) (last run : Nat)
    (results : List (Nat × Option (List Byte))) (content : Option (List Byte)) : (s.examineSlot k last run results content).outline.Done C H I := by
  have hpred : k - 1 + 1 = k := Nat.sub_add_cancel hk.1
  have henter (e : MirrorEntry) (he : ∀ r, e.record? = some r → r.index = k) : (s.enterSlot e).outline.Scanned C H I k := by
    rw [outline_enterSlot]
    have := h.enter (x := e.record?.map Record.shape) (by omega) fun y hy => by
      obtain ⟨r, hr, rfl⟩ := Option.map_eq_some_iff.1 hy
      rw [hpred]
      exact he r hr
    rwa [hpred] at this
  unfold examineSlot
  split
  · exact done_endMount h
  · exact done_endMount h
  · next r hclass =>
    refine done_scanOn (henter _ fun r' hr' => ?_) ..
    cases hr'
    unfold classifySlot at hclass
    split at hclass
    · cases hclass
    · split at hclass
      · cases hclass
      · split at hclass
        · cases hclass
        · split at hclass
          · cases hclass
          · split at hclass
            · next hindex =>
              cases hclass
              exact hindex
            · cases hclass
  · split
    · refine done_endMount (k := min (s.journal.mirror.length - run) (k - 1)) ?_
      have := h.cut (s.journal.mirror.length - run)
      refine Eq.mp (congrArg (fun o => Outline.Scanned C H I o _) ?_) this
      unfold outline
      dsimp only
      rw [List.map_take]
    · exact done_scanOn (henter _ fun r' hr' => by cases hr') ..

theorem done_examine (fuel : Nat) (h : s.outline.Done C H I) : (s.examine fuel).outline.Done C H I := by
  induction fuel generalizing s with
  | zero => exact h
  | succ fuel ih =>
    unfold examine
    split
    · next next last run results hmount =>
      split
      · exact h
      · obtain ⟨hscanned, hrange⟩ := h.scanned_of (show s.outline.mount = _ from hmount)
        exact ih (done_examineSlot hscanned hrange ..)
    all_goals exact h

theorem done_slotReadEnded (h : s.outline.Done C H I) (content : Option (List Byte)) (op : Op) : (s.slotReadEnded content op).outline.Done C H I := by
  unfold slotReadEnded
  split
  · next k next last run results _ hmount =>
    split
    · exact h
    · rw [outline_announce]
      refine done_examine _ ?_
      obtain ⟨hscanned, h1, h2⟩ := h.scanned_of (show s.outline.mount = _ from hmount)
      have := hscanned.next (last := last) (run := run) (results := results ++ [(k, content)]) (by omega)
      rwa [Nat.sub_add_cancel h1] at this
  · exact h

/-! ### Insertion, removal and reset -/

theorem done_insertCard (h : s.outline.Done C H I) (wprot : Bool) (hm : s.media.state = .absent) : (s.insertCard wprot).outline.Done C H I := by
  have hempty := h.mount.empty (.inl hm)
  have hnone : s.outline.mount = .none := h.mount.none_of (by rw [show s.outline.media = .absent from hm]; decide)
  have hnext := h.mount.next (by rw [hnone]; rfl)
  unfold insertCard
  rw [outline_grant, outline_announce, outline_askNew]
  exact { h with
    engine := ⟨h.engine.opened, h.engine.tailed, h.engine.holders⟩
    mount := ⟨⟨fun hc => (by cases hc), fun hc => absurd rfl hc⟩, fun _ => hempty, fun next hn => (by cases hn), fun _ => hnext,
      fun _ => h.mount.idle (.inl hm)⟩
    queue := ⟨h.queue.ascending, h.queue.below, h.queue.states, h.queue.openQueued⟩
    scanned := fun _ hs => (by cases hs)
    reach := fun hC => absurd hm (h.reach hC).1
    offline := (by
      have hoff : s.outline.take = .offline := h.offline.2 fun hc => (by rw [show s.outline.media = .absent from hm] at hc; cases hc.1)
      exact ⟨fun _ hc => (by cases hc.1), fun _ => hoff⟩)
    carded := fun _ => h.carded (by rw [show s.outline.media = .absent from hm]; exact ⟨by decide, by decide⟩)
    ready := fun _ hr => (by cases hr) }

/-- With no card there is nothing to be out of order. -/
theorem done_dropCard (s : State) (hC : ¬ C) : s.dropCard.outline.Done C H I where
  reach := fun hc => absurd hc hC
  engine := ⟨⟨fun h => (by cases h), fun h => (by rcases h with h | h <;> cases h)⟩, ⟨fun h => (by cases h), fun h => (by cases h)⟩, .nil⟩
  mount := ⟨⟨fun _ h => (by cases h), fun _ => rfl⟩, fun _ => rfl, fun next hn => (by cases hn), fun _ => ⟨rfl, show 1 ≤ journalSlots + 1 by decide⟩, fun _ => rfl⟩
  queue := ⟨.nil, fun i hi => (by cases hi), fun i hi => (by cases hi), fun i hi => (by cases hi)⟩
  blocked := fun _ => rfl
  verified := fun n hn => by cases hn
  held := fun _ => ⟨fun h => absurd rfl h, fun h => (by cases h)⟩
  scanned := fun _ hs => by cases hs
  indexed := fun _ n x hx => by
    unfold Outline.shapeAt at hx
    split at hx <;> cases hx
  offline := ⟨fun _ h => (by cases h.1), fun _ => rfl⟩
  carded := fun _ => rfl
  ready := fun _ hr => by cases hr

theorem outline_reportRemoval (s : State) (l : LongOp) : (s.reportRemoval l).outline = s.outline := by
  unfold reportRemoval
  split <;> rfl

theorem done_removeCard (s : State) (hC : ¬ C) : s.removeCard.outline.Done C H I := by
  unfold removeCard
  rw [outline_reportRemoval, outline_announce]
  exact done_dropCard s hC

theorem done_of_coherent (hC : ¬ C) (hc : s.Coherent) (hh : s.HoldersSound) (hm : s.MirrorSound) : s.outline.Done C H I := by
  have h := (s.coherent_iff.1 hc).1.done
  have hholders := s.holdersSound_iff.1 hh
  have hindexed := s.mirrorSound_iff.1 hm
  exact { h with reach := fun hc => absurd hc hC, held := fun _ => h.held hholders, scanned := fun _ => h.toMid.scanned hholders, indexed := fun _ => hindexed, ready := fun _ => h.ready hholders }

theorem done_resetWith (s : State) (straps : Straps) (hC : ¬ C) : (s.resetWith straps).outline.Done C H I := by
  obtain ⟨hcoherent, -, -, -, -, -, -, -, -, -, hholders, hmirror, -⟩ := resetStateIsSound
  exact done_of_coherent hC hcoherent hholders hmirror

end State

end Sys2Proof.Machine

/-! The journal's completions, the long operations, the clock, rolls and cuts keep the blocks coherent. -/

namespace Sys2Proof.Machine

variable {C H I : Prop} {s t : State} {n : Nat}

namespace Outline

variable {o : Outline}

/-! ### A record that leaves the queue or takes a settled state -/

/-- A CLOSING record takes a settled state, and its take leaves the queue (R90). -/
theorem Mid.leave (h : o.Mid C H I) (hstate : o.stateAt n = some .closing) (x : RecordState) :
    ({ o.setState n x with queue := o.queue.filter (· != n) } : Outline).Mid C H I := by
  have hset (k : Nat) : (o.setState n x).stateAt k = if k = n then (o.stateAt n).map fun _ => x else o.stateAt k := stateAt_modifyShape (keeps_setState x) o n k
  have hmount := h.mount.modifyShape n (g := Shape.setState x) (.inr fun _ => rfl)
  have hopen : o.openTake ≠ some n := fun hopen => by
    obtain ⟨y, hy, -, hyo⟩ := h.queue.states n (h.queue.openQueued n hopen)
    cases hy.symm.trans hstate
    cases hyo.2 hopen
  have hqueued (i : Nat) (hi : i ∈ o.queue.filter (· != n)) : i ∈ o.queue ∧ i ≠ n := by
    obtain ⟨h1, h2⟩ := List.mem_filter.1 hi
    exact ⟨h1, by simpa using h2⟩
  refine {
    engine := ⟨h.engine.opened, h.engine.tailed, h.engine.holders⟩
    mount := ⟨hmount.mounting, hmount.empty, hmount.scanning, hmount.next, hmount.idle⟩
    queue := ⟨h.queue.ascending.sublist List.filter_sublist, fun i hi => h.queue.below i (hqueued i hi).1, fun i hi => ?_, fun k hk =>
      List.mem_filter.2 ⟨h.queue.openQueued k hk, bne_iff_ne.2 fun hkn : k = n => hopen (hkn ▸ hk)⟩⟩
    blocked := fun hb => ?_
    verified := fun k hk => ?_
    reach := h.reach
    held := h.held
    scanned := h.scanned
    indexed := fun hI => indexed_modifyShape (keeps_setState x) n (h.indexed hI) }
  · obtain ⟨h1, h2⟩ := hqueued i hi
    show ∃ y, (o.setState n x).stateAt i = some y ∧ _
    rw [hset, if_neg h2]
    exact h.queue.states i h1
  · show o.queue.filter _ = []
    rw [h.blocked hb]
    rfl
  · obtain ⟨y, hy, h1, h2⟩ := h.verified k hk
    have hkn : k ≠ n := by
      rintro rfl
      cases hy.symm.trans hstate
      exact h2 rfl
    show ∃ y, (o.setState n x).stateAt k = some y ∧ _
    rw [hset, if_neg hkn]
    exact ⟨y, hy, h1, h2⟩

theorem Done.leave (h : o.Done C H I) (hstate : o.stateAt n = some .closing) (x : RecordState) :
    ({ o.setState n x with queue := o.queue.filter (· != n) } : Outline).Done C H I :=
  (h.toMid.leave hstate x).done h.offline (fun hm => by rw [h.carded hm]; rfl) h.ready

/-- A verify ends: its record takes a settled state, and the slot is IDLE (R153). -/
theorem Done.endVerify (h : o.Done C H I) (hslot : o.long.index = some n) (x : RecordState) : ({ o with long := .idle } : Outline).setState n x |>.Done C H I := by
  have hset (k : Nat) : (o.setState n x).stateAt k = if k = n then (o.stateAt n).map fun _ => x else o.stateAt k := stateAt_modifyShape (keeps_setState x) o n k
  have hmount := h.setLong.mount.modifyShape n (g := Shape.setState x) (.inr fun _ => rfl)
  refine Mid.done { h.setLong.toMid with
    engine := ⟨h.engine.opened, h.engine.tailed, h.engine.holders⟩
    mount := hmount
    queue := ⟨h.queue.ascending, h.queue.below, fun i hi => ?_, h.queue.openQueued⟩
    verified := fun k hk => (by cases hk)
    indexed := fun hI => indexed_modifyShape (keeps_setState x) n (h.indexed hI) } h.offline h.carded h.ready
  have hne : i ≠ n := fun hin => h.toMid.ne_verified hi hslot hin.symm
  show ∃ y, (o.setState n x).stateAt i = some y ∧ _
  rw [hset, if_neg hne]
  exact h.queue.states i hi

/-- Another long operation takes the slot. -/
theorem Done.withLong (h : o.Done C H I) {l : LongOp} (hcard : o.media.Carded) (hblocked : l.blocksJournal = true → o.queue = [])
    (hverified : ∀ n, l.index = some n → ∃ x, o.stateAt n = some x ∧ x ≠ .opened ∧ x ≠ .closing) : ({ o with long := l } : Outline).Done C H I :=
  { h with
    engine := ⟨h.engine.opened, h.engine.tailed, h.engine.holders⟩
    mount := ⟨h.mount.mounting, h.mount.empty, h.mount.scanning, h.mount.next, fun hi => absurd hi (by simp [hcard.1, hcard.2])⟩
    queue := ⟨h.queue.ascending, h.queue.below, h.queue.states, h.queue.openQueued⟩
    blocked := hblocked
    verified := hverified }

/-- A long operation that bars the journal runs on a card in reach, with no take queued or open. -/
theorem Done.barred (h : o.Done C H I) (hb : o.long.blocksJournal = true) : o.media.Carded ∧ o.queue = [] ∧ o.openTake = none := by
  refine ⟨?_, h.blocked hb, h.toMid.openTake_none (h.blocked hb)⟩
  by_contra hnot
  have hidle := h.mount.idle (by unfold MediaState.Carded at hnot; tauto)
  rw [hidle] at hb
  cases hb

end Outline

namespace State

/-! ### Completions of journal and header writes -/

theorem done_closeFinal (h : s.outline.Done C H I) (n : Nat) : (s.closeFinal n).outline.Done C H I := by
  unfold closeFinal
  split
  · exact h
  · next r hr =>
    split
    · next hclosing =>
      have hstate : s.outline.stateAt n = some .closing := by
        rw [State.stateAt_outline, hr, Option.map_some, hclosing]
      have hclosed := s.outline_modifyRecord_state n (f := fun r => { r with state := .closed, digest := some (heldDigest (s.entryOf n)) }) .closed fun _ => ⟨rfl, rfl⟩
      rw [outline_dropEntry, hclosed]
      exact h.leave hstate .closed
    · exact h

theorem done_journalDone (h : s.outline.Done C H I) (n : Nat) (op : Op) : (s.journalDone n op).outline.Done C H I := by
  unfold journalDone
  dsimp only
  have hdone : ((s.endWrite n).modifySlot n fun sl => { sl with firstDone := true }).outline.Done C H I :=
    done_of_eq h (((s.endWrite n).outline_modifySlot_same n (g := fun sl => { sl with firstDone := true }) fun _ => rfl).trans (s.outline_endWrite n))
  have hclosed : (if op.isFinal then
      ((s.endWrite n).modifySlot n fun sl => { sl with firstDone := true }).closeFinal n
      else (s.endWrite n).modifySlot n fun sl => { sl with firstDone := true }).outline.Done C H I := by
    split
    · exact done_closeFinal hdone n
    · exact hdone
  revert hclosed
  generalize (if op.isFinal then _ else _ : State) = u
  intro hclosed
  split
  · split
    · exact done_of_eq hclosed (u.outline_askWrite n)
    · exact done_of_eq hclosed (u.outline_flagRecord n _)
  · exact hclosed

theorem done_failAfterFault (h : s.outline.Done C H I) (op : Op) : (s.failAfterFault op).outline.Done C H I := by
  unfold failAfterFault
  split
  · exact h
  · exact done_abortRelease h

theorem done_journalEnded (h : s.outline.Done C H I) (ok : Bool) (op : Op) (hcard : op.kind.priority = 1 → s.media.state.Carded) :
    (s.journalEnded ok op).outline.Done C H I := by
  unfold journalEnded
  split
  · next n hkind =>
    split
    · exact done_journalDone h n op
    · have hdrop := s.outline_dropWrite n
      unfold journalFailed
      split
      · exact done_failAfterFault (done_of_eq h hdrop) op
      · split
        · exact h
        · refine done_faultMedia (done_of_eq h hdrop) ?_
          rw [show (s.dropWrite n).media.state = s.media.state from congrArg Outline.media hdrop]
          exact hcard (by rw [hkind]; rfl)
  · exact h

theorem done_headerWriteEnded (h : s.outline.Done C H I) (ok : Bool) (op : Op) (hcard : ok = false → s.media.state.Carded) :
    (s.headerWriteEnded ok op).outline.Done C H I := by
  unfold headerWriteEnded
  split
  · split
    · exact done_of_eq h ((outline_askHeaderRewrite _).trans s.outline_endHeaderWrite)
    · exact h
  · next hok =>
    split
    · exact done_failAfterFault (s := s.endHeaderWrite) h op
    · split
      · exact h
      · exact done_faultMedia (s := s.endHeaderWrite) h (hcard (by simpa using hok))

theorem done_segmentEnded (h : s.outline.Done C H I) (failed : Option Nat) (op : Op) (hcard : op.kind.priority = 2 → s.media.state.Carded) :
    (s.segmentEnded failed op).outline.Done C H I := by
  unfold segmentEnded
  split
  · exact done_of_eq h (s.outline_segmentDone _ _)
  · next hkind => exact done_segmentFailed h _ _ _ (hcard (by rw [hkind]; rfl))
  · exact h

/-! ### The verify unit -/

theorem outline_endVerify (s : State) (who : Requester) (n : Nat) : ∃ x, (s.endVerify who n).outline = ({ s.outline with long := .idle } : Outline).setState n x := by
  unfold endVerify
  dsimp only
  refine ⟨(s.verify.outcome ((s.recordAt n).bind (·.digest))).1, ?_⟩
  rw [outline_finalReport, outline_changeRecord]
  exact State.outline_modifyRecord_state _ n _ fun _ => ⟨rfl, rfl⟩

theorem done_advanceVerify (h : s.outline.Done C H I) (who : Requester) (hslot : s.verify.slot = .verifying who n) : (s.advanceVerify who n).outline.Done C H I := by
  have htaken : (s.setVerify (s.verify.takePositions windowSize)).outline = s.outline := by
    rw [outline_setVerify, State.Within.takePositions_slot]
    rfl
  unfold advanceVerify
  dsimp only
  split
  · obtain ⟨x, hx⟩ := (s.setVerify (s.verify.takePositions windowSize)).outline_endVerify who n
    rw [hx, htaken]
    exact h.endVerify (by rw [show s.outline.long = _ from hslot]; rfl) x
  · exact done_of_eq h ((outline_fillWindow ..).trans htaken)

theorem done_verifyReadEnded (h : s.outline.Done C H I) (block : Option (List Byte)) (op : Op) : (s.verifyReadEnded block op).outline.Done C H I := by
  unfold verifyReadEnded
  split
  · next who n hslot =>
    split
    · unfold windowReadEnded
      split
      · refine done_advanceVerify (s := s.setVerify _) ?_ who ?_
        · exact h
        · exact hslot
      · split
        · exact h
        · refine done_advanceVerify (s := s.setVerify _) ?_ who ?_
          · exact h
          · exact hslot
    · exact h
  all_goals exact h

theorem verifyRefusal_none {r : Record} (h : s.verifyRefusal n = none) (hr : s.recordAt n = some r) :
    s.media.state.Carded ∧ r.state ≠ .opened ∧ r.state ≠ .closing := by
  unfold verifyRefusal at h
  split at h
  · cases h
  · next hbars =>
    have hcard : s.media.state.Carded := by
      unfold MediaState.Carded
      refine ⟨fun hm => ?_, fun hm => ?_⟩ <;> rw [hm] at hbars <;> cases hbars
    split at h
    · cases h
    · split at h
      · cases h
      · split at h
        · cases h
        · next r' hr' =>
          cases hr.symm.trans hr'
          refine ⟨hcard, fun hst => ?_, fun hst => ?_⟩ <;> rw [hst] at h <;> cases h

theorem done_verifyTake (h : s.outline.Done C H I) (q : Request) : (s.verifyTake q).outline.Done C H I := by
  unfold verifyTake askVerify
  rw [outline_grant]
  split
  · exact h
  · exact h
  · next r hrefusal hr =>
    split
    · obtain ⟨hcard, hstates⟩ := verifyRefusal_none hrefusal hr
      unfold startVerify
      refine done_advanceVerify (s := (s.setVerify _).answer ..) ?_ q.requester rfl
      refine h.withLong hcard (fun hb => by cases hb) fun k hk => ?_
      cases hk
      exact ⟨r.state, by rw [State.stateAt_outline, hr]; rfl, hstates⟩
    · exact h

/-! ### Preparing and releasing -/

theorem preparing_of_preparingIn {phase : PreparePhase} {x : Requester × PreparePlan} (hx : s.preparingIn phase = some x) :
    s.verify.slot = .preparing x.1 x.2 := by
  unfold preparingIn at hx
  split at hx
  · next hslot =>
    split at hx
    · cases hx
      exact hslot
    · cases hx
  all_goals cases hx

theorem done_setPhase (h : s.outline.Done C H I) {phase : PreparePhase} {x : Requester × PreparePlan} (hx : s.preparingIn phase = some x) (phase' : PreparePhase) :
    (s.setPhase x.1 x.2 phase').outline.Done C H I := by
  obtain ⟨hcard, hqueue, -⟩ := h.barred (by rw [show s.outline.long = _ from preparing_of_preparingIn hx]; rfl)
  exact h.withLong hcard (fun _ => hqueue) fun k hk => by cases hk

theorem done_prepareFailed (h : s.outline.Done C H I) (op : Op) (hcard : s.media.state.Carded) : (s.prepareFailed op).outline.Done C H I := by
  unfold prepareFailed
  split
  · exact h
  · exact done_faultMedia h hcard

theorem done_prepareHeaderEnded (h : s.outline.Done C H I) (ok : Bool) (op : Op) : (s.prepareHeaderEnded ok op).outline.Done C H I := by
  unfold prepareHeaderEnded
  split
  · exact h
  · next hx =>
    obtain ⟨hcard, -⟩ := h.barred (by rw [show s.outline.long = _ from preparing_of_preparingIn hx]; rfl)
    split
    · exact done_setPhase h hx _
    · exact done_prepareFailed h op hcard

theorem done_prepared (h : s.outline.Done C H I) (hb : s.verify.slot.blocksJournal = true) (plan : PreparePlan) : (s.prepared plan).outline.Done C H I := by
  obtain ⟨hcard, hqueue, hopen⟩ := h.barred hb
  have hnone : s.outline.mount = .none := h.mount.none_of hcard.2
  unfold prepared
  rw [outline_refreshStation, outline_idleSlot, outline_loadProfile]
  generalize (if s.intake.rate = plan.profile.rate then s.intake.clock else ClockState.lost) = c
  refine refresh_of_closed (o := { s.outline with
    slots := [], nextIndex := 1, media := .ready, profiled := true, clock := c, long := .idle }) ?_ hopen (fun _ => hqueue) fun _ _ => rfl
  exact {
    engine := ⟨h.engine.opened, h.engine.tailed, h.engine.holders⟩
    mount := ⟨by simp [hnone], fun _ => rfl, fun next hn => (by
      have : s.outline.mount.scanning = some next := hn
      rw [hnone] at this
      cases this), fun _ => ⟨rfl, show 1 ≤ journalSlots + 1 by decide⟩, fun _ => rfl⟩
    queue := ⟨by rw [hqueue]; exact .nil, fun i hi => (by rw [hqueue] at hi; cases hi), fun i hi => (by rw [hqueue] at hi; cases hi),
      fun i hi => (by rw [hopen] at hi; cases hi)⟩
    blocked := fun _ => hqueue
    verified := fun k hk => (by cases hk)
    reach := fun _ => ⟨nofun, nofun⟩
    held := h.held
    scanned := fun _ _ => rfl
    indexed := fun _ k y hy => (by
      unfold Outline.shapeAt at hy
      split at hy <;> cases hy) }

theorem done_prepareZeroEnded (h : s.outline.Done C H I) (ok : Bool) (op : Op) : (s.prepareZeroEnded ok op).outline.Done C H I := by
  unfold prepareZeroEnded
  split
  · exact h
  · next hx =>
    have hb : s.verify.slot.blocksJournal = true := by rw [preparing_of_preparingIn hx]; rfl
    split
    · unfold completePrepare
      rw [outline_finalReport, outline_announce]
      exact done_prepared h hb _
    · exact done_prepareFailed h op (h.barred hb).1

theorem done_releaseIfDrained (h : s.outline.Done C H I) : s.releaseIfDrained.outline.Done C H I := by
  unfold releaseIfDrained
  split
  · next who hslot =>
    split
    · exact h
    · obtain ⟨hcard, hqueue, hopen⟩ := h.barred (by rw [show s.outline.long = _ from hslot]; rfl)
      unfold completeRelease
      rw [outline_finalReport, outline_announce, outline_refreshStation, outline_idleSlot, outline_setMedia]
      exact refresh_of_closed (h.toMid.withMedia ⟨by decide, by decide⟩ hcard).idle hopen (fun _ => hqueue) fun _ hr => by cases hr
  all_goals exact h

theorem carded_of_idleStart {c : Bool} {g : LongGate} (h : startWhen c = g) (hg : g = .start) : c = true := by
  unfold startWhen at h
  split at h
  · assumption
  · rw [← h] at hg
    cases hg

/-- A PREPARE MEDIA or RELEASE MEDIA that starts finds a card in reach and no take queued (R116). -/
theorem start_ready (hq : startWhen s.quietStandby = .start) : s.outline.queue = [] := by
  have := carded_of_idleStart hq rfl
  simp only [quietStandby, Bool.and_eq_true, List.isEmpty_iff] at this
  show s.writer.queue.map _ = []
  rw [this.1.2]
  rfl

theorem start_full (hq : startWhen s.quiet = .start) : s.outline.queue = [] := by
  have := carded_of_idleStart hq rfl
  simp only [quiet, Bool.and_eq_true, List.isEmpty_iff] at this
  show s.writer.queue.map _ = []
  rw [this.1.2]
  rfl

theorem done_prepareGate (h : s.outline.Done C H I) (hgate : s.prepareGate = .start) : s.media.state.Carded ∧ s.outline.queue = [] := by
  have hother (hm : s.media.state ≠ .ready ∧ s.media.state ≠ .full) : s.outline.queue = [] := h.carded hm
  unfold prepareGate at hgate
  unfold MediaState.Carded
  cases hm : s.media.state <;> rw [hm] at hgate hother <;> dsimp only at hgate
  case absent => cases hgate
  case mounting => cases hgate
  case ready => exact ⟨⟨by decide, by decide⟩, start_ready hgate⟩
  case full => exact ⟨⟨by decide, by decide⟩, start_full hgate⟩
  all_goals exact ⟨⟨by decide, by decide⟩, hother ⟨by decide, by decide⟩⟩

theorem done_releaseGate (h : s.outline.Done C H I) (hgate : s.releaseGate = .start) : s.media.state.Carded ∧ s.outline.queue = [] := by
  have hother (hm : s.media.state ≠ .ready ∧ s.media.state ≠ .full) : s.outline.queue = [] := h.carded hm
  unfold releaseGate at hgate
  unfold MediaState.Carded
  cases hm : s.media.state <;> rw [hm] at hgate hother <;> dsimp only at hgate
  case absent => cases hgate
  case mounting => cases hgate
  case ready => exact ⟨⟨by decide, by decide⟩, start_ready hgate⟩
  case full => exact ⟨⟨by decide, by decide⟩, start_full hgate⟩
  all_goals exact ⟨⟨by decide, by decide⟩, hother ⟨by decide, by decide⟩⟩

theorem done_prepareMedia (h : s.outline.Done C H I) (q : Request) : (s.prepareMedia q).outline.Done C H I := by
  unfold prepareMedia
  split
  · exact h
  · exact h
  · exact h
  · next hgate =>
    obtain ⟨hcard, hqueue⟩ := done_prepareGate h hgate
    split
    · exact h
    · exact h.withLong hcard (fun _ => hqueue) fun k hk => by cases hk

theorem done_releaseMedia (h : s.outline.Done C H I) (q : Request) : (s.releaseMedia q).outline.Done C H I := by
  unfold releaseMedia
  split
  · exact h
  · exact h
  · exact h
  · next hgate =>
    obtain ⟨hcard, hqueue⟩ := done_releaseGate h hgate
    refine done_releaseIfDrained (s := (s.setVerify { s.verify with slot := .releasing q.requester }).answer ..) ?_
    exact h.withLong hcard (fun _ => hqueue) fun k hk => by cases hk

theorem done_abort (h : s.outline.Done C H I) (q : Request) : (s.abort q).outline.Done C H I := by
  unfold abort gated
  split
  · exact h
  · unfold applyAbort
    split
    · exact h
    · exact h.setLong
    · exact h
    · exact h

/-! ### The clock and the events that fall due -/

theorem done_clockReturnIfDue (h : s.outline.Done C H I) : s.clockReturnIfDue.outline.Done C H I := by
  unfold clockReturnIfDue
  split
  · unfold returnClock
    rw [outline_announce, outline_refreshStation]
    exact (h.toMid.withClock .running).refresh (fun hopen => ⟨(h.running hopen).1, rfl⟩) h.carded h.ready
  · exact h

theorem done_meterIfDue (h : s.outline.Done C H I) : s.meterIfDue.outline.Done C H I := by
  unfold meterIfDue
  split <;> exact h

theorem tailDue_open {x : Nat × Nat} (h : s.tailDue = some x) : s.engine.openTake = some x.1 := by
  unfold tailDue at h
  split at h
  · next hopen _ =>
    split at h
    · cases h
      exact hopen
    · cases h
  · cases h

theorem lengthDue_open {x : Nat × Nat} (h : s.lengthDue = some x) : s.engine.openTake = some x.1 := by
  unfold lengthDue at h
  split at h
  · cases h
  · next hopen =>
    split at h
    · cases h
    · simp only [Option.ite_none_right_eq_some, Option.some.injEq] at h
      obtain ⟨-, rfl⟩ := h
      exact hopen

theorem done_tailIfDue (h : s.outline.Done C H I) : s.tailIfDue.outline.Done C H I := by
  unfold tailIfDue
  split
  · exact h
  · next x hdue =>
    unfold endTail
    rw [outline_grant, outline_announce, outline_enterStandby, outline_closeTake, outline_clearOpen]
    exact done_closeOpen h (tailDue_open hdue)

theorem done_lengthIfDue (h : s.outline.Done C H I) : s.lengthIfDue.outline.Done C H I := by
  unfold lengthIfDue
  split
  · exact h
  · next x hdue =>
    unfold splitLength
    rw [outline_grant, outline_announce]
    exact done_splitAt h _ (lengthDue_open hdue)

theorem done_settleDue (h : s.outline.Done C H I) : s.settleDue.outline.Done C H I :=
  done_lengthIfDue (done_tailIfDue (done_meterIfDue (done_clockReturnIfDue h)))

theorem outline_storeFrame (s : State) (words : Vector (Option Sample) 16) : (s.storeFrame words).outline = s.outline := by
  rw [State.storeFrame_eq]
  have hcharged := s.outline_chargeAll (s.intake.position + 1 - ringSlots)
  have hclock : (s.intake.store words).clock = s.intake.clock := rfl
  unfold advancePosition
  refine Eq.trans ?_ hcharged
  split
  · show ({ (s.chargeAll (s.intake.position + 1 - ringSlots)).outline with clock := (s.intake.store words).clock } : Outline) = _
    rw [hclock, hcharged]
    rfl
  · show ({ (s.chargeAll (s.intake.position + 1 - ringSlots)).outline with clock := (s.intake.store words).clock } : Outline) = _
    rw [hclock, hcharged]
    rfl

theorem done_loseClock (h : s.outline.Done C H I) : s.loseClock.outline.Done C H I := by
  unfold loseClock
  rw [outline_grant, outline_announce]
  cases hopen : s.engine.openTake with
  | none =>
    dsimp only
    rw [outline_refreshStation]
    exact refresh_of_closed (h.toMid.withClock .lost) hopen h.carded h.ready
  | some n =>
    dsimp only
    unfold cutAtLoss
    dsimp only
    rw [outline_closeTake, outline_flagRecord, outline_setTake, outline_clearOpen]
    refine ((h.toMid.withClock .lost).closeOpen hopen (.inl rfl)).done ⟨fun _ hc => (by cases hc.2), fun _ => rfl⟩ h.carded h.ready

/-! ### Rolls and cuts -/

theorem addHolder_sorted (k : TakeKey) {l : List TakeKey} (h : (l.map (·.origin)).Pairwise (· < ·)) :
    ((addHolder k l).map (·.origin)).Pairwise (· < ·) ∧ ∀ i ∈ (addHolder k l).map (·.origin), i = k.origin ∨ i ∈ l.map (·.origin) := by
  induction l with
  | nil => exact ⟨List.pairwise_singleton _ _, fun i hi => .inl (List.mem_singleton.1 hi)⟩
  | cons x l ih =>
    obtain ⟨hx, hl⟩ := List.pairwise_cons.1 h
    obtain ⟨ih1, ih2⟩ := ih hl
    unfold addHolder
    split
    · next hlt =>
      refine ⟨List.pairwise_cons.2 ⟨fun i hi => ?_, h⟩, fun i hi => List.mem_cons.1 hi⟩
      rcases List.mem_cons.1 hi with rfl | hi
      · exact hlt
      · exact hlt.trans (hx i hi)
    · split
      · next heq =>
        refine ⟨List.pairwise_cons.2 ⟨fun i hi => ?_, hl⟩, fun i hi => ?_⟩
        · show k.origin < i
          rw [heq]
          exact hx i hi
        · rcases List.mem_cons.1 hi with rfl | hi
          · exact .inl rfl
          · exact .inr (List.mem_cons.2 (.inr hi))
      · next hnlt hne =>
        refine ⟨List.pairwise_cons.2 ⟨fun i hi => ?_, ih1⟩, fun i hi => ?_⟩
        · rcases ih2 i hi with rfl | hi
          · show x.origin < k.origin
            omega
          · exact hx i hi
        · rcases List.mem_cons.1 hi with rfl | hi
          · exact .inr (List.mem_cons.2 (.inl rfl))
          · exact (ih2 i hi).imp_right fun hi => List.mem_cons.2 (.inr hi)

theorem addHolder_ne_nil (k : TakeKey) (l : List TakeKey) : addHolder k l ≠ [] := by
  cases l with
  | nil => exact List.cons_ne_nil _ _
  | cons x l =>
    unfold addHolder
    split
    · exact List.cons_ne_nil _ _
    · split <;> exact List.cons_ne_nil _ _

theorem done_joinTake (h : s.outline.Done C H I) (k : TakeKey) (hopen : s.engine.openTake = some n) : (s.joinTake n k).outline.Done C H I := by
  have hsome : s.outline.openTake.isSome = true := by
    show s.engine.openTake.isSome = true
    rw [hopen]
    rfl
  obtain ⟨hready, hclock⟩ := h.running hsome
  have hrecord := s.outline_modifyRecord_same n (f := (·.join k)) fun r => r.shape_join k
  unfold joinTake
  rw [outline_announce]
  have hout : ({ s.modifyRecord n (·.join k) with engine := { (s.modifyRecord n (·.join k)).engine with
      takeState := .rolling, holders := addHolder k (s.modifyRecord n (·.join k)).engine.holders, pendingStop := none } } : State).outline
      = { s.outline with take := .rolling, holders := addHolder k s.outline.holders, tailed := false } := by
    rw [← hrecord]
    rfl
  refine Eq.mpr (congrArg (Outline.Done C H I) hout) ?_
  have hsorted := addHolder_sorted k h.engine.holders
  exact Outline.Mid.done_of_open (o := { s.outline with take := .rolling, holders := addHolder k s.outline.holders, tailed := false })
    { h with
      engine := ⟨⟨fun _ => .inl rfl, fun _ => hsome⟩, ⟨fun hc => (by cases hc), fun hc => (by cases hc)⟩, hsorted.1⟩
      mount := ⟨h.mount.mounting, h.mount.empty, h.mount.scanning, h.mount.next, h.mount.idle⟩
      queue := ⟨h.queue.ascending, h.queue.below, h.queue.states, h.queue.openQueued⟩
      held := fun _ => ⟨fun _ => rfl, fun _ => addHolder_ne_nil _ _⟩ } hsome hready hclock fun hH => h.ready hH hready

theorem done_actRoll (h : s.outline.Done C H I) (k : TakeKey) (pt : Point) : (s.actRoll k pt).outline.Done C H I := by
  unfold actRoll
  split
  · next hopen => exact done_joinTake h k hopen
  · next hopen =>
    split
    · exact h
    · exact h
    · next hrefusal _ =>
      rw [outline_grant, outline_announce]
      exact done_openTake h _ _ _ hopen hrefusal

theorem outline_withEngine (s : State) {e : Engine} (he : e.takeState = s.engine.takeState ∧ e.openTake = s.engine.openTake
    ∧ e.pendingStop = s.engine.pendingStop ∧ e.holders = s.engine.holders) : ({ s with engine := e } : State).outline = s.outline := by
  obtain ⟨h1, h2, h3, h4⟩ := he
  unfold outline
  dsimp only
  rw [h1, h2, h3, h4]

theorem outline_setLastRoll (s : State) (origin : Nat) (k : Word16) : ({ s with engine := s.engine.setLastRoll origin k } : State).outline = s.outline := by
  refine s.outline_withEngine (e := s.engine.setLastRoll origin k) ?_
  simp only [Engine.setLastRoll, and_self]

theorem done_takeRoll (h : s.outline.Done C H I) (f : Frame) : (s.takeRoll f).outline.Done C H I := by
  unfold takeRoll
  dsimp only
  have hset : ({ s with engine := s.engine.setLastRoll f.sender (rollNumber f.payload) } : State).outline.Done C H I :=
    done_of_eq h (s.outline_setLastRoll ..)
  split
  · split
    · exact done_actRoll hset _ _
    · exact hset
  · exact h

/-- Some holders leave the take that rolls, and others stay. -/
theorem done_holders (h : s.outline.Done C H I) {l : List TakeKey} (hl : (l.map (·.origin)).Pairwise (· < ·)) (hheld : H → (l ≠ [] ↔ s.engine.takeState = .rolling)) :
    ({ s with engine := { s.engine with holders := l } } : State).outline.Done C H I :=
  { h with
    engine := ⟨h.engine.opened, h.engine.tailed, hl⟩
    mount := ⟨h.mount.mounting, h.mount.empty, h.mount.scanning, h.mount.next, h.mount.idle⟩
    queue := ⟨h.queue.ascending, h.queue.below, h.queue.states, h.queue.openQueued⟩
    held := hheld }

/-- The last holder left: the station is in TAIL, or the take is CLOSING (R46). -/
theorem done_lastHolderLeft (h : s.outline.Done C H I) (pt : Point) (hopen : s.engine.openTake = some n) :
    (({ s with engine := { s.engine with holders := [] } } : State).lastHolderLeft n pt).outline.Done C H I := by
  have hsome : s.outline.openTake.isSome = true := by
    show s.engine.openTake.isSome = true
    rw [hopen]
    rfl
  obtain ⟨hready, hclock⟩ := h.running hsome
  unfold lastHolderLeft
  split
  · next r e p _ _ _ =>
    dsimp only
    have hflags := fun c : Bool => ({ s with engine := { s.engine with holders := [] } } : State).outline_modifyRecord_same n
      (f := fun r => (r.pointFlags pt).flagIf c .stopClamped) fun r => by simp
    split
    · refine Eq.mpr (congrArg (Outline.Done C H I) (a₂ := { s.outline with take := .tail, tailed := true, holders := [] }) ?_) ?_
      · exact congrArg (fun o : Outline => { o with take := .tail, tailed := true }) (hflags _)
      · exact Outline.Mid.done_of_open (o := { s.outline with take := .tail, tailed := true, holders := [] })
          { h with
            engine := ⟨⟨fun _ => .inr rfl, fun _ => hsome⟩, ⟨fun _ => rfl, fun _ => rfl⟩, .nil⟩
            mount := ⟨h.mount.mounting, h.mount.empty, h.mount.scanning, h.mount.next, h.mount.idle⟩
            queue := ⟨h.queue.ascending, h.queue.below, h.queue.states, h.queue.openQueued⟩
            held := fun _ => ⟨fun hc => absurd rfl hc, fun hc => (by cases hc)⟩ } hsome hready hclock fun hH => h.ready hH hready
    · rw [outline_enterStandby, outline_closeTake, outline_clearOpen, hflags]
      exact done_closeOpen (o := s.outline) h hopen
  · next hnot =>
    refine done_holders h .nil fun hH => ?_
    obtain ⟨y, hy, -⟩ := h.queue.states n (h.queue.openQueued n hopen)
    rw [State.stateAt_outline] at hy
    obtain ⟨r, hr, -⟩ := Option.map_eq_some_iff.1 hy
    obtain ⟨e, he⟩ := Option.isSome_iff_exists.1 ((s.mem_outline_queue n).1 (h.queue.openQueued n hopen))
    obtain ⟨p, hp⟩ := Option.isSome_iff_exists.1 (show s.media.profile.isSome = true from h.ready hH hready)
    exact absurd hp (hnot r e p hr he)

theorem done_holderLeaves (h : s.outline.Done C H I) (station : Nat) (pt : Point) (hrolling : s.engine.takeState = .rolling) (hopen : s.engine.openTake = some n) :
    (s.holderLeaves n station pt).outline.Done C H I := by
  unfold holderLeaves
  dsimp only
  rw [outline_grant, outline_announce]
  have hsorted : ((s.engine.holders.filter fun x => x.origin != station).map (·.origin)).Pairwise (· < ·) :=
    h.engine.holders.sublist (List.filter_sublist.map _)
  split
  · next hempty =>
    rw [List.isEmpty_iff.1 hempty]
    exact done_lastHolderLeft h pt hopen
  · next hrest => exact done_holders h hsorted fun _ => ⟨fun _ => hrolling, fun _ hc => hrest (by rw [hc]; rfl)⟩

theorem rollingTake_some (h : s.rollingTake = some n) : s.engine.takeState = .rolling ∧ s.engine.openTake = some n := by
  unfold rollingTake at h
  split at h
  · next hrolling => exact ⟨hrolling, h⟩
  · cases h

theorem done_takeCut (h : s.outline.Done C H I) (f : Frame) : (s.takeCut f).outline.Done C H I := by
  unfold takeCut
  split
  · exact h
  · next hrolling =>
    split
    · exact done_holderLeaves h _ _ (rollingTake_some hrolling).1 (rollingTake_some hrolling).2
    · exact h

theorem done_takeState_ (h : s.outline.Done C H I) (f : Frame) : (s.takeState_ f).outline.Done C H I := by
  unfold takeState_
  split
  · exact h
  · next hrolling =>
    split
    · exact done_holderLeaves h _ _ (rollingTake_some hrolling).1 (rollingTake_some hrolling).2
    · exact h

theorem done_cutLocally (h : s.outline.Done C H I) (edge : Nat) : (s.cutLocally edge).outline.Done C H I := by
  unfold cutLocally
  dsimp only
  split
  · exact h
  · next hrolling =>
    split
    · exact done_holderLeaves (s := s.queueTransport _) h _ _ (rollingTake_some hrolling).1 (rollingTake_some hrolling).2
    · exact h

end State

end Sys2Proof.Machine

/-! Every command keeps the blocks coherent: the outline of its end state, and what stands at the port of a card out of reach. -/

namespace Sys2Proof.Machine

variable {C H I : Prop} {s t : State} {n : Nat}

namespace State

/-! ### The outline after every command -/

theorem done_ite {p : Prop} [Decidable p] (ht : t.outline.Done C H I) (hs : s.outline.Done C H I) : (if p then t else s).outline.Done C H I := by
  split
  · exact ht
  · exact hs

theorem done_onFrame (h : s.outline.Done C H I) (k : FrameKind) (owner : Frame → State → State) (w : Wire)
    (howner : ∀ (f : Frame) (t : State), t.outline.Done C H I → (owner f t).outline.Done C H I) : (s.onFrame k owner w).outline.Done C H I := by
  unfold onFrame
  split
  · exact h
  · exact howner _ _ (done_of_eq h (s.outline_noteConflict _))

theorem done_onRequest (h : s.outline.Done C H I) (k : RequestKind) (carry : Request → State → State) (w : Wire)
    (hcarry : ∀ (q : Request) (t : State), t.outline.Done C H I → (carry q t).outline.Done C H I) : (s.onRequest k carry w).outline.Done C H I := by
  unfold onRequest
  split
  · exact h
  · split
    · exact h
    · split
      · exact done_ite (hcarry _ _ (done_of_eq h (s.outline_noteConflict _))) (done_of_eq h (s.outline_noteConflict _))
      · exact h

theorem done_gated {carry : State → State} (h : s.outline.Done C H I) (bar : Option Detail) (q : Request) (hc : (carry s).outline.Done C H I) :
    (s.gated bar q carry).outline.Done C H I := by
  unfold gated
  split
  · exact h
  · exact hc

/-- On a card out of reach only reads are outstanding. -/
theorem done_complete (h : s.outline.Done C H I) (hport : s.media.state.Carded ∨ s.port.ReadsOnly) (id : Nat) (p : OpKind → Bool) (act : Op → State → State)
    (hact : ∀ (op : Op) (t : State), t.outline.Done C H I → p op.kind = true → (op.kind.priority ≠ 3 → t.media.state.Carded) → (act op t).outline.Done C H I) :
    (s.complete id p act).outline.Done C H I := by
  unfold complete
  split
  · exact h
  · next op hop =>
    rw [outline_grant]
    have hkind := List.find?_some hop
    simp only [Bool.and_eq_true] at hkind
    exact hact op (s.release id) h hkind.2 fun hne => hport.resolve_right fun hreads =>
      hne (hreads op (List.mem_append_right _ (List.mem_of_find?_eq_some hop)))

theorem done_takeJam (h : s.outline.Done C H I) (f : Frame) : (s.takeJam f).outline.Done C H I := done_ite (t := { s with timecode := _ }) h h

theorem done_takeNote (h : s.outline.Done C H I) (f : Frame) : (s.takeNote f).outline.Done C H I := by
  unfold takeNote
  split
  · exact h
  · dsimp only
    split
    · exact h
    · split
      · exact h
      · exact done_of_eq h ((outline_grant _).trans (outline_noteTake ..))
    · split
      · exact h
      · exact done_of_eq h ((outline_grant _).trans (outline_noteTake ..))

theorem done_takeMark (h : s.outline.Done C H I) (f : Frame) : (s.takeMark f).outline.Done C H I := by
  unfold takeMark
  split
  · exact h
  · exact done_ite (done_of_eq h (s.outline_placeMark ..)) h

theorem done_pulseMark (h : s.outline.Done C H I) (edge : Nat) : (s.pulseMark edge).outline.Done C H I := by
  unfold pulseMark
  dsimp only
  split
  · exact h
  · rw [outline_placeMark]
    exact h

theorem done_queryTake (h : s.outline.Done C H I) (q : Request) : (s.queryTake q).outline.Done C H I := by
  refine done_gated h _ q ?_
  unfold answerTake
  split
  · exact h
  · split
    · exact h
    · split
      · exact h
      · split <;> exact h

theorem done_searchJournal (h : s.outline.Done C H I) (q : Request) : (s.searchJournal q).outline.Done C H I := by
  refine done_gated h _ q ?_
  split <;> exact h

theorem done_arm (h : s.outline.Done C H I) (q : Request) : (s.arm q).outline.Done C H I := by
  refine done_gated h _ q ?_
  unfold applyArm
  split
  · exact h
  · rw [outline_answer]
    unfold setArm
    split <;> exact h

theorem clock_applyMix (s : State) (l : List MixEntry) : (s.applyMix l).outline = s.outline := by
  have hclock : (l.foldl Intake.mixEntry s.intake).clock = s.intake.clock := by
    generalize s.intake = i
    induction l generalizing i with
    | nil => rfl
    | cons e l ih => exact ih (i.mixEntry e)
  exact congrArg (fun c => ({ s.outline with clock := c } : Outline)) hclock

theorem done_mix (h : s.outline.Done C H I) (q : Request) : (s.mix q).outline.Done C H I := by
  refine done_gated h _ q ?_
  split
  · exact h
  · rw [outline_answer]
    exact done_of_eq h (s.clock_applyMix _)

theorem done_takeUnknown (h : s.outline.Done C H I) (f : Frame) : (s.takeUnknown f).outline.Done C H I := by
  unfold takeUnknown
  split
  · exact done_of_eq h (s.outline_noteConflict _)
  · split
    · exact h
    · exact done_of_eq h (s.outline_noteConflict _)

theorem done_timedOut (op : Op) (h : s.outline.Done C H I) (hcard : op.kind.priority ≠ 3 → s.media.state.Carded) : (s.timedOut op).outline.Done C H I := by
  unfold timedOut
  split
  · exact done_sizeEnded h _ _
  · exact done_headerReadEnded h _ _
  · exact done_slotReadEnded h _ _
  · exact done_verifyReadEnded h _ _
  · exact done_journalEnded h _ _ fun hp => hcard (by rw [hp]; decide)
  · next hkind => exact done_headerWriteEnded h _ _ fun _ => hcard (by rw [hkind]; decide)
  · exact done_prepareHeaderEnded h _ _
  · exact done_prepareZeroEnded h _ _
  · next hkind => exact done_segmentFailed h _ _ _ (hcard (by rw [hkind]; exact (by decide : (2 : Nat) ≠ 3)))

theorem done_deferredProvisionalWrite (h : s.outline.Done C H I) : (match s.deferredSlot with
    | none => s
    | some n =>
      let s1 := s.modifySlot n fun sl => { sl with held := false }
      (if s1.canWriteJournal then s1.askWrite n else s1.flagRecord n .unsaved).grant).outline.Done C H I := by
  split
  · exact h
  · next n _ =>
    have hslot : (s.modifySlot n fun sl => { sl with held := false }).outline = s.outline := s.outline_modifySlot_same n fun _ => rfl
    dsimp only
    rw [outline_grant]
    exact done_ite (done_of_eq h ((outline_askWrite ..).trans hslot)) (done_of_eq h ((outline_flagRecord ..).trans hslot))

theorem done_prepareHeaderWriteAsk (h : s.outline.Done C H I) : (match s.preparingIn .waiting with
    | none => s
    | some x =>
      if s.writesPending then s
      else ((s.setPhase x.1 x.2 .header).ask .prepareHeader 1 (some (headerBlock x.2.header)) false).grant).outline.Done C H I := by
  split
  · exact h
  · next hx =>
    refine done_ite h ?_
    rw [outline_grant]
    exact done_setPhase h hx _

theorem done_attemptStart (h : s.outline.Done C H I) : (match s.link.queue with
    | [] => s
    | f :: rest => if f.phase = TxPhase.idle then ({ s with link := s.link.beginAttempt f rest } : State).clearNotice f else s).outline.Done C H I := by
  split
  · exact h
  · refine done_ite ?_ h
    unfold clearNotice
    split <;> exact h

theorem done_transmitComplete (h : s.outline.Done C H I) : (match s.link.queue with
    | [] => s
    | f :: rest => if f.phase = TxPhase.attempting then s.headLeaves false rest else s).outline.Done C H I := by
  split
  · exact h
  · exact done_ite (done_of_eq h (s.outline_headLeaves ..)) h

theorem done_collision (h : s.outline.Done C H I) : (match s.link.queue with
    | [] => s
    | f :: rest =>
      if f.phase = TxPhase.attempting then
        (if f.attempts < maxSendAttempts then { s with link := s.link.backOff f rest } else s.headLeaves true rest)
      else s).outline.Done C H I := by
  split
  · exact h
  · exact done_ite (done_ite (t := { s with link := _ }) h (done_of_eq h (s.outline_headLeaves ..))) h

theorem done_backoffComplete (h : s.outline.Done C H I) : (match s.link.queue with
    | [] => s
    | f :: rest => if f.inBackoff then { s with link := { s.link with queue := { f with phase := .idle } :: rest } } else s).outline.Done C H I := by
  split
  · exact h
  · exact done_ite (t := { s with link := _ }) h h

/-- Every command keeps what holds of the outline, but that a removal or a reset takes the card out of reach. -/
theorem exec_done (c : Instr) (h : s.outline.Done C H I) (hport : s.media.state.Carded ∨ s.port.ReadsOnly)
    (hC : C → c ≠ .cardRemoval ∧ ∀ straps, c ≠ .reset straps) : ∃ t, exec c s = .next t ∧ t.outline.Done C H I := by
  cases c with
  | reset straps => exact ⟨_, rfl, done_resetWith s straps fun hc => (hC hc).2 straps rfl⟩
  | frameStore interval words =>
    exact ⟨_, rfl, done_ite (done_of_eq (done_settleDue h) ((outline_grant _).trans (outline_storeFrame ..))) h⟩
  | clockLoss why => exact ⟨_, rfl, done_ite (done_loseClock (done_clockReturnIfDue h)) h⟩
  | qualifyingPeriod interval => exact ⟨_, rfl, done_ite (t := { s with intake := { s.intake with qualification := _ } }) h h⟩
  | clockReturn => exact ⟨_, rfl, done_clockReturnIfDue h⟩
  | meterWindowComplete => exact ⟨_, rfl, done_meterIfDue h⟩
  | tailEnd => exact ⟨_, rfl, done_tailIfDue h⟩
  | lengthSplit => exact ⟨_, rfl, done_lengthIfDue h⟩
  | frameDraw => exact ⟨_, rfl, done_of_eq (done_drawFrame h) ((outline_grant _).trans (outline_announce ..))⟩
  | roll w => exact ⟨_, rfl, done_onFrame h _ _ w fun f t ht => done_takeRoll ht f⟩
  | cut w => exact ⟨_, rfl, done_onFrame h _ _ w fun f t ht => done_takeCut ht f⟩
  | state w => exact ⟨_, rfl, done_onFrame h _ _ w fun f t ht => done_takeState_ ht f⟩
  | mark w => exact ⟨_, rfl, done_onFrame h _ _ w fun f t ht => done_takeMark ht f⟩
  | note w => exact ⟨_, rfl, done_onFrame h _ _ w fun f t ht => done_takeNote ht f⟩
  | jam w => exact ⟨_, rfl, done_onFrame h _ _ w fun f t ht => done_takeJam ht f⟩
  | reportReceived w => exact ⟨_, rfl, done_onFrame h _ _ w fun f t ht => ht⟩
  | receiveFilterDiscard w => exact ⟨_, rfl, h⟩
  | queryStatus w => exact ⟨_, rfl, done_onRequest h _ _ w fun q t ht => ht⟩
  | queryMeters w => exact ⟨_, rfl, done_onRequest h _ _ w fun q t ht => done_gated ht _ q ht⟩
  | queryTake w => exact ⟨_, rfl, done_onRequest h _ _ w fun q t ht => done_queryTake ht q⟩
  | searchJournal w => exact ⟨_, rfl, done_onRequest h _ _ w fun q t ht => done_searchJournal ht q⟩
  | arm w => exact ⟨_, rfl, done_onRequest h _ _ w fun q t ht => done_arm ht q⟩
  | mix w => exact ⟨_, rfl, done_onRequest h _ _ w fun q t ht => done_mix ht q⟩
  | verifyTake w => exact ⟨_, rfl, done_onRequest h _ _ w fun q t ht => done_verifyTake ht q⟩
  | prepareMedia w => exact ⟨_, rfl, done_onRequest h _ _ w fun q t ht => done_prepareMedia ht q⟩
  | releaseMedia w => exact ⟨_, rfl, done_onRequest h _ _ w fun q t ht => done_releaseMedia ht q⟩
  | abort w => exact ⟨_, rfl, done_onRequest h _ _ w fun q t ht => done_abort ht q⟩
  | rollLineRise edge =>
    refine ⟨_, rfl, done_ite ?_ h⟩
    unfold riseRoll
    dsimp only
    exact done_actRoll (s := State.queueTransport _ { s with engine := { s.engine with ownRoll := s.engine.ownRoll + 1, rollLine := some true, rollRiseTaken := true } }) h _ _
  | rollLineFall edge =>
    exact ⟨_, rfl, done_ite (done_ite (done_cutLocally (s := { s with engine := { s.engine with rollLine := some false } }) h edge) h) h⟩
  | markPulse edge => exact ⟨_, rfl, done_ite (done_pulseMark h edge) h⟩
  | cardInsertion wprot =>
    refine ⟨_, rfl, ?_⟩
    split
    · next hm => exact done_insertCard h wprot hm
    · exact h
  | cardRemoval => exact ⟨_, rfl, done_ite h (done_removeCard s fun hc => (hC hc).1 rfl)⟩
  | sizeReadComplete op blocks => exact ⟨_, rfl, done_complete h hport _ _ _ fun op t ht _ _ => done_sizeEnded ht _ op⟩
  | headerReadComplete op block => exact ⟨_, rfl, done_complete h hport _ _ _ fun op t ht _ _ => done_headerReadEnded ht _ op⟩
  | slotReadComplete op block => exact ⟨_, rfl, done_complete h hport _ _ _ fun op t ht _ _ => done_slotReadEnded ht _ op⟩
  | journalWriteComplete op ok =>
    exact ⟨_, rfl, done_complete h hport _ _ _ fun op t ht _ hc => done_journalEnded ht _ op fun hp => hc (by rw [hp]; decide)⟩
  | deferredProvisionalWrite => exact ⟨_, rfl, done_deferredProvisionalWrite h⟩
  | headerWriteComplete op ok =>
    refine ⟨_, rfl, done_complete h hport _ _ _ fun op t ht hk hc => done_headerWriteEnded ht _ op fun _ => hc ?_⟩
    have hkind : op.kind = .headerWrite := by
      generalize op.kind = k at hk
      unfold OpKind.isHeaderWrite at hk
      split at hk
      · rfl
      · cases hk
    rw [hkind]
    decide
  | segmentWriteComplete op failed =>
    exact ⟨_, rfl, done_ite (done_complete h hport _ _ _ fun op t ht _ hc => done_segmentEnded ht _ op fun hp => hc (by rw [hp]; decide)) h⟩
  | operationTimeout op => exact ⟨_, rfl, done_complete h hport _ _ _ fun op t ht _ hc => done_timedOut op ht hc⟩
  | prepareHeaderWriteAsk => exact ⟨_, rfl, done_prepareHeaderWriteAsk h⟩
  | prepareHeaderWriteComplete op ok => exact ⟨_, rfl, done_complete h hport _ _ _ fun op t ht _ _ => done_prepareHeaderEnded ht _ op⟩
  | prepareZeroWriteComplete op ok => exact ⟨_, rfl, done_complete h hport _ _ _ fun op t ht _ _ => done_prepareZeroEnded ht _ op⟩
  | releaseComplete => exact ⟨_, rfl, done_releaseIfDrained h⟩
  | verifyReadComplete op block => exact ⟨_, rfl, done_complete h hport _ _ _ fun op t ht _ _ => done_verifyReadEnded ht _ op⟩
  | initialState => exact ⟨_, rfl, done_ite (t := State.queueState { s with link := _ }) h h⟩
  | transmitAttemptStart => exact ⟨_, rfl, done_attemptStart h⟩
  | transmitComplete => exact ⟨_, rfl, done_transmitComplete h⟩
  | collision => exact ⟨_, rfl, done_collision h⟩
  | backoffComplete => exact ⟨_, rfl, done_backoffComplete h⟩
  | unknownRequest w =>
    refine ⟨_, rfl, ?_⟩
    split
    · exact h
    · exact done_takeUnknown h _
  | lineLevelAdopted line level =>
    refine ⟨_, rfl, ?_⟩
    split
    · exact done_ite (t := { s with engine := { s.engine with rollLine := some level } }) h h
    · exact done_ite (t := { s with engine := { s.engine with markLine := some level } }) h h

end State

end Sys2Proof.Machine

/-! What stands at the port of a card out of reach (R97, R102, R107): with no take, no queue and no long operation, only reads are asked. -/

namespace Sys2Proof.Machine

variable {s t : State} {n : Nat}

namespace State

/-- The blocks while there is no card, or one that is being scanned. -/
structure Bare (s : State) : Prop where
  cases : s.media.state = .absent ∨ s.media.state = .mounting
  out : ¬ s.media.state.Carded
  reads : s.port.ReadsOnly
  take : s.engine.takeState = .offline
  openTake : s.engine.openTake = none
  queue : s.writer.queue = []
  slot : s.verify.slot = .idle

theorem Coherent.bare (h : s.Coherent) (hout : ¬ s.media.state.Carded) : s.Bare := by
  obtain ⟨hok, hport⟩ := (coherent_iff s).1 h
  have hcases : s.media.state = .absent ∨ s.media.state = .mounting := by
    by_contra hne
    exact hout (not_or.1 hne)
  have hready : s.media.state ≠ .ready ∧ s.media.state ≠ .full := by rcases hcases with hm | hm <;> rw [hm] <;> decide
  have htake : s.engine.takeState = .offline := hok.station.offline.2 fun hm => hready.1 hm.1
  have hopen : s.engine.openTake = none := Option.not_isSome_iff_eq_none.1 fun hsome => by
    rcases hok.engine.opened.1 hsome with hx | hx <;> exact absurd (htake.symm.trans hx) (by decide)
  exact ⟨hcases, hout, hport.resolve_left hout, htake, hopen, List.map_eq_nil_iff.1 (hok.station.carded hready), hok.mount.idle hcases⟩

namespace Bare

theorem cannotWrite (h : s.Bare) : s.canWriteJournal = false := by
  unfold canWriteJournal
  rcases h.cases with hm | hm <;> rw [hm] <;> rfl

theorem barsMirror (h : s.Bare) : s.media.state.barsMirror = some .noMedia := by
  rcases h.cases with hm | hm <;> rw [hm] <;> rfl

theorem release (h : s.Bare) (id : Nat) : (s.release id).Bare :=
  { h with reads := fun op hop => h.reads op ((List.Sublist.append_left List.filter_sublist _).subset hop) }

end Bare

/-! ### What keeps the port -/

theorem readsOnly_grant (h : s.port.ReadsOnly) : s.grant.port.ReadsOnly := by
  refine grant_induct (P := fun k => k.priority = 3) (Q := fun u => u.port.ReadsOnly) (.inr fun op hop => h op (List.mem_append_left _ hop)) ?_ ?_ h
  · intro u p hu op hop
    exact hu op ((List.Sublist.append_right List.filter_sublist _).subset hop)
  · intro u op hop hu x hx
    obtain ⟨op', -, hkind, -, hport⟩ := u.grantOp_port op
    rw [hport, ← List.append_assoc, List.mem_append, List.mem_singleton] at hx
    rcases hx with hx | rfl
    · exact hu x hx
    · rw [hkind]
      exact hop

theorem readsOnly_ask (h : s.port.ReadsOnly) {kind : OpKind} (hk : kind.priority = 3) (a : Nat) (b : Option (List Byte)) (f : Bool) :
    (s.ask kind a b f).port.ReadsOnly := by
  intro op hop
  simp only [ask_port, List.mem_append, List.mem_singleton] at hop
  rcases hop with (hop | rfl) | hop
  · exact h op (List.mem_append_left _ hop)
  · exact hk
  · exact h op (List.mem_append_right _ hop)

theorem readsOnly_askSlots (h : s.port.ReadsOnly) (first n : Nat) : (s.askSlots first n).port.ReadsOnly := by
  unfold askSlots
  generalize (List.range n).map (first + ·) = l
  induction l generalizing s with
  | nil => exact h
  | cons k l ih => exact ih (readsOnly_ask h (kind := .slotRead k) rfl 1 none false)

theorem port_changeRecord (h : s.canWriteJournal = false) (n : Nat) : (s.changeRecord n).port = s.port := by
  unfold changeRecord
  split
  · rfl
  · rw [h]
    simp

theorem port_noteTake (h : s.canWriteJournal = false) (st : SlateStamp) (fs : NoteFields) (n : Nat) : (s.noteTake st fs n).port = s.port := by
  unfold noteTake
  split
  · rfl
  · dsimp only
    split
    · rfl
    · rw [port_changeRecord]
      · simp
      · exact (canWriteJournal_congr (by simp) (by simp)).trans h

/-! ### Without an open take -/

theorem tailIfDue_of_none (h : s.engine.openTake = none) : s.tailIfDue = s := by
  have hdue : s.tailDue = none := by
    unfold tailDue
    rw [h]
    split
    · next heq _ => cases heq
    · rfl
  unfold tailIfDue
  rw [hdue]

theorem lengthIfDue_of_none (h : s.engine.openTake = none) : s.lengthIfDue = s := by
  unfold lengthIfDue lengthDue
  rw [h]

/-- No station becomes usable without a READY card (R38). -/
theorem Bare.refreshStation (h : s.Bare) : s.refreshStation = s := by
  have hready : s.media.state ≠ .ready := by rcases h.cases with hm | hm <;> rw [hm] <;> decide
  rw [refreshStation_of_offline h.take, if_neg fun hx => hready hx.1]

theorem Bare.clockReturnIfDue (h : s.Bare) : s.clockReturnIfDue.Bare := by
  unfold State.clockReturnIfDue returnClock
  split
  · have hback : ({ s with intake := { s.intake with clock := .running } } : State).Bare := ⟨h.cases, h.out, h.reads, h.take, h.openTake, h.queue, h.slot⟩
    rw [hback.refreshStation]
    unfold announce
    split <;> exact ⟨h.cases, h.out, h.reads, h.take, h.openTake, h.queue, h.slot⟩
  · exact h

theorem Bare.settleDue (h : s.Bare) : s.settleDue.Bare := by
  have hmeter : s.clockReturnIfDue.meterIfDue.Bare := by
    have hc := h.clockReturnIfDue
    unfold meterIfDue
    split
    · exact ⟨hc.cases, hc.out, hc.reads, hc.take, hc.openTake, hc.queue, hc.slot⟩
    · exact hc
  unfold State.settleDue
  rw [tailIfDue_of_none hmeter.openTake, lengthIfDue_of_none hmeter.openTake]
  exact hmeter

theorem rollingTake_of_none (h : s.engine.openTake = none) : s.rollingTake = none := by
  unfold rollingTake
  rw [h, ite_self]

theorem openNow_of_none (h : s.engine.openTake = none) : s.openNow = none := by
  unfold openNow
  rw [h, ite_self]

theorem drawFrame_of_nil (h : s.writer.queue = []) : s.drawFrame = s := by
  unfold drawFrame filling
  rw [h]
  rfl

end State

end Sys2Proof.Machine

/-! What the commands ask of the port while there is no card in reach: reads of the mount, and no write (R95, R97, R102, R107). -/

namespace Sys2Proof.Machine

variable {s t : State} {n : Nat}

namespace State

/-! ### The port of a card out of reach, after every command -/

/-- The card is in reach, or only reads stand at the port. -/
def Reads (s : State) : Prop := s.media.state.Carded ∨ s.port.ReadsOnly

theorem Reads.grant (h : s.Reads) : s.grant.Reads := by
  unfold Reads
  rw [(grant_frame ..).2.2.2.2.1]
  exact h.imp_right readsOnly_grant

theorem Reads.announce (h : t.Reads) (s0 : State) : (announce s0 t).Reads := by
  unfold Reads
  rw [(announce_frame ..).2.2.2.2.2.1, (announce_frame ..).2.2.2.2.2.2.1]
  exact h

theorem Bare.kept (h : s.Bare) (hport : t.port = s.port) : t.Reads := .inr (hport ▸ h.reads)

theorem Bare.ite (h : s.Bare) {p : Prop} [Decidable p] (ht : t.port = s.port) : (if p then t else s).Reads := by
  split
  · exact h.kept ht
  · exact h.kept rfl

theorem port_noteConflict (s : State) (f : Frame) : (s.noteConflict f).port = s.port := by
  unfold noteConflict
  split <;> rfl

theorem Bare.noteConflict (h : s.Bare) (f : Frame) : (s.noteConflict f).Bare := by
  unfold State.noteConflict
  split
  · exact ⟨h.cases, h.out, h.reads, h.take, h.openTake, h.queue, h.slot⟩
  · exact h

theorem Bare.onFrame (h : s.Bare) (k : FrameKind) (owner : Frame → State → State) (w : Wire)
    (howner : ∀ (f : Frame) (t : State), t.Bare → (owner f t).Reads) : (s.onFrame k owner w).Reads := by
  unfold State.onFrame
  split
  · exact h.kept rfl
  · next f _ => exact howner f _ (h.noteConflict f)

theorem Bare.onRequest (h : s.Bare) (k : RequestKind) (carry : Request → State → State) (w : Wire)
    (hcarry : ∀ (q : Request) (t : State), t.Bare → (carry q t).Reads) : (s.onRequest k carry w).Reads := by
  unfold State.onRequest
  split
  · exact h.kept rfl
  · next f _ =>
    split
    · exact h.kept rfl
    · split
      · split
        · exact hcarry _ _ (h.noteConflict f)
        · exact h.kept (s.port_noteConflict f)
      · exact h.kept rfl

/-- Only the end of a read changes a card out of reach. -/
theorem Bare.complete (h : s.Bare) (id : Nat) (p : OpKind → Bool) (act : Op → State → State)
    (hact : ∀ (op : Op) (t : State), t.Bare → op.kind.priority = 3 → p op.kind = true → (act op t).Reads) : (s.complete id p act).Reads := by
  unfold State.complete
  split
  · exact h.kept rfl
  · next op hop =>
    have hkind := List.find?_some hop
    simp only [Bool.and_eq_true] at hkind
    exact (hact op _ (h.release id) (h.reads op (List.mem_append_right _ (List.mem_of_find?_eq_some hop))) hkind.2).grant

theorem port_gated {carry : State → State} (bar : Option Detail) (q : Request) (hc : (carry s).port = s.port) : (s.gated bar q carry).port = s.port := by
  unfold gated
  split
  · rfl
  · exact hc

theorem port_actRoll (hopen : s.engine.openTake = none) (hoff : s.engine.takeState = .offline) (k : TakeKey) (pt : Point) :
    (s.actRoll k pt).port = s.port := by
  have hrefused : s.refusalOf = some .notReady := by
    unfold refusalOf
    exact if_pos (.inl hoff)
  unfold actRoll
  rw [hopen, hrefused]
  rfl

theorem port_takeRoll (hopen : s.engine.openTake = none) (hoff : s.engine.takeState = .offline) (f : Frame) : (s.takeRoll f).port = s.port := by
  unfold takeRoll
  generalize rollNumber f.payload = n
  extract_lets m
  split
  · next s1 _ =>
    subst s1
    subst m
    dsimp only
    have hkept : (s.engine.setLastRoll f.sender n).openTake = none ∧ (s.engine.setLastRoll f.sender n).takeState = .offline := by
      unfold Engine.setLastRoll
      exact ⟨hopen, hoff⟩
    generalize s.engine.setLastRoll f.sender n = e at hkept
    split
    · exact port_actRoll (s := { s with engine := e }) hkept.1 hkept.2 ..
    · rfl
  · rfl

theorem port_takeCut (hopen : s.engine.openTake = none) (f : Frame) : (s.takeCut f).port = s.port := by
  unfold takeCut
  rw [rollingTake_of_none hopen]

theorem port_takeState_ (hopen : s.engine.openTake = none) (f : Frame) : (s.takeState_ f).port = s.port := by
  unfold takeState_
  rw [rollingTake_of_none hopen]

theorem port_takeMark (hopen : s.engine.openTake = none) (f : Frame) : (s.takeMark f).port = s.port := by
  unfold takeMark
  rw [openNow_of_none hopen]

theorem port_cutLocally (hopen : s.engine.openTake = none) (edge : Nat) : (s.cutLocally edge).port = s.port := by
  unfold cutLocally
  dsimp only
  rw [rollingTake_of_none (s := s.queueTransport _) hopen]
  rfl

theorem port_pulseMark (hopen : s.engine.openTake = none) (edge : Nat) : (s.pulseMark edge).port = s.port := by
  unfold pulseMark
  dsimp only
  split
  · rfl
  · next n hn => exact absurd ((openNow_of_none hopen).symm.trans hn) (by simp)

theorem Bare.loseClock (h : s.Bare) : s.loseClock.Reads := by
  unfold State.loseClock
  dsimp only
  rw [h.openTake]
  exact (Reads.announce (h.kept (by simp)) s).grant

theorem Bare.takeNote (h : s.Bare) (f : Frame) : (s.takeNote f).Reads := by
  unfold State.takeNote
  split
  · exact h.kept rfl
  · dsimp only
    split
    · exact h.kept rfl
    · split
      · exact h.kept rfl
      · exact (h.kept (port_noteTake h.cannotWrite ..)).grant
    · split
      · exact h.kept rfl
      · exact (h.kept (port_noteTake h.cannotWrite ..)).grant

/-! ### The mount (R95, R107) -/

theorem carded_unprepared : MediaState.unprepared.Carded := ⟨nofun, nofun⟩

theorem Bare.sizeEnded (h : s.Bare) (blocks : Option Nat) (op : Op) (hop : op.kind.priority = 3) : (s.sizeEnded blocks op).Reads := by
  have hcapacity (b : Nat) : (s.setCapacity b).Reads := by
    unfold setCapacity
    dsimp only
    split
    · exact .inl carded_unprepared
    · exact .inr (readsOnly_ask (s := State.setMount _ _) (kind := .headerRead) h.reads rfl 1 none false)
  unfold State.sizeEnded
  split
  · refine Reads.announce ?_ s
    split
    · exact hcapacity _
    · split
      · exact .inr (readsOnly_ask h.reads hop (op.attempt + 1) op.block op.isFinal)
      · exact hcapacity 0
  · exact h.kept rfl

theorem Bare.headerReadEnded (h : s.Bare) (block : Option (List Byte)) (op : Op) (hop : op.kind.priority = 3) : (s.headerReadEnded block op).Reads := by
  unfold State.headerReadEnded
  split
  · refine Reads.announce ?_ s
    split
    · exact .inr (readsOnly_ask h.reads hop (op.attempt + 1) op.block op.isFinal)
    · unfold judgeHeader takeHeader
      split
      · exact .inl carded_unprepared
      · refine .inr (readsOnly_askSlots ?_ 1 scanBatch)
        exact h.reads
  · exact h.kept rfl

/-- The mount has ended on a card in reach. -/
def Landed (s : State) : Prop := s.media.state.Carded ∧ s.media.mount = .none

theorem landed_endMount (s : State) : s.endMount.Landed := by
  unfold Landed
  have hask (l : List Nat) (t : State) : (l.foldl (fun s n => s.askWrite n) t).media = t.media := by
    induction l generalizing t with
    | nil => rfl
    | cons n l ih => exact (ih _).trans (by simp)
  have hflag (l : List Nat) (t : State) : (l.foldl (fun s n => s.flagRecord n .unsaved) t).media = t.media := by
    induction l generalizing t with
    | nil => rfl
    | cons n l ih => exact (ih _).trans (by simp)
  unfold endMount
  dsimp only
  split
  · rw [hflag]
    exact ⟨⟨nofun, nofun⟩, rfl⟩
  · rw [hask, (refreshStation_frame ..).2.2.2.1]
    exact ⟨⟨nofun, nofun⟩, rfl⟩

theorem reads_scanOn (h : s.port.ReadsOnly) (k last run : Nat) (results : List (Nat × Option (List Byte))) : (s.scanOn k last run results).Landed ∨ (s.scanOn k last run results).port.ReadsOnly := by
  unfold scanOn
  split
  · exact .inl s.landed_endMount
  · split
    · refine .inr (readsOnly_askSlots ?_ (k + 1) scanBatch)
      exact h
    · exact .inr h

theorem reads_examineSlot (h : s.port.ReadsOnly) (k last run : Nat) (results : List (Nat × Option (List Byte))) (content : Option (List Byte)) :
    (s.examineSlot k last run results content).Landed ∨ (s.examineSlot k last run results content).port.ReadsOnly := by
  unfold examineSlot
  split
  · exact .inl s.landed_endMount
  · exact .inl s.landed_endMount
  · exact reads_scanOn (s := s.enterSlot _) h ..
  · split
    · exact .inl (landed_endMount _)
    · exact reads_scanOn (s := s.enterSlot _) h ..

theorem reads_examine (fuel : Nat) (h : s.Landed ∨ s.port.ReadsOnly) : (s.examine fuel).Reads := by
  induction fuel generalizing s with
  | zero => exact h.imp_left And.left
  | succ fuel ih =>
    rw [examine]
    split
    · next hmount =>
      split
      · exact h.imp_left And.left
      · refine ih (reads_examineSlot (h.resolve_left fun hl => ?_) ..)
        exact Mount.noConfusion (hl.2.symm.trans hmount)
    all_goals exact h.imp_left And.left

theorem Bare.slotReadEnded (h : s.Bare) (content : Option (List Byte)) (op : Op) (hop : op.kind.priority = 3) : (s.slotReadEnded content op).Reads := by
  unfold State.slotReadEnded
  split
  · split
    · exact .inr (readsOnly_ask h.reads hop (op.attempt + 1) op.block op.isFinal)
    · exact Reads.announce (reads_examine (s := s.setMount (.scan ..)) _ (.inr h.reads)) s
  · exact h.kept rfl

theorem Bare.verifyReadEnded (h : s.Bare) (block : Option (List Byte)) (op : Op) : (s.verifyReadEnded block op).Reads := by
  have heq : s.verifyReadEnded block op = s := by
    unfold State.verifyReadEnded
    rw [h.slot]
  rw [heq]
  exact h.kept rfl

theorem Bare.timedOut (h : s.Bare) (op : Op) (hop : op.kind.priority = 3) : (s.timedOut op).Reads := by
  unfold State.timedOut
  split
  · exact h.sizeEnded _ op hop
  · exact h.headerReadEnded _ op hop
  · exact h.slotReadEnded _ op hop
  · exact h.verifyReadEnded _ op
  all_goals
    next hkind => exact absurd (hop.symm.trans (congrArg OpKind.priority hkind)) (by simp [OpKind.priority])

end State

end Sys2Proof.Machine

/-! Every step keeps the blocks coherent (R37, R38, R83, R84, R107, R116, R123, R145, R148). -/

namespace Sys2Proof.Machine

variable {s t : State} {n : Nat}

namespace State

theorem port_queryTake (s : State) (q : Request) : (s.queryTake q).port = s.port := by
  refine port_gated _ q ?_
  unfold answerTake
  split
  · rfl
  · split
    · rfl
    · split
      · rfl
      · split <;> rfl

theorem port_searchJournal (s : State) (q : Request) : (s.searchJournal q).port = s.port := by
  refine port_gated _ q ?_
  split <;> rfl

theorem port_arm (s : State) (q : Request) : (s.arm q).port = s.port := by
  refine port_gated _ q ?_
  unfold applyArm
  split
  · rfl
  · unfold setArm
    split <;> rfl

theorem port_mix (s : State) (q : Request) : (s.mix q).port = s.port := by
  refine port_gated _ q ?_
  split <;> rfl

/-- A removal leaves nothing at the port (R115). -/
theorem port_removeCard (s : State) : s.removeCard.port.ReadsOnly := by
  have hport : s.removeCard.port = { s.port with waiting := [], outstanding := [] } := by
    unfold removeCard reportRemoval
    split <;> simp [finalReport, queueReport, dropCard, clearOpen, setTake]
  rw [hport]
  exact nofun

/-- A long operation is refused while there is no card in reach (R116, R148, R177). -/
theorem Bare.verifyTake (h : s.Bare) (q : Request) : (s.verifyTake q).Reads := by
  have href : s.askVerify q (field q.args 0 2) = s.refuse q .noMedia := by
    unfold askVerify verifyRefusal
    rw [h.barsMirror]
  unfold State.verifyTake
  rw [href]
  exact (h.kept (t := s.refuse q .noMedia) rfl).grant

theorem Bare.prepareMedia (h : s.Bare) (q : Request) : (s.prepareMedia q).Reads := by
  have hgate : s.prepareGate = .refused .noMedia := by
    rcases h.cases with hm | hm <;> simp [prepareGate, hm]
  unfold State.prepareMedia
  rw [hgate]
  exact h.kept rfl

theorem Bare.releaseMedia (h : s.Bare) (q : Request) : (s.releaseMedia q).Reads := by
  have hgate : s.releaseGate = .refused .noMedia := by
    rcases h.cases with hm | hm <;> simp [releaseGate, hm]
  unfold State.releaseMedia
  rw [hgate]
  exact h.kept rfl

theorem Bare.abort (h : s.Bare) (q : Request) : (s.abort q).Reads := by
  refine h.kept (port_gated _ q ?_)
  unfold applyAbort
  rw [h.slot]
  rfl

theorem Bare.storeFrame (h : s.Bare) (words : Vector (Option Sample) 16) : (s.storeFrame words).Reads := by
  unfold State.storeFrame chargeAll advancePosition
  dsimp only
  rw [h.queue, List.map_nil, List.foldl_nil]
  split <;> exact h.kept rfl

theorem Bare.riseRoll (h : s.Bare) (edge : Nat) : (s.riseRoll edge).Reads := by
  unfold State.riseRoll
  dsimp only
  refine h.kept ((port_actRoll ?_ ?_ ..).trans rfl)
  · exact h.openTake
  · exact h.take

theorem Bare.deferredProvisionalWrite (h : s.Bare) : (match s.deferredSlot with
    | none => s
    | some n =>
      let s1 := s.modifySlot n fun sl => { sl with held := false }
      (if s1.canWriteJournal then s1.askWrite n else s1.flagRecord n .unsaved).grant).Reads := by
  split
  · exact h.kept rfl
  · next n _ =>
    have hcannot : (s.modifySlot n fun sl => { sl with held := false }).canWriteJournal = false :=
      (canWriteJournal_congr (by simp) (by simp)).trans h.cannotWrite
    dsimp only
    rw [hcannot]
    exact (h.kept (t := State.flagRecord _ _ _) (by simp)).grant

theorem OpKind.priority_of_write {k : OpKind}
    (h : k.isJournalWrite = true ∨ k.isHeaderWrite = true ∨ k.isSegmentWrite = true ∨ k.isPrepareHeader = true ∨ k.isPrepareZero = true) : k.priority ≠ 3 := by
  cases k <;> simp [OpKind.isJournalWrite, OpKind.isHeaderWrite, OpKind.isSegmentWrite, OpKind.isPrepareHeader, OpKind.isPrepareZero, OpKind.priority] at h ⊢

/-- No write ends on a card out of reach. -/
theorem Bare.completeWrite (h : s.Bare) (id : Nat) {p : OpKind → Bool} (act : Op → State → State)
    (hp : ∀ k, p k = true → k.isJournalWrite = true ∨ k.isHeaderWrite = true ∨ k.isSegmentWrite = true ∨ k.isPrepareHeader = true ∨ k.isPrepareZero = true) :
    (s.complete id p act).Reads := h.complete id p act fun _ _ _ hop hk => absurd hop (OpKind.priority_of_write (hp _ hk))

theorem Bare.insertCard (h : s.Bare) (wprot : Bool) : (s.insertCard wprot).Reads := by
  unfold State.insertCard
  refine (Reads.announce (.inr (readsOnly_ask ?_ ?_ 1 none false)) s).grant
  · exact h.reads
  · rfl

/-- Out of reach of a card, no command asks a write. -/
theorem Bare.exec_reads (h : s.Bare) (c : Instr) : ∃ t, exec c s = .next t ∧ t.Reads := by
  cases c with
  | reset straps => exact ⟨_, rfl, .inr nofun⟩
  | frameStore interval words =>
    refine ⟨_, rfl, ?_⟩
    split
    · exact (h.settleDue.storeFrame words).grant
    · exact h.kept rfl
  | clockLoss why =>
    refine ⟨_, rfl, ?_⟩
    split
    · exact h.clockReturnIfDue.loseClock
    · exact h.kept rfl
  | qualifyingPeriod interval => exact ⟨_, rfl, h.ite (t := { s with intake := { s.intake with qualification := _ } }) rfl⟩
  | clockReturn => exact ⟨_, rfl, h.clockReturnIfDue.kept rfl⟩
  | meterWindowComplete => exact ⟨_, rfl, h.ite (t := s.completeWindow) rfl⟩
  | tailEnd => exact ⟨_, rfl, h.kept (congrArg _ (tailIfDue_of_none h.openTake))⟩
  | lengthSplit => exact ⟨_, rfl, h.kept (congrArg _ (lengthIfDue_of_none h.openTake))⟩
  | frameDraw =>
    refine ⟨_, rfl, ?_⟩
    rw [drawFrame_of_nil h.queue]
    exact (Reads.announce (h.kept rfl) s).grant
  | roll w => exact ⟨_, rfl, h.onFrame _ _ w fun f t ht => ht.kept (port_takeRoll ht.openTake ht.take f)⟩
  | cut w => exact ⟨_, rfl, h.onFrame _ _ w fun f t ht => ht.kept (port_takeCut ht.openTake f)⟩
  | state w => exact ⟨_, rfl, h.onFrame _ _ w fun f t ht => ht.kept (port_takeState_ ht.openTake f)⟩
  | mark w => exact ⟨_, rfl, h.onFrame _ _ w fun f t ht => ht.kept (port_takeMark ht.openTake f)⟩
  | note w => exact ⟨_, rfl, h.onFrame _ _ w fun f t ht => ht.takeNote f⟩
  | jam w => exact ⟨_, rfl, h.onFrame _ _ w fun f t ht => ht.ite (t := { t with timecode := _ }) rfl⟩
  | reportReceived w => exact ⟨_, rfl, h.onFrame _ _ w fun f t ht => ht.kept rfl⟩
  | receiveFilterDiscard w => exact ⟨_, rfl, h.kept rfl⟩
  | queryStatus w => exact ⟨_, rfl, h.onRequest _ _ w fun q t ht => ht.kept rfl⟩
  | queryMeters w => exact ⟨_, rfl, h.onRequest _ _ w fun q t ht => ht.kept (port_gated _ q rfl)⟩
  | queryTake w => exact ⟨_, rfl, h.onRequest _ _ w fun q t ht => ht.kept (t.port_queryTake q)⟩
  | searchJournal w => exact ⟨_, rfl, h.onRequest _ _ w fun q t ht => ht.kept (t.port_searchJournal q)⟩
  | arm w => exact ⟨_, rfl, h.onRequest _ _ w fun q t ht => ht.kept (t.port_arm q)⟩
  | mix w => exact ⟨_, rfl, h.onRequest _ _ w fun q t ht => ht.kept (t.port_mix q)⟩
  | verifyTake w => exact ⟨_, rfl, h.onRequest _ _ w fun q t ht => ht.verifyTake q⟩
  | prepareMedia w => exact ⟨_, rfl, h.onRequest _ _ w fun q t ht => ht.prepareMedia q⟩
  | releaseMedia w => exact ⟨_, rfl, h.onRequest _ _ w fun q t ht => ht.releaseMedia q⟩
  | abort w => exact ⟨_, rfl, h.onRequest _ _ w fun q t ht => ht.abort q⟩
  | rollLineRise edge =>
    refine ⟨_, rfl, ?_⟩
    split
    · exact h.riseRoll edge
    · exact h.kept rfl
  | rollLineFall edge =>
    refine ⟨_, rfl, ?_⟩
    split
    · dsimp only
      split
      · exact h.kept (port_cutLocally (s := { s with engine := { s.engine with rollLine := some false } }) h.openTake edge)
      · exact h.kept rfl
    · exact h.kept rfl
  | markPulse edge => exact ⟨_, rfl, h.ite (port_pulseMark h.openTake edge)⟩
  | cardInsertion wprot =>
    refine ⟨_, rfl, ?_⟩
    split
    · exact h.insertCard wprot
    · exact h.kept rfl
  | cardRemoval => 
    refine ⟨_, rfl, ?_⟩
    split
    · exact h.kept rfl
    · exact .inr s.port_removeCard
  | sizeReadComplete op blocks => exact ⟨_, rfl, h.complete _ _ _ fun op t ht hop _ => ht.sizeEnded _ op hop⟩
  | headerReadComplete op block => exact ⟨_, rfl, h.complete _ _ _ fun op t ht hop _ => ht.headerReadEnded _ op hop⟩
  | slotReadComplete op block => exact ⟨_, rfl, h.complete _ _ _ fun op t ht hop _ => ht.slotReadEnded _ op hop⟩
  | journalWriteComplete op ok => exact ⟨_, rfl, h.completeWrite _ _ fun k hk => .inl hk⟩
  | deferredProvisionalWrite => exact ⟨_, rfl, h.deferredProvisionalWrite⟩
  | headerWriteComplete op ok => exact ⟨_, rfl, h.completeWrite _ _ fun k hk => .inr (.inl hk)⟩
  | segmentWriteComplete op failed =>
    refine ⟨_, rfl, ?_⟩
    split
    · exact h.completeWrite _ _ fun k hk => .inr (.inr (.inl hk))
    · exact h.kept rfl
  | operationTimeout op => exact ⟨_, rfl, h.complete _ _ _ fun op t ht hop _ => ht.timedOut op hop⟩
  | prepareHeaderWriteAsk =>
    have hnone : s.preparingIn .waiting = none := by
      unfold preparingIn
      rw [h.slot]
    refine ⟨_, rfl, ?_⟩
    rw [hnone]
    exact h.kept rfl
  | prepareHeaderWriteComplete op ok => exact ⟨_, rfl, h.completeWrite _ _ fun k hk => .inr (.inr (.inr (.inl hk)))⟩
  | prepareZeroWriteComplete op ok => exact ⟨_, rfl, h.completeWrite _ _ fun k hk => .inr (.inr (.inr (.inr hk)))⟩
  | releaseComplete =>
    refine ⟨_, rfl, h.kept ?_⟩
    unfold releaseIfDrained
    rw [h.slot]
  | verifyReadComplete op block => exact ⟨_, rfl, h.complete _ _ _ fun op t ht _ _ => ht.verifyReadEnded _ op⟩
  | initialState => exact ⟨_, rfl, h.ite (t := State.queueState { s with link := _ }) rfl⟩
  | transmitAttemptStart =>
    refine ⟨_, rfl, h.kept ?_⟩
    split
    · rfl
    · split
      · unfold clearNotice
        split <;> rfl
      · rfl
  | transmitComplete =>
    refine ⟨_, rfl, h.kept ?_⟩
    split
    · rfl
    · split
      · simp
      · rfl
  | collision =>
    refine ⟨_, rfl, h.kept ?_⟩
    split
    · rfl
    · split
      · split
        · rfl
        · simp
      · rfl
  | backoffComplete =>
    refine ⟨_, rfl, h.kept ?_⟩
    split
    · rfl
    · split <;> rfl
  | unknownRequest w =>
    refine ⟨_, rfl, h.kept ?_⟩
    split
    · rfl
    · unfold takeUnknown
      split
      · exact s.port_noteConflict _
      · split
        · rfl
        · exact s.port_noteConflict _
  | lineLevelAdopted line level =>
    refine ⟨_, rfl, h.kept ?_⟩
    split <;> split <;> rfl

/-! ### A step -/

/-- The command takes the card out of reach. -/
def RemovesCard (c : Instr) : Prop := c = .cardRemoval ∨ ∃ straps, c = .reset straps

/-- After a removal or a reset nothing stands at the port; any other command keeps a card in reach. -/
theorem exec_reads_of_carded (hcard : s.media.state.Carded) {c : Instr} (hc : RemovesCard c) : ∃ t, exec c s = .next t ∧ t.port.ReadsOnly := by
  rcases hc with rfl | ⟨straps, rfl⟩
  · refine ⟨_, rfl, ?_⟩
    rw [if_neg hcard.1]
    exact s.port_removeCard
  · exact ⟨_, rfl, nofun⟩

theorem exec_coherent (h : s.Coherent) (c : Instr) :
    ∃ t, exec c s = .next t ∧ t.Coherent ∧ (s.HoldersSound → t.HoldersSound) ∧ (s.MirrorSound → t.MirrorSound) := by
  obtain ⟨hok, hport⟩ := (coherent_iff s).1 h
  have hdone := hok.done
  have hfin {t : State} {C : Prop} (ht : t.outline.Done C s.outline.HoldersOk s.outline.Indexed) (hreads : t.Reads) :
      t.Coherent ∧ (s.HoldersSound → t.HoldersSound) ∧ (s.MirrorSound → t.MirrorSound) :=
    ⟨(coherent_iff t).2 ⟨ht.ok, hreads⟩, fun hs => (holdersSound_iff t).2 (ht.holdersOk ((holdersSound_iff s).1 hs)),
      fun hs => (mirrorSound_iff t).2 (ht.indexed ((mirrorSound_iff s).1 hs))⟩
  by_cases hremoves : RemovesCard c
  · obtain ⟨t, ht, hdone'⟩ := exec_done (C := False) c { hdone with reach := False.elim } hport nofun
    refine ⟨t, ht, hfin hdone' ?_⟩
    by_cases hcard : s.media.state.Carded
    · obtain ⟨u, hu, hreads⟩ := exec_reads_of_carded hcard hremoves
      obtain rfl := Host.Outcome.next.inj (ht.symm.trans hu)
      exact .inr hreads
    · obtain ⟨u, hu, hreads⟩ := (Coherent.bare h hcard).exec_reads c
      obtain rfl := Host.Outcome.next.inj (ht.symm.trans hu)
      exact hreads
  · obtain ⟨t, ht, hdone'⟩ := exec_done c hdone hport fun _ => ⟨fun he => hremoves (.inl he), fun straps he => hremoves (.inr ⟨straps, he⟩)⟩
    refine ⟨t, ht, hfin hdone' ?_⟩
    by_cases hcard : s.media.state.Carded
    · exact .inl (hdone'.reach hcard)
    · obtain ⟨u, hu, hreads⟩ := (Coherent.bare h hcard).exec_reads c
      obtain rfl := Host.Outcome.next.inj (ht.symm.trans hu)
      exact hreads

end State

/-- Settles O57. A step is the front command on the state without it; the outline carries the coherence through every command, and on a card
out of reach no command asks a write. -/
theorem stepKeepsTheBlocksCoherent : Obligations.StepKeepsTheBlocksCoherent := by
  unfold Obligations.StepKeepsTheBlocksCoherent
  intro s t h hstep
  cases hp : s.pending with
  | nil =>
    rw [step, hp] at hstep
    obtain rfl := Host.Outcome.next.inj hstep
    exact ⟨h, id, id⟩
  | cons c rest =>
    rw [step, hp] at hstep
    have hrest : (s.withPending rest).Coherent := (State.coherent_iff _).2 ((State.coherent_iff s).1 h)
    obtain ⟨u, hu, hcoherent, hholders, hmirror⟩ := State.exec_coherent hrest c
    obtain rfl := Host.Outcome.next.inj (hstep.symm.trans hu)
    exact ⟨hcoherent, hholders, hmirror⟩

end Sys2Proof.Machine

/-! The accounts of a take that opens where no frame has been stored yet. -/

namespace Sys2Proof.Machine

/-- A profile of two lanes at 48 kHz. -/
def twoLanes : Profile where
  rate := .hz48000
  frameRate := .r25
  armMask := 3
  mixEnable := false
  preRoll := 0
  postRoll := 0
  maxLength := 1
  followSet := 0

/-- A station in STANDBY whose fill start lies one frame ahead of the intake position, as its ROLL line rises. Below the top of the position no
command puts the fill start there (R4, R14); a free value of the position past the top can leave it there (notes/assumptions/2). -/
def filledAhead : State :=
  { State.reset with
    intake := { State.reset.intake with clock := .running, fillStart := 1, armMask := 3 }
    engine := { State.reset.engine with takeState := .standby, rollLine := some false }
    media := { State.reset.media with
      state := .ready, capacity := some 10000, generation := some 1, headerProfile := some twoLanes, profile := some twoLanes
      cursor := some audioFirst }
    pending := [.rollLineRise 0] }

theorem accounts_filledAhead : filledAhead.Coherent ∧ filledAhead.HoldersSound ∧ filledAhead.port.Sound ∧ filledAhead.FramesSound
    ∧ filledAhead.SegmentsSound ∧ filledAhead.intake.position + 1 < 2 ^ 48 :=
  ⟨by decide +kernel, by decide +kernel, by decide +kernel, by decide +kernel, by decide +kernel, by decide +kernel⟩

/-- An OPEN take of an outcome needs a frame beyond the intake position and its start next. -/
def opensAhead : Host.Outcome State Fault Refusal → Bool
  | .next t => t.writer.queue.any fun e => (t.recordAt e.index).any fun r =>
      r.state == .opened && decide (max r.start t.intake.position < e.next)
  | .fault _ => false
  | .refused _ => false

theorem opensAhead_step : opensAhead (step filledAhead) = true := by decide +kernel

theorem not_framesSound_of_opensAhead {t : State} (h : opensAhead (.next t) = true) : ¬ t.FramesSound := by
  rintro ⟨-, hqueue, -⟩
  simp only [opensAhead, List.any_eq_true, Option.any_eq_true, Bool.and_eq_true, beq_iff_eq, decide_eq_true_eq] at h
  obtain ⟨e, he, r, hr, hopened, hahead⟩ := h
  obtain ⟨-, -, -, hopen⟩ := hqueue e he r hr
  exact absurd (hopen hopened).1 (not_le.2 hahead)

/-- Refutes O59: none of its hypotheses bounds the fill start by the intake position, and a take that opens with the fill start ahead of it is
charged for frames that have not been stored. -/
theorem not_stepKeepsTheAccountsOfEveryTake : ¬ Obligations.StepKeepsTheAccountsOfEveryTake := by
  unfold Obligations.StepKeepsTheAccountsOfEveryTake
  rintro ⟨hkeeps, -⟩
  obtain ⟨hcoherent, hholders, hport, hframes, hsegments, hposition⟩ := accounts_filledAhead
  obtain ⟨t, ht⟩ : ∃ t, step filledAhead = .next t := ⟨_, rfl⟩
  exact not_framesSound_of_opensAhead (ht ▸ opensAhead_step) (hkeeps filledAhead t hcoherent hholders hport hframes hsegments hposition ht).1

end Sys2Proof.Machine
